-- ==== Sys2Proof/Word.lean ====
section
/-! DEFINITION. The word types of the two serial lines. Everything else the manual counts (positions, times, numbers
of things) is a natural number, because the manual never treats it as bits. -/

namespace Sys2Proof

/-- A byte of the service link or of the field loop (sections 12.1 and 12.7). -/
abbrev Byte := BitVec 8

/-- The 2-bit tag the car tag reader gives (00_scope, Connections). -/
abbrev Tag2 := BitVec 2

end Sys2Proof
end

