-- ==== Sys2Proof/Config.lean ====
section
/-! DEFINITION. What the manual fixes as a size, what one implementation fixes, and the free values: constants without a
body, for values the manual does not state. Nothing can be proved of a free value, so a claim holds whatever it is. -/

namespace Sys2Proof.Config

/-- The model counts time in units of 50 ms, the unit in which the manual reports every remaining time (section 12.7). -/
def ticksPerSecond : Nat := 20

/-- A duration given in seconds, in units of 50 ms. -/
def seconds (n : Nat) : Nat := n * ticksPerSecond

/-- Places in a supply group's move queue (R67, R68). -/
def moveQueuePlaces : Nat := 16
/-- Places in the sounder queue (R101). -/
def sounderPlaces : Nat := 24
/-- Places in the reservation list (R106). -/
def reservationPlaces : Nat := 16
/-- Places in the call list (R118). -/
def callPlaces : Nat := 32
/-- Places in the request buffer (R184). -/
def requestPlaces : Nat := 2
/-- Places in the answer list (R185). -/
def answerPlaces : Nat := 4
/-- Places in the notice queue (R186). -/
def noticePlaces : Nat := 32
/-- The most data bytes one answer body carries: 120 body bytes less result and detail (R184). -/
def answerDataBytes : Nat := 118
/-- The horizon of a reservation, in seconds (R135). -/
def horizon : Nat := 300

/-- The number of messages between blocks after which one command is said never to settle (log entry 3). -/
def cascadeBound : Nat := 1000000000

/-- FREE VALUE (log entry 5). A chain position the manual does not state: x after a count while no geometry is held, and
x after a geometry order whose loop is shorter than the old x. The argument numbers the uses. -/
opaque openPosition : Nat → Nat

/-- FREE VALUE (log entry 6). Which of two cars equally near the tag reader is the car at the reader (R4).
`true` takes the lower number. -/
opaque openNearest : Nat → Bool

/-- FREE VALUE (log entry 7). The bytes of a field whose value does not fit the width section 12.7 gives it, from the
width and the value. -/
opaque openField : Nat → Nat → Nat

/-- FREE VALUE (log entry 8). Whether a time of this many units of 50 ms that is no whole number of seconds is given in
seconds rounded up (`true`) or down. -/
opaque openRoundUp : Nat → Bool

/-- A time in units of 50 ms as a number of seconds; a part of a second is rounded as the free value says. -/
def toSeconds (n : Nat) : Nat :=
  if n % ticksPerSecond = 0 then n / ticksPerSecond
  else n / ticksPerSecond + if openRoundUp n then 1 else 0

end Sys2Proof.Config
end

