-- ==== Sys2Proof/Syntax.lean ====
section
/-! DEFINITION. The commands: one constructor of `Instr` for each row of spec/opcode_table.json. An order or enquiry of
the host carries its tag and then its fields, as the natural numbers its bytes spell (section 12.7); an event of a line,
a sensor or a timer carries what tells it from another event of the same row. -/

namespace Sys2Proof

/-- The fields of SET CHAIN GEOMETRY (R24). -/
structure GeometryFields where
  cars : Nat
  pitch : Nat
  tagReader : Nat
  indexTolerance : Nat
  tagTolerance : Nat
  group : Nat
  deriving DecidableEq, Repr

/-- The fields of a SET LANDING that makes a landing present (R24); side 0 is UP and 1 is DOWN. -/
structure LandingFields where
  floor : Nat
  side : Nat
  position : Nat
  deriving DecidableEq, Repr

/-- The fields of SET CHAIN TIMING (R24). -/
structure TimingFields where
  stallLimit : Nat
  overspeedLimit : Nat
  acceptance : Nat
  margin : Nat
  creepStop : Nat
  drift : Nat
  decel : Nat
  runup : Nat
  homing : Nat
  brakeDelay : Nat
  deriving DecidableEq, Repr

/-- The fields of a SET SHUTTER that makes a record present (R64); kind 0 is HALL and 1 is LANDING. -/
structure ShutterFields where
  floor : Nat
  kind : Nat
  landing : Nat
  node : Nat
  slot : Nat
  group : Nat
  warning : Nat
  descent : Nat
  raise : Nat
  deriving DecidableEq, Repr

/-- One pattern element as SET PATTERN carries it (R94); kind 0 is a stroke and 1 a rest. -/
structure ElementFields where
  kind : Nat
  tone : Nat
  length : Nat
  deriving DecidableEq, Repr

/-- The fields of a SET STATION that makes a record present (R113); a button of 255 is unused. -/
structure StationFields where
  node : Nat
  floor : Nat
  button0 : Nat
  button1 : Nat
  button2 : Nat
  button3 : Nat
  deriving DecidableEq, Repr

/-- The fields of SET CALL TIMING (R117). -/
structure CallTimingFields where
  repeats : Nat
  rounds : Nat
  interval : Nat
  escalations : Nat
  deriving DecidableEq, Repr

/-- The fields of SET CUE (R133); days and zones are masks. -/
structure CueFields where
  enabled : Bool
  time : Nat
  days : Nat
  pattern : Nat
  zones : Nat
  repeats : Nat
  retryInterval : Nat
  retryLimit : Nat
  deriving DecidableEq, Repr

/-- The fields of SET PROGRAMME (R142). -/
structure ProgrammeFields where
  street : Nat
  firstPattern : Nat
  secondPattern : Nat
  finalPattern : Nat
  openingPattern : Nat
  gap1 : Nat
  gap2 : Nat
  finalGap : Nat
  sweepRound : Nat
  sweepTimeout : Nat
  dwell : Nat
  deriving DecidableEq, Repr

/-- The fields of a SET DETECTOR INPUT that makes an input present (R169); kind 0 is AUTOMATIC and 1 MANUAL. -/
structure DetectorFields where
  node : Nat
  slot : Nat
  zone : Nat
  kind : Nat
  deriving DecidableEq, Repr

/-- The fields of SET FIRE RESPONSE (R169). -/
structure FireFields where
  evacuate : Nat
  alert : Nat
  confirm : Nat
  delay : Nat
  acknowledge : Nat
  deriving DecidableEq, Repr

/-- The owner of a supply move (R67). -/
inductive MoveOwner where
  | shutter (n : Nat)
  | chain
  deriving DecidableEq, Repr

/-- How a reply of a node ends: its last byte, the CRC-8, and whether it came whole within the slot of its poll (R175; log
entry 34). -/
structure ReplyEnd where
  crc : Byte
  inSlot : Bool
  deriving DecidableEq, Repr

/-- The commands of the part, a row of spec/opcode_table.json each. In an order, `tag` is the tag byte of its frame.
An enquiry whose report may exceed one answer carries the part asked for (R184). -/
inductive Instr where
  -- the service link and the store
  | fullReset
  | receiveByte (byte : Byte) (framingError : Bool)
  | receiveGap
  | lineBreak
  | frameSent
  | commitWriteEnd (good : Bool)
  | readStatus (tag : Nat)
  | commitConfiguration (tag : Nat)
  | serviceReset (tag : Nat)
  -- orders to the chain supervisor
  | runChain (tag : Nat)
  | stopChain (tag landings : Nat)
  | haltChain (tag : Nat)
  | homeChain (tag : Nat)
  | resetChainTrip (tag : Nat)
  | setChainGeometry (tag : Nat) (fields : GeometryFields)
  | setLanding (tag landing : Nat) (fields : Option LandingFields)
  | setChainTiming (tag : Nat) (fields : TimingFields)
  | readClearance (tag part : Nat)
  -- orders to the shutter controller
  | dropShutter (tag shutter : Nat)
  | forceDrop (tag shutter : Nat)
  | raiseShutter (tag shutter : Nat)
  | clearShutterFault (tag shutter : Nat)
  | setShutter (tag shutter : Nat) (fields : Option ShutterFields)
  | readShutter (tag shutter : Nat)
  -- orders to the supply admission unit
  | setSupplyGroup (tag group capacity settle : Nat)
  | readSupply (tag part : Nat)
  -- orders to the floor table
  | setFloorState (tag floor state : Nat)
  | setFloor (tag floor zones sweepTeam wardenTeam : Nat)
  | readFloor (tag floor part : Nat)
  -- orders to the sounder line controller
  | setPattern (tag pattern : Nat) (elements : List ElementFields)
  | sound (tag pattern zones repeats : Nat)
  | readSounder (tag part : Nat)
  -- orders to the call dispatcher
  | placeCall (tag station button : Nat)
  | cancelCall (tag call : Nat)
  | setStation (tag station : Nat) (fields : Option StationFields)
  | loadDutyList (tag team start : Nat) (entries : List Nat)
  | setTeam (tag team pattern : Nat)
  | setStaff (tag member pattern : Nat)
  | setDuty (tag member : Nat) (onDuty : Bool)
  | setCallTiming (tag : Nat) (fields : CallTimingFields)
  | readCalls (tag part : Nat)
  -- orders to the store clock
  | setTime (tag time day : Nat)
  | setCue (tag cue : Nat) (fields : CueFields)
  | readClock (tag part : Nat)
  -- orders to the programme unit
  | startClosing (tag : Nat)
  | startOpening (tag : Nat)
  | skipFloor (tag : Nat)
  | abortProgramme (tag : Nat)
  | setProgramme (tag : Nat) (fields : ProgrammeFields)
  | readProgramme (tag : Nat)
  -- orders to the fire response unit
  | acknowledgeFire (tag : Nat)
  | silence (tag : Nat)
  | resetFire (tag : Nat)
  | setFireZone (tag zone floors : Nat)
  | setDetectorInput (tag input : Nat) (fields : Option DetectorFields)
  | setFireResponse (tag : Nat) (fields : FireFields)
  | readFire (tag part : Nat)
  -- orders to the field loop master
  | setNode (tag address kind : Nat)
  | readNode (tag address : Nat)
  -- events of the paternoster drive
  | encoderCount (forward : Bool)
  | indexMark
  | carTagStrobe (carTag : Tag2)
  | windowEnd
  | runupTimeout
  | homingTimeout
  | safetyChainOpen
  | safetyChainClose
  | inspectionKeyOn
  | inspectionKeyOff
  | inspectionButtonPress (up : Bool)
  | inspectionButtonRelease (up : Bool)
  -- events of the supply
  | settleExpiry (group : Nat) (owner : MoveOwner)
  | mainsDipAsserted
  | mainsDipReleased
  | restartTimerExpiry
  -- events of the field loop
  | pollSlot
  | pollReply (address input0 input1 : Byte) (last : ReplyEnd)
  | pollMissed
  -- events of a shutter's timers
  | warningTimerExpiry (shutter : Nat)
  | descentTimeout (shutter : Nat)
  | clearTimerExpiry (shutter : Nat)
  | holdTimerExpiry (shutter : Nat)
  | raiseTimeout (shutter : Nat)
  -- events of the call dispatcher's timers
  | urgentWindowExpiry (station button : Nat)
  | roundTimerExpiry (call : Nat)
  -- events of a sounding, named by its arrival stamp
  | patternElementEnd (stamp : Nat)
  | soundingEnd (stamp : Nat)
  -- events of the time base
  | clockSecond
  | cueReservationDue (cue : Nat)
  | cueSlot (cue : Nat)
  -- events of the programme's timers
  | stepDeadlineExpiry
  | sweepTimeout
  | placingRetryExpiry
  | dwellExpiry
  -- events of the fire response unit's timers
  | confirmTimerExpiry (zone : Nat)
  | delayTimerExpiry
  | ackTimerExpiry
  | pulseTimerExpiry
  deriving DecidableEq, Repr

end Sys2Proof
end

