-- ==== Sys2Proof/Decode.lean ====
section
/-! DEFINITION. The commands a table word spells. The part decodes no instruction words, and no row of
spec/opcode_table.json gives bits; the frames that carry orders are read in Machine/Frames.lean. -/

namespace Sys2Proof

/-- The command a word of the opcode table spells: none, since no row has bits. -/
def decodeTableWord (_nbits _w : Nat) : Option Instr := none

end Sys2Proof
end

