-- ==== Sys2Proof/Machine/State.lean ====
section
/-! DEFINITION. The state of the part as plain data: one record for each of the twelve blocks (00_scope), the events and
requests the blocks hand on to one another (`Msg`), the command queue, and the state after reset.

A set of landings, floors, zones or days is a list of numbers in rising order without repeats. A timer counts units of
50 ms. -/

namespace Sys2Proof.Machine

/-- Why a command stops with a fault. -/
inductive Fault where
  /-- Raised by `settle` when the blocks hand on events to one another for `Config.cascadeBound` messages without coming
  to rest, so that the manual gives the command no outcome. Safe: the model stops (log entry 3). -/
  | neverSettles
  deriving DecidableEq, Repr

/-- Why a command is refused. -/
inductive Refusal where
  /-- Raised by `exec` for a command that has no meaning yet; safe. No arm raises it in this model. -/
  | notModelled (mnemonic : String)
  deriving DecidableEq, Repr

/-- A timer: stopped, running with a remaining time, or frozen at a remaining time, in units of 50 ms. -/
inductive Timer where
  | stopped
  | running (left : Nat)
  | frozen (left : Nat)
  deriving DecidableEq, Repr

/-! ### Names of states, kinds and causes -/

/-- The eleven chain states (R6), in the order of its table. -/
inductive ChainState where
  | halted | starting | running | stopping | braking | parked | creeping | homing
  | inspectionIdle | inspectionRun | tripped
  deriving DecidableEq, Repr

/-- The causes of a trip (R22), in the order of its table. -/
inductive TripCause where
  | overspeed | stall | runupTimeout | indexError | carSequence | safetyChain | parkFailed | homingFailed
  | landingShutter | brakeSlip
  deriving DecidableEq, Repr

/-- The kinds of chain move (R8). -/
inductive ChainMove where
  | start | creep | home | inspect
  deriving DecidableEq, Repr

/-- A pending move request of the chain, INSPECT with its direction (section 1.3). -/
inductive ChainRequest where
  | start | creep | home | inspectUp | inspectDown
  deriving DecidableEq, Repr

/-- The eleven shutter states (section 3.2), in the order of its table. -/
inductive ShutterState where
  | unseen | opened | awaitClear | warning | descending | arrested | closed | partOpen | waitSupply | raising | fault
  deriving DecidableEq, Repr

/-- The causes of a shutter fault, in the order the rules of chapter 3 first name them. -/
inductive ShutterCause where
  | limitsBoth | descentTimeout | raiseTimeout | uncommandedDrop | uncommandedRise | linkMelted | nodeLost
  deriving DecidableEq, Repr

/-- A shutter's position as its two limits give it (R43). -/
inductive Position where
  | top | bottom | between | both
  deriving DecidableEq, Repr

/-- HALL or LANDING, a landing shutter with its landing (R42). -/
inductive ShutterKind where
  | hall
  | landing (number : Nat)
  deriving DecidableEq, Repr

/-- The kinds of move in a supply group (R67). -/
inductive MoveKind where
  | raise
  | chain (kind : ChainMove)
  deriving DecidableEq, Repr

/-- The phase of an admitted move (R67). -/
inductive MovePhase where
  | running | paused
  | settling (left : Nat)
  deriving DecidableEq, Repr

/-- The supply state (R67, section 4.3). -/
inductive SupplyMode where
  | steady | dipped | restoring
  deriving DecidableEq, Repr

/-- The floor states (R79), in its order. -/
inductive FloorState where
  | shut | opening | trading | closing | swept | securing | fire
  deriving DecidableEq, Repr

/-- The causes a FLOOR_STATE notice gives (R92), in its order. -/
inductive FloorCause where
  | programme | sweepConfirmed | sweepSkipped | secured | opened | openFailed | fire | fireReset | order | serviceReset
  deriving DecidableEq, Repr

/-- A sweep confirmation: by a station or by order (R79). -/
inductive SweepConfirmation where
  | station (n : Nat)
  | order
  deriving DecidableEq, Repr

/-- The sounding classes (R95), in its order. -/
inductive SoundClass where
  | evacuate | alert | cue | callUrgent | callNormal
  deriving DecidableEq, Repr

/-- The fire condition (R161), in its order. -/
inductive FireCondition where
  | normal | alerting | evacuating | silenced
  deriving DecidableEq, Repr

/-- The fire zone states (R160), in its order. -/
inductive ZoneState where
  | normal | confirming | alarm | fault
  deriving DecidableEq, Repr

/-- The states of a detector input (R159), in its order. -/
inductive DetectorState where
  | normal | alarm | fault
  deriving DecidableEq, Repr

/-- The steps of the two programmes (sections 9.2 and 9.4), in their order. -/
inductive ProgrammeStep where
  | firstWarning | gap1 | secondWarning | gap2 | finalBells | finalGap | sweep | secure | dwell | finish
  | chainStop | raise | chainStart | openCue
  deriving DecidableEq, Repr

/-- NONE, CLOSING or OPENING (R143). -/
inductive ProgrammeKind where
  | none | closing | opening
  deriving DecidableEq, Repr

/-- How a programme ended (R157), in its order. -/
inductive ProgrammeOutcome where
  | complete | completeWithFaults | aborted | abortedByFire | abortedByReset
  deriving DecidableEq, Repr

/-- The classes of call (R118), in its order. -/
inductive CallClass where
  | normal | urgent | sweep | warden
  deriving DecidableEq, Repr

/-- The phases of a call (R118), in its order. -/
inductive CallPhase where
  | unassigned | queued | deferred | sounding | awaitingAck
  deriving DecidableEq, Repr

/-- Why a call closes (R118), in its order. -/
inductive CallReason where
  | answered | confirmed | cancelled | flushed | withdrawn | stationLost | abandoned | displaced
  deriving DecidableEq, Repr

/-- Why a press is refused (R119), in its order. -/
inductive CallRefusal where
  | alreadyOpen | unused | floorClosed | noDutyList | listFull
  deriving DecidableEq, Repr

/-- The origin of a call: a station and button, or a floor (R118). -/
inductive CallOrigin where
  | button (station button : Nat)
  | floor (n : Nat)
  deriving DecidableEq, Repr

/-- The phases of a cue (R134). -/
inductive CuePhase where
  | idle | waiting | reserved | sounding | retrying
  deriving DecidableEq, Repr

/-- Why a cue is skipped (section 8.5), in its order. -/
inductive SkipReason where
  | listFull | horizon | cut
  deriving DecidableEq, Repr

/-- The kinds of node (R173), in its order. -/
inductive NodeKind where
  | shutter | station | detector
  deriving DecidableEq, Repr

/-- The states of a node (R173), in its order. -/
inductive NodeState where
  | absent | present | lost
  deriving DecidableEq, Repr

/-- The origin of a sounding (R95). -/
inductive SoundOrigin where
  | fire
  | scheduled (cue : Nat)
  | programme (step : ProgrammeStep)
  | sound (tag : Nat)
  | call (number team : Nat)
  deriving DecidableEq, Repr

/-- What the sounder line tells the origin of a queued sounding (R97 to R102, R123). -/
inductive SoundReport where
  | queued | started | requeued | deferred | ended | dropped
  deriving DecidableEq, Repr

/-- The reasons of a DECLINED answer (R185), in the order of their codes. -/
inductive Reason where
  | badForm | unknownKind | outOfRange | wrongState | inUse | queueFull | fireLock | chainMoving | notConfigured
  | noClearGap | busy
  deriving DecidableEq, Repr

/-- The three results of an answer (R185); a TAKEN carries the CLAMPED indication of R109, which its frame
has no place for (log entry 21). -/
inductive Result where
  | done (clamped : Bool) (data : List Byte)
  | taken (clamped : Bool)
  | declined (reason : Reason) (data : List Byte)
  deriving DecidableEq, Repr

/-- Notice classes (R186, section 12.7), in the order of their codes. -/
inductive NoticeClass where
  | info | action | alarm
  deriving DecidableEq, Repr

/-! ### CHN and CLR: the chain supervisor and the clearance calculator -/

/-- One present landing (R1). -/
structure Landing where
  floor : Nat
  up : Bool
  position : Nat
  deriving DecidableEq, Repr

/-- The chain's configuration (R1, R24): geometry, the 16 landings, timing set. -/
structure ChainConfig where
  geometry : Option GeometryFields
  landings : List (Option Landing)
  timing : Option TimingFields
  deriving DecidableEq, Repr

/-- A stop plan (R13, R33). The advance falls below 0 when the chain drifts back behind x0. -/
structure StopPlan where
  set : List Nat
  late : List Nat
  x0 : Nat
  stopping : Nat
  advanceTo : Nat
  target : Nat
  brakeAt : Nat
  advance : Int
  braked : Bool
  deriving DecidableEq, Repr

/-- The park record (R16). -/
structure ParkRecord where
  set : List Nat
  position : Nat
  deriving DecidableEq, Repr

/-- The trip record (R22): the set of causes, the first cause, the position or none, the chain state at the trip. -/
structure TripRecord where
  causes : List TripCause
  first : TripCause
  position : Option Nat
  state : ChainState
  deriving DecidableEq, Repr

/-- The chain supervisor's record (section 1.3), its inputs, and its configuration. -/
structure Chain where
  config : ChainConfig
  state : ChainState
  x : Nat
  known : Bool
  lastCar : Option Nat
  lastForward : Bool
  windowCount : Nat
  lastWindow : Option Nat
  stallRun : Nat
  request : Option ChainRequest
  creepSet : List Nat
  creepRefused : Bool
  plan : Option StopPlan
  creepCount : Nat
  rest : Nat
  park : Option ParkRecord
  clearance : List Nat
  trip : Option TripRecord
  runupTimer : Timer
  homingTimer : Timer
  reverse : Bool
  safetyClosed : Bool
  keyOn : Bool
  upHeld : Bool
  downHeld : Bool
  openUses : Nat
  deriving DecidableEq, Repr

/-- One entry of a gap table (R30): first residue, width, centre. -/
structure Gap where
  first : Nat
  width : Nat
  centre : Nat
  deriving DecidableEq, Repr

/-- The clearance calculator's one table between orders: the stored table (R31). -/
structure Clearance where
  table : List Gap
  deriving DecidableEq, Repr

/-! ### SHT: the shutter controller -/

/-- A shutter's four inputs (R43); `link` is the link-intact input. -/
structure ShutterInputs where
  top : Bool
  bottom : Bool
  edge : Bool
  link : Bool
  deriving DecidableEq, Repr

/-- The configuration of a shutter record (R42). Times are in seconds, as configured. -/
structure ShutterConfig where
  floor : Nat
  kind : ShutterKind
  node : Nat
  slot : Nat
  group : Nat
  warning : Nat
  descent : Nat
  raise : Nat
  deriving DecidableEq, Repr

/-- A present shutter record (R42), its inputs as last received (R65), and the coil a fault keeps (R59). -/
structure Shutter where
  config : ShutterConfig
  state : ShutterState
  cause : Option ShutterCause
  observed : Option Position
  arrests : Nat
  forced : Bool
  paused : Bool
  edgeIgnored : Bool
  warningTimer : Timer
  descentTimer : Timer
  raiseTimer : Timer
  clearTimer : Timer
  holdTimer : Timer
  inputs : Option ShutterInputs
  faultCoil : Bool
  deriving DecidableEq, Repr

/-- The shutter table of 48 records (R42). -/
structure Shutters where
  table : List (Option Shutter)
  deriving DecidableEq, Repr

/-! ### SUP: the supply admission unit -/

/-- An admitted move (R67). -/
structure Move where
  owner : MoveOwner
  kind : MoveKind
  phase : MovePhase
  deriving DecidableEq, Repr

/-- A queued move request (R67). -/
structure MoveRequest where
  owner : MoveOwner
  kind : MoveKind
  deriving DecidableEq, Repr

/-- A group's configuration (R75): capacity, and settle time in seconds. -/
structure GroupConfig where
  capacity : Nat
  settle : Nat
  deriving DecidableEq, Repr

/-- One supply group record (R67). -/
structure Group where
  config : GroupConfig
  moves : List Move
  queue : List MoveRequest
  deriving DecidableEq, Repr

/-- The supply admission unit (R67): groups, admission order, supply state, restart timer, dip input. -/
structure Supply where
  groups : List Group
  order : List MoveOwner
  mode : SupplyMode
  restartTimer : Timer
  dip : Bool
  deriving DecidableEq, Repr

/-! ### FLR: the floor table -/

/-- A floor's configuration (R90). -/
structure FloorConfig where
  zones : List Nat
  sweepTeam : Nat
  wardenTeam : Nat
  deriving DecidableEq, Repr

/-- A floor record (R79). Its fire zone, landings and shutter set are derived. `inStep` is the model's own: a secure or
raise step of the floor is being taken and its completion test comes at the end (R83, R85; log entry 12). -/
structure Floor where
  config : FloorConfig
  state : FloorState
  faulted : Nat
  confirmation : Option SweepConfirmation
  inStep : Bool
  deriving DecidableEq, Repr

/-- The floor table of 8 records (R79). -/
structure Floors where
  table : List Floor
  deriving DecidableEq, Repr

/-! ### SND: the sounder line controller -/

/-- One pattern element (R94): a stroke on a tone, or a rest (`none`), and its length in units of 50 ms. -/
structure Element where
  tone : Option Nat
  length : Nat
  deriving DecidableEq, Repr

/-- A sounding (R95). A fire class has no repeats and no duration. -/
structure Sounding where
  cls : SoundClass
  pattern : Nat
  zones : List Nat
  repeats : Option Nat
  origin : SoundOrigin
  stamp : Nat
  duration : Nat
  deriving DecidableEq, Repr

/-- A sounding in progress (R96): its remaining time, pass, element and the time left of the element. -/
structure Playing where
  sounding : Sounding
  left : Nat
  pass : Nat
  element : Nat
  elementLeft : Nat
  deriving DecidableEq, Repr

/-- A reservation (R106): cue, start and end as times of day, lead and length in units of 50 ms, zone set. -/
structure Reservation where
  cue : Nat
  start : Nat
  finish : Nat
  lead : Nat
  length : Nat
  zones : List Nat
  deriving DecidableEq, Repr

/-- The sounder line controller (section 6). The zone records are derived from the soundings in progress.
`roomDue` is set when the queue falls from 24 to 23 and the ROOM report is still to be made (R102). -/
structure Sounder where
  patterns : List (List Element)
  playing : List Playing
  queue : List Sounding
  reservations : List Reservation
  teamOrder : List Nat
  nextStamp : Nat
  roomDue : Bool
  deriving DecidableEq, Repr

/-! ### CAL: the call dispatcher -/

/-- A station's configuration (R113); a button names a team or is unused. -/
structure StationConfig where
  node : Nat
  floor : Nat
  buttons : List (Option Nat)
  deriving DecidableEq, Repr

/-- A present station record (R113). Its concern count and lamp are derived (R114). -/
structure Station where
  config : StationConfig
  spent : List Bool
  openCall : List (Option Nat)
  window : List Timer
  deriving DecidableEq, Repr

/-- A team record (R115). -/
structure Team where
  ring : List Nat
  pointer : Nat
  pattern : Nat
  deriving DecidableEq, Repr

/-- A staff record (R116). -/
structure Staff where
  pattern : Nat
  onDuty : Bool
  assigned : Option Nat
  deriving DecidableEq, Repr

/-- A call record (R118). `age` is the time since it opened, which CALL_ANSWERED reports. -/
structure Call where
  number : Nat
  cls : CallClass
  origin : CallOrigin
  team : Nat
  member : Option Nat
  phase : CallPhase
  roundTimer : Timer
  rounds : Nat
  escalations : Nat
  barred : Bool
  lampOnly : Bool
  age : Nat
  deriving DecidableEq, Repr

/-- The call dispatcher (section 7). -/
structure Calls where
  stations : List (Option Station)
  teams : List Team
  staff : List Staff
  timing : CallTimingFields
  calls : List Call
  nextNumber : Nat
  deriving DecidableEq, Repr

/-! ### CLK: the store clock and cue scheduler -/

/-- A cue's configuration (R133). Times are in seconds, as configured. -/
structure CueConfig where
  enabled : Bool
  time : Nat
  days : List Nat
  pattern : Nat
  zones : List Nat
  repeats : Nat
  retryInterval : Nat
  retryLimit : Nat
  deriving DecidableEq, Repr

/-- An occurrence: a day of week and a time of day (R133). -/
structure Occurrence where
  day : Nat
  time : Nat
  deriving DecidableEq, Repr

/-- A cue record (R133); the lead is in seconds and means something while WAITING. -/
structure Cue where
  config : CueConfig
  phase : CuePhase
  occurrence : Option Occurrence
  lead : Nat
  retries : Nat
  deriving DecidableEq, Repr

/-- The store clock (R132, R133). -/
structure Clock where
  time : Nat
  day : Nat
  isSet : Bool
  cues : List Cue
  deriving DecidableEq, Repr

/-! ### PRG: the programme unit -/

/-- The outcome, step and cursor of the last programme ended (R143). -/
structure LastOutcome where
  outcome : ProgrammeOutcome
  step : ProgrammeStep
  cursor : Option Nat
  deriving DecidableEq, Repr

/-- The programme settings and record (R142, R143). `cursor` is the place in the floor list. -/
structure Programme where
  settings : ProgrammeFields
  kind : ProgrammeKind
  step : Option ProgrammeStep
  floors : List Nat
  cursor : Option Nat
  sounding : Option SoundReport
  deadline : Timer
  sweepCall : Option Nat
  placingRetry : Timer
  chainWasRunning : Bool
  overdue : Bool
  faulted : List Nat
  skipped : List Nat
  opened : List Nat
  last : Option LastOutcome
  deriving DecidableEq, Repr

/-! ### FIR: the fire response unit -/

/-- A detector input's configuration (R159). -/
structure DetectorConfig where
  node : Nat
  slot : Nat
  zone : Nat
  manual : Bool
  deriving DecidableEq, Repr

/-- A present detector input (R159). -/
structure Detector where
  config : DetectorConfig
  state : DetectorState
  deriving DecidableEq, Repr

/-- A fire zone record (R160). -/
structure FireZone where
  floors : List Nat
  state : ZoneState
  confirmTimer : Timer
  deriving DecidableEq, Repr

/-- The fire response unit (section 10). `heldWait` is the model's own: at a departure from NORMAL the held set is
worked out once the landing drops are ordered (R168; log entry 30). -/
structure Fire where
  settings : FireFields
  inputs : List (Option Detector)
  zones : List FireZone
  condition : FireCondition
  delayTimer : Timer
  ackTimer : Timer
  pulseTimer : Timer
  brigade : Bool
  pulses : Nat
  held : List Nat
  heldWait : Bool
  deriving DecidableEq, Repr

/-! ### FLP: the field loop master -/

/-- The two bytes of a node's image (section 12.7). -/
structure Image where
  byte0 : Byte
  byte1 : Byte
  deriving DecidableEq, Repr

/-- A configured node (R173). Its output image is derived from its owners' records (R179). -/
structure Node where
  kind : NodeKind
  state : NodeState
  misses : Nat
  image : Option Image
  deriving DecidableEq, Repr

/-- The field loop master (R173, R174): 64 node records (address 1 first), the cursors, the phase of the next slot, the
address polled in the slot running and not yet answered, and the poll frame last sent. -/
structure Loop where
  nodes : List (Option Node)
  ordinary : Option Nat
  motion : Option Nat
  phase : Nat
  polled : Option Nat
  frame : List Byte
  deriving DecidableEq, Repr

/-! ### LNK: the service link -/

/-- The orders and enquiries of the host, with their fields (section 12.7). -/
inductive Order where
  | readStatus
  | commitConfiguration
  | serviceReset
  | runChain
  | stopChain (landings : Nat)
  | haltChain
  | homeChain
  | resetChainTrip
  | setChainGeometry (fields : GeometryFields)
  | setLanding (landing : Nat) (fields : Option LandingFields)
  | setChainTiming (fields : TimingFields)
  | readClearance (part : Nat)
  | dropShutter (shutter : Nat)
  | forceDrop (shutter : Nat)
  | raiseShutter (shutter : Nat)
  | clearShutterFault (shutter : Nat)
  | setShutter (shutter : Nat) (fields : Option ShutterFields)
  | readShutter (shutter : Nat)
  | setSupplyGroup (group capacity settle : Nat)
  | readSupply (part : Nat)
  | setFloorState (floor state : Nat)
  | setFloor (floor zones sweepTeam wardenTeam : Nat)
  | readFloor (floor part : Nat)
  | setPattern (pattern : Nat) (elements : List ElementFields)
  | sound (pattern zones repeats : Nat)
  | readSounder (part : Nat)
  | placeCall (station button : Nat)
  | cancelCall (call : Nat)
  | setStation (station : Nat) (fields : Option StationFields)
  | loadDutyList (team start : Nat) (entries : List Nat)
  | setTeam (team pattern : Nat)
  | setStaff (member pattern : Nat)
  | setDuty (member : Nat) (onDuty : Bool)
  | setCallTiming (fields : CallTimingFields)
  | readCalls (part : Nat)
  | setTime (time day : Nat)
  | setCue (cue : Nat) (fields : CueFields)
  | readClock (part : Nat)
  | startClosing
  | startOpening
  | skipFloor
  | abortProgramme
  | setProgramme (fields : ProgrammeFields)
  | readProgramme
  | acknowledgeFire
  | silence
  | resetFire
  | setFireZone (zone floors : Nat)
  | setDetectorInput (input : Nat) (fields : Option DetectorFields)
  | setFireResponse (fields : FireFields)
  | readFire (part : Nat)
  | setNode (address kind : Nat)
  | readNode (address : Nat)
  deriving DecidableEq, Repr

/-- A request in the buffer (R184): its kind code, its tag, and its order, or `none` for a body that does not suit the
kind. -/
structure Request where
  kind : Nat
  tag : Nat
  order : Option Order
  deriving DecidableEq, Repr

/-- An answer (R185): the kind code of its request, the tag, the result. -/
structure Answer where
  kind : Nat
  tag : Nat
  result : Result
  deriving DecidableEq, Repr

/-- The notices, with their fields: sections 1.10, 3.9, 4.6, 5.8, 6.11, 7.10, 8.5, 9.6, 10.9, R178 and R188. -/
inductive NoticeBody where
  | chainRunning (position : Option Nat)
  | chainHalted (position : Option Nat) (known : Bool)
  | chainHomed
  | chainParked (set : List Nat) (position : Nat)
  | parkMissed (position : Nat) (fouling : List Nat) (creeps : Nat)
  | parkLost (position : Nat) (fouling : List Nat)
  | abandoned (kind : ChainMove)
  | moveRefused (kind : ChainMove)
  | chainTripped (trip : TripRecord)
  | tripCleared
  | shutterSeen (shutter : Nat) (state : ShutterState)
  | shutterArrested (shutter arrests : Nat)
  | edgeOverridden (shutter arrests : Nat)
  | obstructed (shutter arrests : Nat) (refused : Bool)
  | shutterClosed (shutter arrests : Nat) (forced : Bool)
  | shutterOpen (shutter : Nat)
  | raiseRefused (shutter : Nat)
  | raiseAbandoned (shutter : Nat) (reason : Reason)
  | shutterFault (shutter : Nat) (cause : ShutterCause) (observed : Position) (left : ShutterState)
  | linkMelted (shutter : Nat) (state : ShutterState)
  | faultCleared (shutter : Nat) (state : ShutterState)
  | supplyDip (paused : Nat)
  | supplyRestored
  | floorState (floor : Nat) (left entered : FloorState) (cause : FloorCause) (faulted : Option Nat)
      (declined : Option (List Nat)) (notOpen : Option (List (Nat × ShutterState)))
  | soundingDropped (origin : SoundOrigin) (pattern : Nat)
  | soundEnded (tag : Nat)
  | callOpened (call : Nat) (cls : CallClass) (origin : CallOrigin) (team : Nat)
  | callRefused (origin : CallOrigin) (reason : CallRefusal)
  | callUrgent (call : Nat)
  | urgentRefused (call : Nat)
  | callAssigned (call member : Nat)
  | callUnassigned (call team : Nat)
  | callEscalated (call member escalations : Nat)
  | callAbandoned (call team : Nat) (member : Option Nat)
  | callAnswered (call : Nat) (member : Option Nat) (rounds escalations seconds : Nat)
  | wardenReported (floor station : Nat)
  | wardenNotPlaced (floor : Nat)
  | callClosed (call : Nat) (reason : CallReason)
  | cueSounded (cue retries : Nat)
  | cueClashed (cue retries start : Nat)
  | cueLost (cue : Nat) (occurrence : Option Occurrence) (clashes : Nat)
  | cueSkipped (cue : Nat) (occurrence : Option Occurrence) (reason : SkipReason)
  | programmeStarted (kind : ProgrammeKind) (floors : List Nat)
  | programmeStep (kind : ProgrammeKind) (step : ProgrammeStep) (cursor : Option Nat)
  | sweepOverdue (floor : Nat) (call : Option Nat) (seconds : Nat)
  | floorSkipped (floor : Nat) (state : FloorState)
  | chainHeld (reason : Reason)
  | programmeEnded (kind : ProgrammeKind) (outcome : ProgrammeOutcome) (step : Option ProgrammeStep)
      (cursor : Option Nat) (faulted skipped : List Nat) (opened : Option (List Nat))
  | zoneConfirming (zone input : Nat)
  | unconfirmed (zone : Nat)
  | zoneFault (zone input : Nat)
  | zoneFaultCleared (zone : Nat)
  | fireCondition (left entered : FireCondition)
  | fireZone (zone : Nat) (floors : List Nat) (condition : FireCondition)
  | brigadeCalled (pulses : Nat)
  | fireAcknowledged
  | fireReset (zones : List Nat)
  | landingHeld (held : List Nat) (state : ChainState) (known : Bool) (first : Option TripCause)
  | nodeLost (address : Nat) (kind : NodeKind)
  | nodeFound (address : Nat) (kind : NodeKind) (left : NodeState)
  | commitEnded (written : Bool)
  deriving DecidableEq, Repr

/-- A notice in the queue: what it says and its time stamp, `none` for an unset clock (R186). -/
structure Notice where
  body : NoticeBody
  stamp : Option Nat
  deriving DecidableEq, Repr

/-- The receive assembler (R183): the bytes gathered since the length byte stand in COLLECT, oldest first. -/
inductive Assembler where
  | hunt
  | length
  | collect (n : Nat) (bytes : List Byte)
  deriving DecidableEq, Repr

/-- The configuration the store holds (R188). -/
structure StoreImage where
  chain : ChainConfig
  shutters : List (Option ShutterConfig)
  groups : List GroupConfig
  floors : List FloorConfig
  patterns : List (List Element)
  stations : List (Option StationConfig)
  rings : List (List Nat)
  teamPatterns : List Nat
  staffPatterns : List Nat
  onDuty : List Bool
  callTiming : CallTimingFields
  cues : List CueConfig
  programme : ProgrammeFields
  zones : List (List Nat)
  detectors : List (Option DetectorConfig)
  fire : FireFields
  nodes : List (Option NodeKind)
  deriving DecidableEq, Repr

/-- The service link (section 12). `store` is the non-volatile image with whether its CRC is good, `none` before any
write; `writing` is the image a commit is writing, `none` in commit state IDLE. -/
structure Link where
  assembler : Assembler
  requests : List Request
  answers : List Answer
  sending : Option (List Byte)
  notices : List Notice
  lost : Bool
  count : Nat
  store : Option (StoreImage × Bool)
  storeValid : Bool
  writing : Option StoreImage
  deriving DecidableEq, Repr

/-! ### What the blocks hand on to one another -/

/-- Events and requests to the chain supervisor. -/
inductive ChainMsg where
  | join (landing : Nat)
  | leave (landing : Nat)
  | shutterChanged (permitted faulted : Bool)
  | admitted (kind : ChainMove)
  | queueMoved
  | fireChanged (left : Bool)
  | runForProgramme
  | stopForProgramme
  | serviceReset
  deriving DecidableEq, Repr

/-- Events and requests to the shutter controller. -/
inductive ShutterMsg where
  | drop (shutter : Nat)
  | raise (shutter : Nat)
  | parkChanged
  | release (shutter : Nat)
  | admitted (shutter : Nat)
  | paused (shutter : Nat)
  | restarted (shutter : Nat)
  | inputs (shutter : Nat) (inputs : ShutterInputs)
  | position (shutter : Nat) (old : Position)
  | edge (shutter : Nat)
  | link (shutter : Nat)
  | found (shutter : Nat) (inputs : ShutterInputs)
  | lost (shutter : Nat)
  | serviceReset
  deriving DecidableEq, Repr

/-- Events and requests to the supply admission unit. -/
inductive SupplyMsg where
  | request (owner : MoveOwner) (kind : MoveKind) (group : Nat)
  | withdraw (owner : MoveOwner)
  | ended (owner : MoveOwner)
  | released (owner : MoveOwner)
  | pass (group : Nat)
  | serviceReset
  deriving DecidableEq, Repr

/-- Events and requests to the floor table. -/
inductive FloorMsg where
  | beginClosing (floor : Nat)
  | confirm (floor : Nat) (confirmation : SweepConfirmation)
  | secure (floor : Nat)
  | raise (floor : Nat)
  | endStep (floor : Nat)
  | shutterChanged (floor shutter : Nat) (left entered : ShutterState)
  | recheck (floor : Nat)
  | declare (floor : Nat)
  | release (floor : Nat)
  | serviceReset
  deriving DecidableEq, Repr

/-- Events and requests to the sounder line controller. -/
inductive SounderMsg where
  | arrive (cls : SoundClass) (pattern : Nat) (zones : List Nat) (repeats : Nat) (origin : SoundOrigin)
  | preempted (sounding : Sounding)
  | startPass
  | cancel (origin : SoundOrigin)
  | fireOrder (cls : SoundClass) (pattern : Nat) (zones : List Nat)
  | endFire
  | enterReservation (cue start length : Nat) (zones : List Nat)
  | moveReservation (cue start lead : Nat)
  | removeReservation (cue : Nat)
  | clearReservations
  | startCue (cue pattern repeats : Nat) (zones : List Nat)
  | serviceReset
  deriving DecidableEq, Repr

/-- Events and requests to the call dispatcher. -/
inductive CallMsg where
  | press (address button : Nat)
  | acknowledge (address : Nat)
  | report (call : Nat) (report : SoundReport)
  | room
  | offer (last : Option Nat) (calls : List Nat)
  | flush (floor : Nat)
  | withdrawSweep (floor : Nat)
  | close (call : Nat) (reason : CallReason)
  | unassignedPass
  | placeSweep (floor : Nat)
  | placeWarden (floor : Nat)
  | fireChanged (condition : FireCondition)
  | lampOnly (call : Nat) (mark : Bool)
  | stationLost (address : Nat)
  | serviceReset
  deriving DecidableEq, Repr

/-- Events and requests to the store clock. -/
inductive ClockMsg where
  | started (cue : Nat)
  | ended (cue : Nat)
  | clashed (cue : Nat)
  | rebuild (cue : Nat) (cut : Bool)
  | serviceReset
  deriving DecidableEq, Repr

/-- The call dispatcher's answer to the placing of a SWEEP call (R125). -/
inductive SweepAnswer where
  | placed (call : Nat)
  | full
  | wrongState
  deriving DecidableEq, Repr

/-- Events and requests to the programme unit. -/
inductive ProgrammeMsg where
  | floorReport (floor : Nat) (left entered : FloorState)
  | sounding (step : ProgrammeStep) (report : SoundReport)
  | fireLeft
  | chainState (state : ChainState)
  | sweepAnswer (floor : Nat) (answer : SweepAnswer)
  | runAnswer (result : Result)
  | stopAnswer (result : Result)
  | dwellGo
  | raiseNext
  | openCue
  | serviceReset
  deriving DecidableEq, Repr

/-- Events and requests to the fire response unit. -/
inductive FireMsg where
  | slot (address slot : Nat) (state : DetectorState)
  | nodeLost (address : Nat)
  | depart
  | dropsOrdered
  | hallDrops
  | soundings
  | resound
  | wardens
  | report (zone : Nat)
  | watchdog
  | condition (condition : FireCondition)
  | chainChanged
  deriving DecidableEq, Repr

/-- Events to the service link. -/
inductive LinkMsg where
  | notice (body : NoticeBody)
  | answer (kind tag : Nat) (result : Result)
  | process
  deriving DecidableEq, Repr

/-- What one block hands on to another (00_scope, How the blocks work together). `serve` hands a request to the block
that owns it (R184). -/
inductive Msg where
  | chn (m : ChainMsg)
  | clr
  | sht (m : ShutterMsg)
  | sup (m : SupplyMsg)
  | flr (m : FloorMsg)
  | snd (m : SounderMsg)
  | cal (m : CallMsg)
  | clk (m : ClockMsg)
  | prg (m : ProgrammeMsg)
  | fir (m : FireMsg)
  | lnk (m : LinkMsg)
  | serve (kind tag : Nat) (order : Order)
  deriving DecidableEq, Repr

/-! ### The state -/

/-- The state of the part. `agenda` holds what the blocks have handed on within the command being taken; it is empty
between commands. `ticks` is the phase of the part's time base within a second. `pending` is the command queue. -/
structure State where
  chn : Chain
  clr : Clearance
  sht : Shutters
  sup : Supply
  flr : Floors
  snd : Sounder
  cal : Calls
  clk : Clock
  prg : Programme
  fir : Fire
  flp : Loop
  lnk : Link
  ticks : Nat
  agenda : List Msg
  pending : List Instr
  deriving DecidableEq, Repr

/-- The part right after a full reset with no valid store image, the safety chain closed, the key off, no button held
and the dip input released (R26, R66, R77, R93, R112, R131, R141, R158, R172, R182, R191; log entries 1 and 2). -/
def State.reset : State where
  chn :=
    { config := { geometry := none, landings := List.replicate 16 none, timing := none }
      state := .halted, x := 0, known := false, lastCar := none, lastForward := true, windowCount := 0
      lastWindow := none, stallRun := 0, request := none, creepSet := [], creepRefused := false, plan := none
      creepCount := 0, rest := 0, park := none, clearance := [], trip := none, runupTimer := .stopped
      homingTimer := .stopped, reverse := false, safetyClosed := true, keyOn := false, upHeld := false
      downHeld := false, openUses := 0 }
  clr := { table := [] }
  sht := { table := List.replicate 48 none }
  sup :=
    { groups := List.replicate 8 { config := { capacity := 1, settle := 0 }, moves := [], queue := [] }
      order := [], mode := .steady, restartTimer := .stopped, dip := false }
  flr :=
    { table := List.replicate 8
        { config := { zones := [], sweepTeam := 0, wardenTeam := 0 }, state := .shut, faulted := 0
          confirmation := none, inStep := false } }
  snd :=
    { patterns := List.replicate 32 [{ tone := some 0, length := 1 }], playing := [], queue := []
      reservations := [], teamOrder := List.range 12, nextStamp := 0, roomDue := false }
  cal :=
    { stations := List.replicate 24 none
      teams := List.replicate 12 { ring := [], pointer := 0, pattern := 0 }
      staff := List.replicate 64 { pattern := 0, onDuty := false, assigned := none }
      timing := { repeats := 2, rounds := 3, interval := 60, escalations := 1 }, calls := [], nextNumber := 1 }
  clk :=
    { time := 0, day := 0, isSet := false
      cues := List.replicate 24
        { config := { enabled := false, time := 0, days := [], pattern := 0, zones := [], repeats := 1
                      retryInterval := 60, retryLimit := 0 }
          phase := .idle, occurrence := none, lead := 0, retries := 0 } }
  prg :=
    { settings := { street := 0, firstPattern := 0, secondPattern := 0, finalPattern := 0, openingPattern := 0
                    gap1 := 60, gap2 := 60, finalGap := 60, sweepRound := 60, sweepTimeout := 120, dwell := 0 }
      kind := .none, step := none, floors := [], cursor := none, sounding := none, deadline := .stopped
      sweepCall := none, placingRetry := .stopped, chainWasRunning := false, overdue := false, faulted := []
      skipped := [], opened := [], last := none }
  fir :=
    { settings := { evacuate := 0, alert := 0, confirm := 0, delay := 0, acknowledge := 120 }
      inputs := List.replicate 64 none
      zones := List.replicate 8 { floors := [], state := .normal, confirmTimer := .stopped }
      condition := .normal, delayTimer := .stopped, ackTimer := .stopped, pulseTimer := .stopped
      brigade := false, pulses := 0, held := [], heldWait := false }
  flp :=
    { nodes := List.replicate 64 none, ordinary := none, motion := none, phase := 1, polled := none, frame := [] }
  lnk :=
    { assembler := .hunt, requests := [], answers := [], sending := none, notices := [], lost := true, count := 0
      store := none, storeValid := false, writing := none }
  ticks := 0
  agenda := []
  pending := []

end Sys2Proof.Machine
end

