-- ==== Sys2Proof/Machine/Ops.lean ====
section
/-! DEFINITION. The operations every block uses: handing on messages, timers, tables, sets and circular arithmetic. -/

namespace Sys2Proof.Machine

/-! ### Handing on -/

/-- A message that goes before what an event reports to the other blocks: one to the supply admission unit, or a notice. -/
def Msg.isAhead : Msg → Bool
  | .sup _ | .lnk (.notice _) => true
  | _ => false

/-- Hands `ms` on, in order. -/
def State.post (s : State) (ms : List Msg) : State := { s with agenda := s.agenda ++ ms }

/-- What SUP is asked within one event stands behind the notices the event has sent so far and goes before what the event
reports to the other blocks, so that it is taken at the event that asks (R68; log entry 45). -/
def State.ask (s : State) (ms : List SupplyMsg) : State :=
  { s with agenda := s.agenda.filter Msg.isAhead ++ ms.map Msg.sup ++ s.agenda.filter fun m => !m.isAhead }

/-- A request enters its group's queue, followed at once by the group's admission pass (R68). -/
def State.request (s : State) (owner : MoveOwner) (kind : MoveKind) (g : Nat) : State :=
  s.ask [.request owner kind g, .pass g]

/-- Hands one notice to the service link (R186). -/
def State.notify (s : State) (b : NoticeBody) : State := s.post [.lnk (.notice b)]

/-! ### One block's record -/

def State.onChn (s : State) (f : Chain → Chain) : State := { s with chn := f s.chn }
def State.onSht (s : State) (f : Shutters → Shutters) : State := { s with sht := f s.sht }
def State.onSup (s : State) (f : Supply → Supply) : State := { s with sup := f s.sup }
def State.onFlr (s : State) (f : Floors → Floors) : State := { s with flr := f s.flr }
def State.onSnd (s : State) (f : Sounder → Sounder) : State := { s with snd := f s.snd }
def State.onCal (s : State) (f : Calls → Calls) : State := { s with cal := f s.cal }
def State.onClk (s : State) (f : Clock → Clock) : State := { s with clk := f s.clk }
def State.onPrg (s : State) (f : Programme → Programme) : State := { s with prg := f s.prg }
def State.onFir (s : State) (f : Fire → Fire) : State := { s with fir := f s.fir }
def State.onFlp (s : State) (f : Loop → Loop) : State := { s with flp := f s.flp }
def State.onLnk (s : State) (f : Link → Link) : State := { s with lnk := f s.lnk }

/-! ### What an order answers -/

/-- DONE without CLAMPED and without data. -/
def done (s : State) : State × Result := (s, .done false [])

/-- DONE with the CLAMPED indication as given (00_scope, Out-of-range parameters). -/
def doneClamped (clamped : Bool) (s : State) : State × Result := (s, .done clamped [])

/-- TAKEN without CLAMPED. -/
def taken (s : State) : State × Result := (s, .taken false)

/-- TAKEN with the CLAMPED indication as given (R109; log entry 21). -/
def takenClamped (clamped : Bool) (s : State) : State × Result := (s, .taken clamped)

/-- DECLINED: the request has had no effect (R185). -/
def declined (r : Reason) (s : State) : State × Result := (s, .declined r [])

/-! ### Bytes of a field (section 12.7) -/

/-- The `width` low bytes of a number, high byte first. -/
def bytesBE : Nat → Nat → List Byte
  | 0, _ => []
  | w + 1, v => BitVec.ofNat 8 (v / 256 ^ w) :: bytesBE w v

/-- A number in a field of `width` bytes; a free value where it does not fit (log entry 7). -/
def field (width v : Nat) : List Byte := bytesBE width (if v < 256 ^ width then v else Config.openField width v)

/-- A field that may be absent, or none: then all ones. -/
def field? (width : Nat) : Option Nat → List Byte
  | some v => field width v
  | none => List.replicate width 255

/-! ### Timers -/

/-- A timer started at `secs` seconds. -/
def Timer.start (secs : Nat) : Timer := .running (Config.seconds secs)

/-- A running timer stopped at its remaining time, to run on later (R50, R55). -/
def Timer.freeze : Timer → Timer
  | .running n => .frozen n
  | t => t

/-- A frozen timer run on from its remaining time (R51, R55). -/
def Timer.resume : Timer → Timer
  | .frozen n => .running n
  | t => t

def Timer.isRunning : Timer → Bool
  | .running _ => true
  | _ => false

/-- The remaining time of a running or frozen timer. -/
def Timer.left? : Timer → Option Nat
  | .stopped => none
  | .running n => some n
  | .frozen n => some n

/-- 50 ms pass for a timer; one at 0 waits there for its expiry to be taken. -/
def Timer.tick : Timer → Timer
  | .running n => .running (n - 1)
  | t => t

/-- The timer comes to 0 in the 50 ms that pass now. -/
def Timer.dueNow (t : Timer) : Bool := t == .running 1

/-! ### Tables and lists -/

/-- The present record `n` of a table of absent or present records. -/
def present? {α : Type} (table : List (Option α)) (n : Nat) : Option α := (table[n]?).join

/-- The numbers of the entries of a table that meet `p`, in rising order. -/
def numbersWhere {α : Type} (table : List α) (p : α → Bool) : List Nat :=
  (List.range table.length).filter fun n => (table[n]?).any p

/-- The numbers of the present records that meet `p`, in rising order. -/
def presentWhere {α : Type} (table : List (Option α)) (p : α → Bool) : List Nat :=
  numbersWhere table fun r => r.any p

/-- Sorts by a rank, entries of equal rank keeping their order. -/
def insertBy {α : Type} (before : α → α → Bool) (a : α) : List α → List α
  | [] => [a]
  | b :: l => if before b a then b :: insertBy before a l else a :: b :: l

def sortBy {α : Type} (before : α → α → Bool) : List α → List α
  | [] => []
  | a :: l => insertBy before a (sortBy before l)

/-! ### Sets of landings, floors, zones and days -/

/-- The set of the bits of a mask below `size` (section 12.7). -/
def maskSet (size mask : Nat) : List Nat := (List.range size).filter fun k => mask.testBit k

/-- The mask of a set (section 12.7). -/
def setMask (l : List Nat) : Nat := l.foldl (fun m k => m ||| 2 ^ k) 0

/-- The union of two sets of numbers below 16. -/
def setUnion (a b : List Nat) : List Nat := (List.range 16).filter fun k => a.contains k || b.contains k

/-- The members of `a` that are not in `b`. -/
def setMinus (a b : List Nat) : List Nat := a.filter fun k => !b.contains k

/-- The two sets share a member. -/
def setsMeet (a b : List Nat) : Bool := a.any fun k => b.contains k

/-! ### Circular arithmetic -/

/-- (a − b) mod m for places a and b on a circle of m. -/
def circMinus (m a b : Nat) : Nat := (a % m + (m - b % m)) % m

/-- The distance between two places on a circle of m: the smaller way round (R1, R27). -/
def circDist (m a b : Nat) : Nat := min (circMinus m a b) (circMinus m b a)

end Sys2Proof.Machine
end

