-- ==== Sys2Proof/Machine/Clearance.lean ====
section
/-! DEFINITION. CLR, the clearance calculator (chapter 2): residues, gaps, stopping distance, the stop plan, acceptance. -/

namespace Sys2Proof.Machine

/-- L = N·P (R1); 0 while no geometry is held. -/
def ChainConfig.loopLength (c : ChainConfig) : Nat := (c.geometry.map fun g => g.cars * g.pitch).getD 0

/-- P (R1); 0 while no geometry is held. -/
def ChainConfig.pitch (c : ChainConfig) : Nat := (c.geometry.map (·.pitch)).getD 0

/-- The chain is configured while both a geometry and a timing set are held (R1). -/
def ChainConfig.configured (c : ChainConfig) : Bool := c.geometry.isSome && c.timing.isSome

/-- The all-landings set: every present landing (R1). -/
def ChainConfig.allLandings (c : ChainConfig) : List Nat := presentWhere c.landings fun _ => true

/-- The position λ of a present landing. -/
def ChainConfig.position? (c : ChainConfig) (l : Nat) : Option Nat := (present? c.landings l).map (·.position)

/-- The positions of the present landings of a set, in its order. -/
def ChainConfig.positions (c : ChainConfig) (set : List Nat) : List Nat := set.filterMap c.position?

/-- The acceptance band B (R28). -/
def ChainConfig.acceptanceBand (c : ChainConfig) : Nat := (c.timing.map (·.acceptance)).getD 0

/-- The planning band B + M (R28). -/
def ChainConfig.planningBand (c : ChainConfig) : Nat := (c.timing.map fun t => t.acceptance + t.margin).getD 0

/-! ### Residues and fouling -/

/-- Position x fouls a landing at λ by the half-width h: their residue distance is at most h (R27). -/
def fouls (pitch h x position : Nat) : Bool := circDist pitch x position ≤ h

/-- A residue is clear of every landing at the positions given by h (R29). -/
def residueClear (pitch h : Nat) (positions : List Nat) (r : Nat) : Bool := positions.all fun p => !fouls pitch h r p

/-! ### Gaps -/

/-- The centre of a gap (R29). -/
def gapCentre (pitch first width : Nat) : Nat := (first + (width - 1) / 2) % pitch

/-- The clear residues from `first` forward to the next arc: the least way to where an arc begins (R29). -/
def gapWidth (pitch h : Nat) (positions : List Nat) (first : Nat) : Nat :=
  (positions.map fun p => circMinus pitch (circMinus pitch p h) first).foldl min pitch

/-- The first residues of the gaps: the clear residues just after the forward end of some arc (R29, R30), each once, in
rising order. -/
def gapFirsts (pitch h : Nat) (positions : List Nat) : List Nat :=
  let ends := positions.map fun p => (p + h + 1) % pitch
  sortBy (fun a b => decide (a < b)) (ends.filter (residueClear pitch h positions)).dedup

/-- The gap table of the landings at the positions given, with the half-width h (R29, R30). -/
def gapTable (pitch h : Nat) (positions : List Nat) : List Gap :=
  (gapFirsts pitch h positions).map fun g =>
    let w := gapWidth pitch h positions g
    { first := g, width := w, centre := gapCentre pitch g w }

/-- The stored table: the all-landings set with the planning band, and no entry while the chain is not configured (R31). -/
def ChainConfig.storedTable (c : ChainConfig) : List Gap :=
  if c.configured then gapTable c.pitch c.planningBand (c.positions c.allLandings) else []

/-! ### Stopping distance and plan -/

/-- S = v·D + ceil(v² / (2a)) for a planned stop (R32). -/
def stoppingDistance (v brakeDelay decel : Nat) : Nat := v * brakeDelay + (v * v + (2 * decel - 1)) / (2 * decel)

/-- The planning speed: the most recent window clamped to 0 to 400 (R5). -/
def planningSpeed (lastWindow : Option Nat) : Nat := min (lastWindow.getD 0) 400

/-- The least forward way δ from the earliest residue to a gap centre of the table (R33). -/
def leastWay (pitch earliest : Nat) (table : List Gap) : Nat :=
  (table.map fun g => circMinus pitch g.centre earliest).foldl min pitch % pitch

/-- The gap table a plan for `set` uses: the stored one for the all-landings set, else one formed afresh (R31). -/
def planTable (c : ChainConfig) (stored : List Gap) (set : List Nat) : List Gap :=
  if set = c.allLandings then stored else gapTable c.pitch c.planningBand (c.positions set)

/-- The stop plan for a set from x0 with the stopping distance S (R33). A plan with b = 0 brakes as it is made (R13). -/
def makePlan (c : ChainConfig) (stored : List Gap) (set : List Nat) (x0 stopping : Nat) : StopPlan :=
  let δ := leastWay c.pitch ((x0 + stopping) % c.pitch) (planTable c stored set)
  { set := set, late := [], x0 := x0, stopping := stopping, advanceTo := stopping + δ
    target := (x0 + (stopping + δ)) % c.loopLength, brakeAt := δ, advance := 0, braked := δ == 0 }

/-! ### Acceptance -/

/-- The landings of the set that foul x by the acceptance band, in rising number (R35). -/
def foulingLandings (c : ChainConfig) (x : Nat) (set : List Nat) : List Nat :=
  set.filter fun l => (c.position? l).any fun p => fouls c.pitch c.acceptanceBand x p

/-- The acceptance test at x for the set (R35). -/
def accepts (c : ChainConfig) (x : Nat) (set : List Nat) : Bool := (foulingLandings c x set).isEmpty

/-! ### The configuration check -/

/-- The band-width and gap-existence checks on the configuration a chain order would leave (R40). -/
def ChainConfig.hasClearGap (c : ChainConfig) : Bool :=
  !c.configured ||
    (decide (2 * c.planningBand < c.pitch) && (c.allLandings.isEmpty || !c.storedTable.isEmpty))

end Sys2Proof.Machine
end

