-- ==== Sys2Proof/Machine/Operands.lean ====
section
/-! DEFINITION. Operand forms: the ranges of the orders' fields, clamping, and the configuration values the fields give.
A field of the first kind out of its range declines the order OUT_OF_RANGE; one of the second kind is clamped
(00_scope, Out-of-range parameters). -/

namespace Sys2Proof

open Machine

/-- A value brought to the nearest end of its range. -/
def Machine.clampTo (low high v : Nat) : Nat := max low (min v high)

def Machine.inRange (low high v : Nat) : Bool := decide (low ≤ v) && decide (v ≤ high)

/-! ### Chain (R24) -/

def GeometryFields.inRange (g : GeometryFields) : Bool :=
  Machine.inRange 6 40 g.cars && Machine.inRange 100 4000 g.pitch && decide (g.cars * g.pitch ≤ 65535) &&
    decide (g.tagReader < g.cars * g.pitch) && decide (g.indexTolerance ≤ 50) && decide (g.tagTolerance ≤ 50) &&
    decide (g.group ≤ 7)

/-- The ranges of the SET CHAIN TIMING fields that decline the order. -/
def TimingFields.inRange (t : TimingFields) : Bool :=
  Machine.inRange 5 300 t.stallLimit && Machine.inRange 20 450 t.overspeedLimit &&
    decide (t.stallLimit < t.overspeedLimit) && Machine.inRange 5 400 t.acceptance && decide (t.margin ≤ 100) &&
    decide (t.creepStop ≤ 100) && decide (t.drift ≤ 20) && Machine.inRange 1 63 t.decel

/-- The SET CHAIN TIMING fields with run-up timeout, homing timeout and brake delay clamped. -/
def TimingFields.clamped (t : TimingFields) : TimingFields :=
  { t with runup := clampTo 1 10 t.runup, homing := clampTo 60 1200 t.homing, brakeDelay := clampTo 0 20 t.brakeDelay }

/-- The ranges of a present landing against a loop of L counts. -/
def LandingFields.inRange (f : LandingFields) (loop : Nat) : Bool :=
  decide (f.floor ≤ 7) && decide (f.side ≤ 1) && decide (f.position < loop)

def LandingFields.landing (f : LandingFields) : Landing :=
  { floor := f.floor, up := f.side == 0, position := f.position }

/-- Another present landing has the same floor and side (R1, R24). -/
def Machine.sideTaken (landings : List (Option Landing)) (n : Nat) (l : Landing) : Bool :=
  !(presentWhere landings fun o => o.floor == l.floor && o.up == l.up).all (· == n)

/-! ### Shutters (R64) -/

def ShutterFields.kindOf (f : ShutterFields) : ShutterKind :=
  if f.kind = 0 then .hall else .landing f.landing

/-- The record a SET SHUTTER's fields give, its three times clamped. -/
def ShutterFields.config (f : ShutterFields) : ShutterConfig :=
  { floor := f.floor, kind := f.kindOf, node := f.node, slot := f.slot, group := f.group
    warning := clampTo 0 30 f.warning, descent := clampTo 5 120 f.descent, raise := clampTo 10 300 f.raise }

def ShutterFields.clamps (f : ShutterFields) : Bool :=
  let c := f.config
  c.warning != f.warning || c.descent != f.descent || c.raise != f.raise

/-- The landing a landing shutter names is a present landing on the same floor. -/
def Machine.landingOnFloor (landings : List (Option Landing)) (kind : ShutterKind) (floor : Nat) : Bool :=
  match kind with
  | .hall => true
  | .landing l => (present? landings l).any fun r => r.floor == floor

/-! ### Pattern elements (R94) -/

/-- The kind is STROKE or REST, and the tone of a stroke lies in 0 to 3; a rest carries a tone byte too, of any value (log
entry 81). -/
def ElementFields.inRange (e : ElementFields) : Bool :=
  decide (e.kind ≤ 1) && (e.kind == 1 || decide (e.tone ≤ 3))

def ElementFields.element (e : ElementFields) : Element :=
  { tone := if e.kind = 0 then some e.tone else none, length := clampTo 1 40 e.length }

def ElementFields.clamps (e : ElementFields) : Bool := e.element.length != e.length

/-! ### Stations (R113) -/

/-- A button's team, or unused for 255. -/
def Machine.buttonTeam (b : Nat) : Option Nat := if b = 255 then none else some b

def StationFields.config (f : StationFields) : StationConfig :=
  { node := f.node, floor := f.floor, buttons := [f.button0, f.button1, f.button2, f.button3].map buttonTeam }

def Machine.StationConfig.inRange (c : StationConfig) : Bool :=
  decide (c.floor ≤ 7) && c.buttons.all fun b => b.all fun t => decide (t ≤ 11)

/-! ### Call timing (R117) -/

def CallTimingFields.clamped (f : CallTimingFields) : CallTimingFields :=
  { repeats := clampTo 1 4 f.repeats, rounds := clampTo 1 5 f.rounds, interval := clampTo 20 300 f.interval
    escalations := clampTo 0 2 f.escalations }

/-! ### Cues (R133) -/

def CueFields.inRange (f : CueFields) : Bool :=
  decide (f.time ≤ 86399) && decide (f.days < 128) && decide (f.pattern ≤ 31) && decide (f.zones < 256)

def CueFields.config (f : CueFields) : CueConfig :=
  { enabled := f.enabled, time := f.time, days := maskSet 7 f.days, pattern := f.pattern, zones := maskSet 8 f.zones
    repeats := clampTo 1 4 f.repeats, retryInterval := clampTo 60 240 f.retryInterval
    retryLimit := clampTo 0 3 f.retryLimit }

def CueFields.clamps (f : CueFields) : Bool :=
  let c := f.config
  c.repeats != f.repeats || c.retryInterval != f.retryInterval || c.retryLimit != f.retryLimit

/-! ### Programme settings (R142) -/

def ProgrammeFields.inRange (f : ProgrammeFields) : Bool :=
  decide (f.street ≤ 7) && decide (f.firstPattern ≤ 31) && decide (f.secondPattern ≤ 31) &&
    decide (f.finalPattern ≤ 31) && decide (f.openingPattern ≤ 31)

def ProgrammeFields.clamped (f : ProgrammeFields) : ProgrammeFields :=
  { f with gap1 := clampTo 60 1800 f.gap1, gap2 := clampTo 60 1800 f.gap2, finalGap := clampTo 60 900 f.finalGap
           sweepRound := clampTo 60 600 f.sweepRound, sweepTimeout := clampTo 120 1800 f.sweepTimeout
           dwell := clampTo 0 120 f.dwell }

/-! ### Fire (R169) -/

def DetectorFields.inRange (f : DetectorFields) : Bool :=
  decide (f.slot ≤ 3) && decide (f.zone ≤ 7) && decide (f.kind ≤ 1)

def DetectorFields.config (f : DetectorFields) : DetectorConfig :=
  { node := f.node, slot := f.slot, zone := f.zone, manual := f.kind == 1 }

def FireFields.inRange (f : FireFields) : Bool := decide (f.evacuate ≤ 31) && decide (f.alert ≤ 31)

def FireFields.clamped (f : FireFields) : FireFields :=
  { f with confirm := clampTo 0 10 f.confirm, delay := clampTo 0 600 f.delay
           acknowledge := clampTo 30 300 f.acknowledge }

/-! ### Nodes (R180) -/

/-- The kind a SET NODE names: SHUTTER, STATION, DETECTOR, or unconfigured for 255; `none` for any other code. -/
def Machine.nodeKindOf (code : Nat) : Option (Option NodeKind) :=
  if code = 0 then some (some .shutter) else if code = 1 then some (some .station)
  else if code = 2 then some (some .detector) else if code = 255 then some none else none

/-- The node at an address 1 to 64. -/
def Machine.Loop.node? (f : Loop) (address : Nat) : Option Node :=
  if address = 0 then none else present? f.nodes (address - 1)

/-- The address is configured as a node of the kind. -/
def Machine.Loop.isKind (f : Loop) (address : Nat) (kind : NodeKind) : Bool := (f.node? address).any fun n => n.kind == kind

/-- The node at the address is PRESENT. -/
def Machine.Loop.isPresent (f : Loop) (address : Nat) : Bool := (f.node? address).any fun n => n.state == .present

end Sys2Proof
end

