-- ==== Sys2Proof/Machine/Flags.lean ====
section
/-! DEFINITION. What is worked out from the records whenever it is asked for: outputs, positions, tests and permissions.
The manual calls several of these fields (output images, lamps, concern counts, zone records, the motion set, the lost
count); each is a function of the records below it, so the model stores those and computes the view (log entry 10). -/

namespace Sys2Proof.Machine

/-! ### Chain -/

/-- The moving states (R6, R62). -/
def ChainState.moving : ChainState → Bool
  | .starting | .running | .stopping | .braking | .creeping | .homing | .inspectionRun => true
  | .halted | .parked | .inspectionIdle | .tripped => false

/-- The four drive outputs: brake released, run, slow and reverse contactors on. -/
structure Drive where
  released : Bool
  run : Bool
  slow : Bool
  reverse : Bool
  deriving DecidableEq, Repr

/-- The timing set, every field 0 while none is held; the checks that use it are made only while one is held (R1). -/
def ChainConfig.times (c : ChainConfig) : TimingFields :=
  c.timing.getD
    { stallLimit := 0, overspeedLimit := 0, acceptance := 0, margin := 0, creepStop := 0, drift := 0, decel := 0
      runup := 0, homing := 0, brakeDelay := 0 }

/-- The chain's supply group (R1). -/
def Chain.group (c : Chain) : Nat := (c.config.geometry.map (·.group)).getD 0

/-- The brake has been applied at the plan's brake point. -/
def Chain.braked (c : Chain) : Bool := (c.plan.map (·.braked)).getD false

/-- The drive outputs of each chain state (R6). -/
def Chain.drive (c : Chain) : Drive :=
  match c.state with
  | .halted | .braking | .parked | .inspectionIdle | .tripped => ⟨false, false, false, false⟩
  | .starting | .running => ⟨true, true, false, false⟩
  | .stopping => ⟨!c.braked, !c.braked, false, false⟩
  | .creeping => ⟨!c.braked, false, !c.braked, false⟩
  | .homing => ⟨true, false, true, false⟩
  | .inspectionRun => ⟨true, false, true, c.reverse⟩

/-- The most recent window was a zero window (R5). -/
def Chain.still (c : Chain) : Bool := c.lastWindow == some 0

/-- The chain is stationary for FORCE DROP (R48). -/
def Chain.stationary (c : Chain) : Bool :=
  (c.state == .halted || c.state == .parked || c.state == .tripped || c.state == .inspectionIdle) && c.still

/-- The chain is PARKED with the landing in its park record's set (R46). -/
def Chain.parkedClearOf (c : Chain) (l : Nat) : Bool :=
  c.state == .parked && c.park.any fun p => p.set.contains l

/-- The chain cannot park (R168). -/
def Chain.cannotPark (c : Chain) : Bool :=
  c.state == .tripped || c.state == .inspectionIdle || c.state == .inspectionRun || !c.known

/-- The position as a notice gives it: none if UNKNOWN (R25). -/
def Chain.position? (c : Chain) : Option Nat := if c.known then some c.x else none

/-! ### Shutters -/

/-- A shutter's position from its limits (R43). -/
def ShutterInputs.position (i : ShutterInputs) : Position :=
  match i.top, i.bottom with
  | true, false => .top
  | false, true => .bottom
  | false, false => .between
  | true, true => .both

/-- The position last read; BETWEEN where nothing has been received, which only an UNSEEN shutter can show. -/
def Shutter.position (r : Shutter) : Position := (r.inputs.map (·.position)).getD .between

def Shutter.edge (r : Shutter) : Bool := (r.inputs.map (·.edge)).getD false

/-- The link is melted (R43). -/
def Shutter.melted (r : Shutter) : Bool := (r.inputs.map fun i => !i.link).getD false

def Shutter.landing? (r : Shutter) : Option Nat :=
  match r.config.kind with
  | .hall => none
  | .landing l => some l

def Shutter.isLanding (r : Shutter) : Bool := r.landing?.isSome

/-- A shutter's four outputs. -/
structure ShutterOutputs where
  coil : Bool
  brake : Bool
  motor : Bool
  bell : Bool
  deriving DecidableEq, Repr

/-- The outputs of each shutter state (R44, R59). -/
def Shutter.outputs (r : Shutter) : ShutterOutputs :=
  match r.state with
  | .unseen | .opened | .awaitClear => ⟨true, false, false, false⟩
  | .warning => ⟨true, false, false, true⟩
  | .descending => ⟨false, false, false, true⟩
  | .arrested => ⟨false, true, false, true⟩
  | .closed => ⟨false, false, false, false⟩
  | .partOpen | .waitSupply => ⟨true, true, false, false⟩
  | .raising => if r.paused then ⟨true, true, false, false⟩ else ⟨true, false, true, false⟩
  | .fault => ⟨r.faultCoil, false, false, false⟩

/-- The shutter is one the motion cursor serves (R63, R173). -/
def Shutter.inMotion (r : Shutter) : Bool := r.state == .descending || r.state == .arrested || r.state == .raising

/-- A state in which a landing shutter does not bar run permission (R7). -/
def ShutterState.permits : ShutterState → Bool
  | .opened | .closed | .partOpen | .waitSupply | .awaitClear => true
  | _ => false

def Shutters.get? (t : Shutters) (n : Nat) : Option Shutter := present? t.table n

/-- Every landing shutter is in a state that permits the chain to move (R7). -/
def Shutters.permit (t : Shutters) : Bool := t.table.all fun o => o.all fun r => !r.isLanding || r.state.permits

/-- A shutter of the landing is in AWAIT_CLEAR (R10). -/
def Shutters.waiting (t : Shutters) (l : Nat) : Bool :=
  t.table.any fun o => o.any fun r => r.landing? == some l && r.state == .awaitClear

/-- A landing shutter is in FAULT (R23). -/
def Shutters.landingFault (t : Shutters) : Bool :=
  t.table.any fun o => o.any fun r => r.isLanding && r.state == .fault

/-! ### Run permission (R7) -/

/-- Run permission for a move other than a start: conditions 1 to 3. -/
def runPermission (c : Chain) (t : Shutters) : Bool := c.safetyClosed && c.state != .tripped && t.permit

/-- Run permission for a start into STARTING: conditions 1 to 4. -/
def startPermission (c : Chain) (t : Shutters) (f : FireCondition) : Bool :=
  runPermission c t && c.clearance.isEmpty && f == .normal

/-! ### Supply -/

def Supply.group? (u : Supply) (g : Nat) : Option Group := u.groups[g]?

/-- The group's queue has no place for a request of the owner, whose own entry does not count (R8, R68). -/
def Supply.full (u : Supply) (owner : MoveOwner) (g : Nat) : Bool :=
  (u.group? g).all fun r => decide (Config.moveQueuePlaces ≤ (r.queue.filter fun q => q.owner != owner).length)

/-! ### Floors -/

/-- The numbers of the shutters of a floor (R79). -/
def Shutters.ofFloor (t : Shutters) (f : Nat) : List Nat := presentWhere t.table fun r => r.config.floor == f

/-- A shutter is closed for the floor table (R80). -/
def Shutter.countsClosed (r : Shutter) : Bool :=
  r.state == .closed || (r.state == .fault && r.observed == some .bottom)

/-- A shutter is at rest for opening (R80). -/
def Shutter.atRest (r : Shutter) : Bool :=
  r.state == .opened || r.state == .closed || r.state == .partOpen || r.state == .fault || r.state == .unseen

/-- Every shutter of the floor meets `p`. -/
def Shutters.everyOf (t : Shutters) (f : Nat) (p : Shutter → Bool) : Bool :=
  t.table.all fun o => o.all fun r => r.config.floor != f || p r

def Shutters.allClosed (t : Shutters) (f : Nat) : Bool := t.everyOf f Shutter.countsClosed
def Shutters.settled (t : Shutters) (f : Nat) : Bool := t.everyOf f Shutter.atRest
def Shutters.allOpen (t : Shutters) (f : Nat) : Bool := t.everyOf f fun r => r.state == .opened

/-- The number of shutters of the floor in FAULT (R84, R86). -/
def Shutters.faultCount (t : Shutters) (f : Nat) : Nat :=
  (presentWhere t.table fun r => r.config.floor == f && r.state == .fault).length

/-- The shutters of the floor that are not OPEN, each with its state (R86). -/
def Shutters.notOpen (t : Shutters) (f : Nat) : List (Nat × ShutterState) :=
  (presentWhere t.table fun r => r.config.floor == f && r.state != .opened).filterMap fun n =>
    (t.get? n).map fun r => (n, r.state)

def Floors.get? (t : Floors) (f : Nat) : Option Floor := t.table[f]?

def Floors.state? (t : Floors) (f : Nat) : Option FloorState := (t.get? f).map (·.state)

def Floors.isIn (t : Floors) (f : Nat) (st : FloorState) : Bool := t.state? f == some st

/-- The zone set of a floor (R79). -/
def Floors.zones (t : Floors) (f : Nat) : List Nat := ((t.get? f).map (·.config.zones)).getD []

/-- The union of the zone sets of floors (R146, R162). -/
def Floors.zoneUnion (t : Floors) (floors : List Nat) : List Nat :=
  floors.foldl (fun u f => setUnion u (t.zones f)) []

/-- The floors in a state, in rising number. -/
def Floors.inState (t : Floors) (st : FloorState) : List Nat := numbersWhere t.table fun r => r.state == st

/-- The floor's fire zone: the zone whose floor set names it (R79). -/
def Fire.zoneOf (f : Fire) (floor : Nat) : Option Nat := (numbersWhere f.zones fun z => z.floors.contains floor).head?

/-- The fire lock of a shutter: its floor in FIRE, or a landing shutter outside NORMAL (R45, R52, R53). -/
def fireLocked (f : Floors) (condition : FireCondition) (r : Shutter) : Bool :=
  f.isIn r.config.floor .fire || (r.isLanding && condition != .normal)

/-! ### Sounder line -/

def SoundClass.isFire : SoundClass → Bool
  | .evacuate | .alert => true
  | _ => false

def SoundClass.isCall : SoundClass → Bool
  | .callUrgent | .callNormal => true
  | _ => false

/-- The pattern duration, in units of 50 ms (R94). -/
def patternDuration (l : List Element) : Nat := (l.map (·.length)).foldl (· + ·) 0

def Sounder.pattern (s : Sounder) (p : Nat) : List Element := (s.patterns[p]?).getD []

/-- The sounding in progress that holds the zone, or none for a free zone (R96). -/
def Sounder.holder? (s : Sounder) (z : Nat) : Option Playing := s.playing.find? fun p => p.sounding.zones.contains z

/-- Every zone of the set is free (R103). -/
def Sounder.zonesFree (s : Sounder) (zones : List Nat) : Bool := zones.all fun z => (s.holder? z).isNone

/-- The tone a zone's output drives now, none for off or a rest (R94, R96). -/
def Sounder.output (s : Sounder) (z : Nat) : Option Nat :=
  match s.holder? z with
  | none => none
  | some p => ((s.pattern p.sounding.pattern)[p.element]?).bind (·.tone)

/-! ### Calls -/

def Calls.station? (c : Calls) (n : Nat) : Option Station := present? c.stations n

/-- The floor of a call: its station's floor, or its own (R118, R123). -/
def Calls.floorOf (c : Calls) (r : Call) : Nat :=
  match r.origin with
  | .button st _ => ((c.station? st).map (·.config.floor)).getD 8
  | .floor f => f

/-- The call concerns the station (R114). -/
def Calls.concerns (c : Calls) (station : Nat) (r : Call) : Bool :=
  match r.origin with
  | .button st _ => st == station
  | .floor f => (c.station? station).any fun s => s.config.floor == f

/-- The concern count of a station (R114). -/
def Calls.concernCount (c : Calls) (station : Nat) : Nat := (c.calls.filter (c.concerns station)).length

/-- A station's lamp (R113). -/
inductive Lamp where
  | off | steady | flash
  deriving DecidableEq, Repr

/-- The lamp of a station (R114). -/
def Calls.lamp (c : Calls) (station : Nat) : Lamp :=
  let about := c.calls.filter (c.concerns station)
  if about.any fun r => r.cls == .sweep || r.cls == .warden || r.phase == .unassigned then .flash
  else if about.isEmpty then .off else .steady

/-- A member is free: on duty with no assigned call (R116). -/
def Calls.isFree (c : Calls) (member : Nat) : Bool := (c.staff[member]?).any fun m => m.onDuty && m.assigned.isNone

/-! ### Fire -/

/-- An input of the zone is in the state. -/
def Fire.zoneHas (f : Fire) (zone : Nat) (st : DetectorState) : Bool :=
  f.inputs.any fun o => o.any fun d => d.config.zone == zone && d.state == st

/-- The held set as it should stand (R168). -/
def heldSet (c : Chain) (condition : FireCondition) : List Nat :=
  if condition != .normal && c.cannotPark then c.clearance else []

/-! ### Field loop -/

/-- The motion set: SHUTTER addresses that carry a shutter in DESCENDING, ARRESTED or RAISING (R173). -/
def State.motionSet (s : State) : List Nat :=
  ((List.range 64).map (· + 1)).filter fun a =>
    s.flp.isKind a .shutter && s.sht.table.any fun o => o.any fun r => r.config.node == a && r.inMotion

/-- The lost count (R173). -/
def Loop.lostCount (f : Loop) : Nat := (presentWhere f.nodes fun n => n.state == .lost).length

/-- A Boolean as a bit of weight `w`. -/
def bit (b : Bool) (w : Nat) : Nat := if b then w else 0

/-- A shutter's byte of an output image (section 12.7). -/
def Shutter.outputByte (r : Shutter) : Byte :=
  let o := r.outputs
  BitVec.ofNat 8 (bit o.coil 1 + bit o.brake 2 + bit o.motor 4 + bit o.bell 8)

/-- The shutter of a node and slot. -/
def Shutters.at? (t : Shutters) (node slot : Nat) : Option Nat :=
  (presentWhere t.table fun r => r.config.node == node && r.config.slot == slot).head?

/-- The station of a node. -/
def Calls.atNode? (c : Calls) (node : Nat) : Option Nat :=
  (presentWhere c.stations fun s => s.config.node == node).head?

def Lamp.byte : Lamp → Byte
  | .off => 0
  | .steady => 1
  | .flash => 2

/-- The output image of a node as its owners compose it (R179). A LOST station's image follows its lamp at once, not only
when the node is found (R114, R129; log entry 64). -/
def State.outputImage (s : State) (address : Nat) : Image :=
  let part (slot : Nat) : Byte :=
    (((s.sht.at? address slot).bind s.sht.get?).map Shutter.outputByte).getD 0
  match (s.flp.node? address).map Node.kind with
  | some .shutter => ⟨part 0, part 1⟩
  | some .station => ⟨((s.cal.atNode? address).map fun n => (s.cal.lamp n).byte).getD 0, 0⟩
  | some .detector => ⟨0, 0⟩
  | none => ⟨0, 0⟩

/-- A shutter's inputs in its byte of an input image (section 12.7). -/
def inputsOf (b : Byte) : ShutterInputs := ⟨b.getLsbD 0, b.getLsbD 1, b.getLsbD 2, b.getLsbD 3⟩

/-- A detector slot's state in an input image; the value 3 is taken as FAULT (section 12.7). -/
def detectorOf (b : Byte) (slot : Nat) : DetectorState :=
  match b.getLsbD (2 * slot), b.getLsbD (2 * slot + 1) with
  | false, false => .normal
  | true, false => .alarm
  | _, true => .fault

end Sys2Proof.Machine
end

