-- ==== Sys2Proof/Machine/Programme.lean ====
section
/-! DEFINITION. PRG, the programme unit (chapter 9): the closing and opening programmes step by step, the reports they
wait for, abort and end, and the orders it answers. -/

namespace Sys2Proof.Machine

/-! ### The record -/

/-- The floor at the cursor (R143). -/
def Programme.floor? (p : Programme) : Option Nat := p.cursor.bind fun k => p.floors[k]?

def Programme.running (p : Programme) : Bool := p.kind != .none

/-- The programme is in the step. -/
def Programme.isAt (p : Programme) (st : ProgrammeStep) : Bool := p.running && p.step == some st

/-- A step after the first is entered, its deadline and retry stopped, with its notice (R146), which goes before
what the step asks of the other blocks (log entry 82). -/
def programmeStep (st : ProgrammeStep) (s : State) : State :=
  let s := s.onPrg fun p => { p with step := some st, deadline := .stopped, placingRetry := .stopped }
  s.notify (.programmeStep s.prg.kind st s.prg.floor?)

/-- The step deadline is set, in seconds. -/
def programmeDeadline (secs : Nat) (s : State) : State := s.onPrg fun p => { p with deadline := Timer.start secs }

/-- The programme ends: the record's running fields become none and the last outcome is written (R143). -/
def Programme.ended (p : Programme) (outcome : ProgrammeOutcome) : Programme :=
  { p with kind := .none, step := none, cursor := none, sounding := none, deadline := .stopped, sweepCall := none
           placingRetry := .stopped
           last := some { outcome := outcome, step := p.step.getD .finish, cursor := p.floor? } }

/-- PROGRAMME_ENDED and the end (R151, R155, R156). -/
def programmeEnd (outcome : ProgrammeOutcome) (s : State) : State :=
  let p := s.prg
  (s.notify (.programmeEnded p.kind outcome p.step p.floor? p.faulted p.skipped
    (if p.kind = .opening then some p.opened else none))).onPrg fun p => p.ended outcome

/-- The END step (R151, R155). -/
def programmeFinish (s : State) : State :=
  let clean := s.prg.faulted.isEmpty && s.prg.skipped.isEmpty
  programmeEnd (if clean then .complete else .completeWithFaults) (programmeStep .finish s)

/-! ### Soundings (R146) -/

/-- The programme sounding of the present step is asked for: class CUE, 1 repeat. -/
def programmeSound (st : ProgrammeStep) (pattern : Nat) (floors : List Nat) (s : State) : State :=
  (s.onPrg fun p => { p with sounding := some .queued }).post
    [.snd (.arrive .cue pattern (s.flr.zoneUnion floors) 1 (.programme st))]

/-- A warning step after the first. -/
def programmeWarn (st : ProgrammeStep) (pattern : Nat) (s : State) : State :=
  programmeSound st pattern s.prg.floors (programmeStep st s)

/-- A gap step with its deadline. -/
def programmeGap (st : ProgrammeStep) (secs : Nat) (s : State) : State := programmeDeadline secs (programmeStep st s)

/-- The programme sounding has ended or was dropped: the step moves on. -/
def programmeSounded (s : State) : State :=
  let s := s.onPrg fun p => { p with sounding := none }
  match s.prg.step with
  | some .firstWarning => programmeGap .gap1 s.prg.settings.gap1 s
  | some .secondWarning => programmeGap .gap2 s.prg.settings.gap2 s
  | some .finalBells => programmeGap .finalGap s.prg.settings.finalGap s
  | some .openCue => programmeFinish s
  | _ => s

/-- A report on a sounding that is still the record's programme sounding. -/
def programmeReport (st : ProgrammeStep) (r : SoundReport) (s : State) : State :=
  if !(s.prg.isAt st && s.prg.sounding.isSome) then s
  else
    match r with
    | .queued | .requeued => s.onPrg fun p => { p with sounding := some .queued }
    | .started => s.onPrg fun p => { p with sounding := some .started }
    | .ended | .dropped => programmeSounded s
    | .deferred => s

/-! ### Sweep, secure, dwell (R147, R149, R150) -/

/-- The SWEEP step for the floor at the cursor. -/
def programmeSweep (s : State) : State :=
  let s := programmeStep .sweep (s.onPrg fun p => { p with overdue := false, sweepCall := none })
  let s := programmeDeadline s.prg.settings.sweepTimeout s
  s.post (s.prg.floor?.toList.map fun f => Msg.cal (.placeSweep f))

/-- After the floor at the cursor is SHUT or skipped: END, or the chain's restart and the dwell. -/
def programmeFloorDone (s : State) : State :=
  if s.prg.floors.length ≤ (s.prg.cursor.getD 0) + 1 then programmeFinish s
  else
    let restart := s.prg.chainWasRunning && !s.chn.state.moving
    let s := s.onPrg fun p => { p with step := some .dwell, deadline := .stopped, placingRetry := .stopped, sweepCall := none }
    s.post ((if restart then [Msg.chn .runForProgramme] else []) ++
      [.lnk (.notice (.programmeStep s.prg.kind .dwell s.prg.floor?)), .prg .dwellGo])

/-- A floor that was not in the expected state at its turn (R147, R149, R154). -/
def programmeSkip (f : Nat) (s : State) : State :=
  (s.onPrg fun p => { p with skipped := setUnion p.skipped [f] }).notify
    (.floorSkipped f ((s.flr.state? f).getD .shut))

/-- The SECURE step for the floor f. -/
def programmeSecure (f : Nat) (s : State) : State :=
  let s := programmeStep .secure (s.onPrg fun p => { p with sweepCall := none })
  if s.flr.isIn f .swept then s.post [.flr (.secure f)] else programmeFloorDone (programmeSkip f s)

/-- The next floor of the list is swept. -/
def programmeNextSweep (s : State) : State :=
  programmeSweep (s.onPrg fun p => { p with cursor := p.cursor.map (· + 1) })

/-- The dwell begins; one of 0 s is over at once. -/
def programmeDwellGo (s : State) : State :=
  if !s.prg.isAt .dwell then s
  else if s.prg.settings.dwell = 0 then programmeNextSweep s
  else programmeDeadline s.prg.settings.dwell s

/-- The dispatcher's answer to the placing of the SWEEP call. -/
def programmeSweepAnswer (f : Nat) (a : SweepAnswer) (s : State) : State :=
  if !(s.prg.isAt .sweep && s.prg.floor? = some f) then s
  else
    match a with
    | .placed n => s.onPrg fun p => { p with sweepCall := some n, placingRetry := .stopped }
    | .full => s.onPrg fun p => { p with placingRetry := Timer.start p.settings.sweepRound }
    | .wrongState =>
      if s.flr.isIn f .swept then programmeSecure f s else programmeFloorDone (programmeSkip f s)

/-! ### The opening programme (R153, R154, R155) -/

/-- The CHAIN_START step. -/
def programmeChainStart (s : State) : State :=
  let s := programmeStep .chainStart s
  s.post ((if s.chn.state.moving then [] else [Msg.chn .runForProgramme]) ++ [.prg .openCue])

/-- The floor at the cursor has been taken: the next is raised, or CHAIN_START is taken. -/
def programmeRaised (s : State) : State :=
  if s.prg.floors.length ≤ (s.prg.cursor.getD 0) + 1 then programmeChainStart s
  else (s.onPrg fun p => { p with cursor := p.cursor.map (· + 1) }).post [.prg .raiseNext]

/-- The RAISE step for the floor at the cursor. -/
def programmeRaise (s : State) : State :=
  match s.prg.floor? with
  | none => s
  | some f =>
    let s := programmeStep .raise s
    if s.flr.isIn f .shut then s.post [.flr (.raise f)] else programmeRaised (programmeSkip f s)

/-- CHAIN_STOP ends: the cursor stands on the first floor. -/
def programmeChainStopped (s : State) : State := (s.onPrg fun p => { p with cursor := some 0 }).post [.prg .raiseNext]

/-- OPEN_CUE. -/
def programmeOpenCue (s : State) : State :=
  if !s.prg.isAt .chainStart then s
  else
    let s := programmeStep .openCue s
    if s.prg.opened.isEmpty then programmeFinish s
    else programmeSound .openCue s.prg.settings.openingPattern s.prg.opened s

/-! ### Reports (R152) -/

/-- A change of a floor's state. A report not acted on leaves nothing behind: R152 has it noted for READ PROGRAMME, and
neither R143 nor R157 gives the note a field (log entry 59). -/
def programmeFloorReport (f : Nat) (left entered : FloorState) (s : State) : State :=
  if s.prg.floor? != some f then s
  else if s.prg.isAt .sweep && entered == .swept then programmeSecure f s
  else if s.prg.isAt .secure && entered == .shut then
    let faulty := (s.flr.get? f).any fun r => decide (0 < r.faulted)
    programmeFloorDone (if faulty then s.onPrg fun p => { p with faulted := setUnion p.faulted [f] } else s)
  else if s.prg.isAt .raise && left == .opening then
    programmeRaised (s.onPrg fun p =>
      if entered = .trading then { p with opened := setUnion p.opened [f] }
      else if entered = .shut then { p with faulted := setUnion p.faulted [f] }
      else p)
  else s

/-- A change of the chain's state. -/
def programmeChainState (st : ChainState) (s : State) : State :=
  if s.prg.isAt .chainStop && s.prg.cursor.isNone && !st.moving then programmeChainStopped s else s

/-- The chain supervisor's answer to RUN CHAIN. That TAKEN is noted (R150, R155) leaves no trace: the record has no field
for it (log entry 59). -/
def programmeRunAnswer (r : Result) (s : State) : State :=
  match r with
  | .declined reason _ => if s.prg.running then s.notify (.chainHeld reason) else s
  | .done _ _ | .taken _ => s

/-- The chain supervisor's answer to STOP CHAIN. -/
def programmeStopAnswer (r : Result) (s : State) : State :=
  if !(s.prg.isAt .chainStop && s.prg.cursor.isNone) then s
  else
    match r with
    | .done _ _ => programmeChainStopped s
    | .taken _ => s
    | .declined reason _ => programmeChainStopped (s.notify (.chainHeld reason))

/-! ### Abort (R156) -/

/-- A programme in progress is aborted. -/
def programmeAbort (outcome : ProgrammeOutcome) (s : State) : State :=
  if !s.prg.running then s
  else
    let cancel := match s.prg.step, s.prg.sounding with
      | some st, some _ => [Msg.snd (.cancel (.programme st))]
      | _, _ => []
    programmeEnd outcome (s.post cancel)

/-- An event handed to the programme unit. -/
def programmeTake (m : ProgrammeMsg) (s : State) : State :=
  match m with
  | .floorReport f left entered => programmeFloorReport f left entered s
  | .sounding st r => programmeReport st r s
  | .fireLeft => programmeAbort .abortedByFire s
  | .chainState st => programmeChainState st s
  | .sweepAnswer f a => programmeSweepAnswer f a s
  | .runAnswer r => programmeRunAnswer r s
  | .stopAnswer r => programmeStopAnswer r s
  | .dwellGo => programmeDwellGo s
  | .raiseNext => programmeRaise s
  | .openCue => programmeOpenCue s
  | .serviceReset => programmeAbort .abortedByReset s

/-! ### Timers -/

/-- The step deadline of a gap expires (R146). -/
def programmeDeadlineExpiry (s : State) : State :=
  if !(s.prg.running && s.prg.deadline.isRunning) then s
  else
    match s.prg.step with
    | some .gap1 => programmeWarn .secondWarning s.prg.settings.secondPattern s
    | some .gap2 => programmeWarn .finalBells s.prg.settings.finalPattern s
    | some .finalGap => programmeSweep s
    | _ => s

/-- The sweep deadline expires (R147). -/
def programmeSweepTimeout (s : State) : State :=
  match s.prg.isAt .sweep && s.prg.deadline.isRunning, s.prg.floor? with
  | true, some f =>
    (s.onPrg fun p => { p with overdue := true, deadline := .stopped }).notify
      (.sweepOverdue f s.prg.sweepCall s.prg.settings.sweepTimeout)
  | _, _ => s

/-- The placing retry expires (R147). -/
def programmePlacingRetry (s : State) : State :=
  if s.prg.isAt .sweep && s.prg.placingRetry.isRunning then
    (s.onPrg fun p => { p with placingRetry := .stopped }).post
      (s.prg.floor?.toList.map fun f => Msg.cal (.placeSweep f))
  else s

/-- The dwell expires (R150). -/
def programmeDwellExpiry (s : State) : State :=
  if s.prg.isAt .dwell && s.prg.deadline.isRunning then programmeNextSweep s else s

/-! ### Orders -/

/-- The closing order of floors from the street floor (R145). -/
def closingOrder (street : Nat) : List Nat :=
  ((List.range 8).filter (street < ·)).reverse ++ (List.range 8).filter (· < street) ++ [street]

/-- The opening order of floors from the street floor (R153). -/
def openingOrder (street : Nat) : List Nat :=
  [street] ++ (List.range 8).filter (street < ·) ++ ((List.range 8).filter (· < street)).reverse

/-- The record, cleared, as a programme starts: the last outcome goes with the rest of it (R143, R144, R153). -/
def Programme.started (p : Programme) (kind : ProgrammeKind) (step : ProgrammeStep) (floors : List Nat)
    (cursor : Option Nat) (wasRunning : Bool) : Programme :=
  { settings := p.settings, kind := kind, step := some step, floors := floors, cursor := cursor, sounding := none
    deadline := .stopped, sweepCall := none, placingRetry := .stopped, chainWasRunning := wasRunning, overdue := false
    faulted := [], skipped := [], opened := [], last := none }

/-- START CLOSING (R144, R146). -/
def orderStartClosing (s : State) : State × Result :=
  let trading := s.flr.inState .trading
  if s.prg.running then declined .busy s
  else if s.fir.condition != .normal then declined .fireLock s
  else if trading.isEmpty then declined .wrongState s
  else
    let floors := (closingOrder s.prg.settings.street).filter fun f => trading.contains f
    let wasRunning := s.chn.state == .starting || s.chn.state == .running
    let s := (s.onPrg fun p => p.started .closing .firstWarning floors (some 0) wasRunning).post
      (trading.map fun f => Msg.flr (.beginClosing f))
    let s := programmeSound .firstWarning s.prg.settings.firstPattern floors s
    taken (s.notify (.programmeStarted .closing floors))

/-- START OPENING (R153). -/
def orderStartOpening (s : State) : State × Result :=
  let shut := s.flr.inState .shut
  if s.prg.running then declined .busy s
  else if s.fir.condition != .normal then declined .fireLock s
  else if shut.isEmpty then declined .wrongState s
  else
    let floors := (openingOrder s.prg.settings.street).filter fun f => shut.contains f
    let s := (s.onPrg fun p => p.started .opening .chainStop floors none false).notify
      (.programmeStarted .opening floors)
    taken (if s.chn.state.moving then s.post [.chn .stopForProgramme] else programmeChainStopped s)

/-- SKIP FLOOR (R148); a DONE names the floor. -/
def orderSkipFloor (s : State) : State × Result :=
  match s.prg.kind == .closing && s.prg.isAt .sweep, s.prg.floor? with
  | true, some f => (s.post [.flr (.confirm f .order)], .done false (field 1 f))
  | _, _ => declined .wrongState s

/-! ### Codes of section 12.7 -/

def ProgrammeKind.code : ProgrammeKind → Nat
  | .none => 0
  | .closing => 1
  | .opening => 2

def ProgrammeStep.code : ProgrammeStep → Nat
  | .firstWarning => 0
  | .gap1 => 1
  | .secondWarning => 2
  | .gap2 => 3
  | .finalBells => 4
  | .finalGap => 5
  | .sweep => 6
  | .secure => 7
  | .dwell => 8
  | .finish => 9
  | .chainStop => 10
  | .raise => 11
  | .chainStart => 12
  | .openCue => 13

/-- ABORT PROGRAMME (R156); a DONE gives the kind, step and cursor at the abort. -/
def orderAbortProgramme (s : State) : State × Result :=
  if !s.prg.running then declined .wrongState s
  else
    let data := field 1 s.prg.kind.code ++ field? 1 (s.prg.step.map ProgrammeStep.code) ++ field? 1 s.prg.floor?
    (programmeAbort .aborted s, .done false data)

/-- SET PROGRAMME (R142). -/
def orderSetProgramme (f : ProgrammeFields) (s : State) : State × Result :=
  let f' := f.clamped
  if !f.inRange then declined .outOfRange s
  else if s.prg.running then declined .busy s
  else doneClamped (f' != f) (s.onPrg fun p => { p with settings := f' })

end Sys2Proof.Machine
end

