-- ==== Sys2Proof/Machine/Sounder.lean ====
section
/-! DEFINITION. SND, the sounder line controller (chapter 6): the queue and its start pass, the fire classes, pre-emption,
reservations, the slot of a scheduled cue, and the orders it answers. -/

namespace Sys2Proof.Machine

/-! ### Reports to the origin -/

/-- What the origin of a sounding is told (R97, R99, R102, R103). A fire sounding has no origin to report to. -/
def originReport (o : SoundOrigin) (r : SoundReport) : List Msg :=
  match o with
  | .call n _ => [.cal (.report n r)]
  | .programme step => [.prg (.sounding step r)]
  | .scheduled cue =>
    match r with
    | .ended => [.clk (.ended cue)]
    | .started => [.clk (.started cue)]
    | .queued | .requeued | .deferred | .dropped => []
  | .sound tag =>
    match r with
    | .ended => [.lnk (.notice (.soundEnded tag))]
    | .queued | .started | .requeued | .deferred | .dropped => []
  | .fire => []

/-! ### Queue order (R101) -/

def SoundClass.rank : SoundClass → Nat
  | .evacuate | .alert | .cue => 0
  | .callUrgent => 1
  | .callNormal => 2

/-- The place of a sounding's team in the team order list; 0 for a CUE. -/
def Sounder.teamPlace (u : Sounder) (x : Sounding) : Nat :=
  match x.cls, x.origin with
  | .callUrgent, .call _ team => u.teamOrder.idxOf team
  | .callNormal, .call _ team => u.teamOrder.idxOf team
  | _, _ => 0

/-- `a` stands strictly before `b` in the queue order. -/
def Sounder.before (u : Sounder) (a b : Sounding) : Bool :=
  let ra := (a.cls.rank, u.teamPlace a, a.stamp)
  let rb := (b.cls.rank, u.teamPlace b, b.stamp)
  decide (ra.1 < rb.1) || (ra.1 == rb.1 && (decide (ra.2.1 < rb.2.1) || (ra.2.1 == rb.2.1 && decide (ra.2.2 < rb.2.2))))

/-- The queue order worked out afresh. -/
def Sounder.sorted (u : Sounder) (l : List Sounding) : List Sounding := sortBy u.before l

/-- Soundings leave the queue; a fall from 24 makes a ROOM report due (R102). -/
def Sounder.remove (u : Sounder) (p : Sounding → Bool) : Sounder :=
  let queue := u.queue.filter fun x => !p x
  { u with queue := queue
           roomDue := u.roomDue || (u.queue.length == Config.sounderPlaces && decide (queue.length < Config.sounderPlaces)) }

/-! ### Arrival (R102) -/

/-- The queued CALL sounding with the latest stamp. -/
def Sounder.newestCall (u : Sounder) : Option Sounding :=
  (u.queue.filter fun x => x.cls.isCall).foldl
    (fun m x => match m with
      | none => some x
      | some y => if y.stamp < x.stamp then some x else some y) none

/-- A sounding joins the queue in its place, its origin is told, and the start pass is run at once, at a return after
pre-emption too (R102; log entry 55). -/
def soundJoin (x : Sounding) (report : SoundReport) (s : State) : State :=
  (s.onSnd fun u => { u with queue := u.sorted (u.queue ++ [x]) }).post
    (originReport x.origin report ++ [.snd .startPass])

/-- A sounding arrives for the queue, or returns to it, and is taken by how full the queue is. -/
def soundArrive (x : Sounding) (report : SoundReport) (s : State) : State :=
  if s.snd.queue.length < Config.sounderPlaces then soundJoin x report s
  else if x.cls.isCall then s.post (originReport x.origin .deferred)
  else
    match s.snd.newestCall with
    | some y =>
      let s := s.onSnd fun u => { u with queue := u.queue.filter fun z => z.stamp != y.stamp }
      soundJoin x report (s.post (originReport y.origin .deferred))
    | none => s.post (.lnk (.notice (.soundingDropped x.origin x.pattern)) :: originReport x.origin .dropped)

/-- A finite sounding as it first arrives, with the next arrival stamp (R95). -/
def Sounder.fresh (u : Sounder) (cls : SoundClass) (pattern : Nat) (zones : List Nat) (repeats : Nat)
    (origin : SoundOrigin) : Sounding :=
  { cls := cls, pattern := pattern, zones := zones, repeats := some repeats, origin := origin, stamp := u.nextStamp
    duration := patternDuration (u.pattern pattern) * repeats }

def soundNew (cls : SoundClass) (pattern : Nat) (zones : List Nat) (repeats : Nat) (origin : SoundOrigin) (s : State) :
    State :=
  soundArrive (s.snd.fresh cls pattern zones repeats origin) .queued
    (s.onSnd fun u => { u with nextStamp := u.nextStamp + 1 })

/-! ### Starting (R103, R104) -/

/-- A sounding in progress from its first element. -/
def Sounder.play (u : Sounder) (x : Sounding) : Playing :=
  { sounding := x, left := x.duration, pass := 0, element := 0
    elementLeft := ((u.pattern x.pattern)[0]?.map (·.length)).getD 0 }

/-- A call-class sounding clears every reservation that shares a zone with it: it ends at or before the lead runs out. A
reservation whose lead has run out holds its zones until it is removed (R108). -/
def Sounder.clearsReservations (u : Sounder) (x : Sounding) : Bool :=
  u.reservations.all fun r => !setsMeet x.zones r.zones || decide (x.duration ≤ r.lead)

/-- A queued sounding can start. -/
def Sounder.canStart (u : Sounder) (x : Sounding) : Bool :=
  u.zonesFree x.zones && (!x.cls.isCall || u.clearsReservations x)

/-- The team of a starting call-class sounding moves to the back of the team order list (R104). -/
def Sounder.moveTeam (u : Sounder) (x : Sounding) : Sounder :=
  match x.cls.isCall, x.origin with
  | true, .call _ team =>
    let u := { u with teamOrder := (u.teamOrder.filter fun t => t != team) ++ (u.teamOrder.filter fun t => t == team) }
    { u with queue := u.sorted u.queue }
  | _, _ => u

/-- One turn of the start pass: the first queued sounding that can start starts, and the pass looks again. -/
def soundStartPass (s : State) : State :=
  match s.snd.queue.find? s.snd.canStart with
  | none => s
  | some x =>
    (s.onSnd fun u =>
      let u := u.remove fun z => z.stamp == x.stamp
      { u with playing := u.playing ++ [u.play x] }.moveTeam x).post
      (originReport x.origin .started ++ [.snd .startPass])

/-! ### Pre-emption and the fire classes (R98, R99, R100) -/

/-- A pre-empted sounding goes as its origin decides. One that returns joins the queue with the start pass of R102 at once,
before the next pre-empted one is dealt with (log entry 55). -/
def soundPreempted (x : Sounding) (s : State) : State :=
  match x.origin with
  | .call _ _ | .programme _ | .sound _ => soundArrive x .requeued s
  | .scheduled cue => s.post [.clk (.clashed cue)]
  | .fire => s

/-- Soundings in progress are stopped whole and dealt with in order of their stamps, each return, and each move or removal
of a reservation, with its own start pass (log entry 55); then the start pass is run (R98). -/
def soundPreempt (which : Playing → Bool) (s : State) : State :=
  let hit := sortBy (fun a b => decide (a.stamp < b.stamp)) ((s.snd.playing.filter which).map (·.sounding))
  (s.onSnd fun u => { u with playing := u.playing.filter fun p => !which p }).post
    (hit.map (fun x => Msg.snd (.preempted x)) ++ [.snd .startPass])

/-- One zone takes the fire class: free zones and, for EVACUATE, ALERT zones take a fresh endless sounding (R98). -/
def Sounder.fireZone (u : Sounder) (cls : SoundClass) (pattern z : Nat) : Sounder :=
  let keeps := (u.holder? z).any fun p => p.sounding.cls == .evacuate || (p.sounding.cls == .alert && cls == .alert)
  if keeps then u
  else
    let x : Sounding :=
      { cls := cls, pattern := pattern, zones := [z], repeats := none, origin := .fire, stamp := u.nextStamp, duration := 0 }
    { u with playing := (u.playing.filter fun p => !p.sounding.zones.contains z) ++ [u.play x]
             nextStamp := u.nextStamp + 1 }

/-- A fire class is ordered on a zone set. -/
def soundFireOrder (cls : SoundClass) (pattern : Nat) (zones : List Nat) (s : State) : State :=
  let s := soundPreempt (fun p => !p.sounding.cls.isFire && setsMeet p.sounding.zones zones) s
  s.onSnd fun u => zones.foldl (fun u z => u.fireZone cls pattern z) u

/-- Every fire sounding is stopped (R100). -/
def soundEndFire (s : State) : State :=
  (s.onSnd fun u => { u with playing := u.playing.filter fun p => !p.sounding.cls.isFire }).post [.snd .startPass]

/-! ### Cancellation (R105) -/

/-- The origin cancels its sounding, without a report; the fire soundings are not cancelled so. -/
def soundCancel (o : SoundOrigin) (s : State) : State :=
  let running := s.snd.playing.any fun p => !p.sounding.cls.isFire && p.sounding.origin == o
  let s := s.onSnd fun u =>
    { u.remove fun x => x.origin == o with
      playing := u.playing.filter fun p => p.sounding.cls.isFire || p.sounding.origin != o }
  if running then s.post [.snd .startPass] else s

/-! ### Reservations (R106, R107) -/

/-- The seconds of a day. -/
def daySeconds : Nat := 86400

/-- The list's order: by start, then by cue (R106). Starts are compared as times of day, so that one after midnight stands
before one of the day before (log entry 53). -/
def reservationBefore (a b : Reservation) : Bool :=
  decide (a.start < b.start) || (a.start == b.start && decide (a.cue < b.cue))

/-- A reservation, its end worked out for reporting. -/
def makeReservation (cue start lead length : Nat) (zones : List Nat) : Reservation :=
  { cue := cue, start := start, finish := (start + Config.toSeconds length) % daySeconds, lead := lead, length := length
    zones := zones }

/-- The list with the cue's entry replaced, in order. -/
def Sounder.putReservation (u : Sounder) (r : Reservation) : Sounder :=
  { u with reservations := insertBy reservationBefore r (u.reservations.filter fun q => q.cue != r.cue) }

/-- The list refuses an entry for the cue: 16 entries and none of its own. -/
def Sounder.reservationsFull (u : Sounder) (cue : Nat) : Bool :=
  decide (Config.reservationPlaces ≤ u.reservations.length) && !u.reservations.any fun r => r.cue == cue

/-- A reservation put across a call sounding in progress pre-empts it (R107). -/
def soundReservationPut (r : Reservation) (s : State) : State :=
  let hit (p : Playing) : Bool :=
    p.sounding.cls.isCall && setsMeet p.sounding.zones r.zones && decide (r.lead < p.left)
  let s := s.onSnd fun u => u.putReservation r
  if s.snd.playing.any hit then soundPreempt hit s else s

/-- Enter, with the lead of 300 s the store clock always gives (R135). -/
def soundEnter (cue start length : Nat) (zones : List Nat) (s : State) : State :=
  if s.snd.reservationsFull cue then s
  else soundReservationPut (makeReservation cue start (Config.seconds Config.horizon) length zones) s

/-- Move (R106): the entry keeps its length and zones; a longer lead runs the start pass, before the next of several
pre-empted soundings is dealt with (R98; log entry 55). -/
def soundMove (cue start lead : Nat) (s : State) : State :=
  match s.snd.reservations.find? fun r => r.cue == cue with
  | none => s
  | some r =>
    let s := soundReservationPut (makeReservation cue start lead r.length r.zones) s
    if r.lead < lead then s.post [.snd .startPass] else s

/-- Remove (R106); the start pass stands as after a move (log entry 55). -/
def soundRemove (cue : Nat) (s : State) : State :=
  if s.snd.reservations.any fun r => r.cue == cue then
    (s.onSnd fun u => { u with reservations := u.reservations.filter fun r => r.cue != cue }).post [.snd .startPass]
  else s

/-- Clear. -/
def soundClear (s : State) : State := (s.onSnd fun u => { u with reservations := [] }).post [.snd .startPass]

/-! ### The slot of a scheduled cue (R106, R108) -/

/-- The lead of the cue's reservation has run out. -/
def soundLeadOut (cue : Nat) (s : State) : State :=
  s.onSnd fun u => { u with reservations := u.reservations.map fun r => if r.cue = cue then { r with lead := 0 } else r }

/-- A scheduled cue's sounding is started directly, or clashes. -/
def soundStartCue (cue pattern repeats : Nat) (zones : List Nat) (s : State) : State :=
  if s.snd.zonesFree zones then
    let x := s.snd.fresh .cue pattern zones repeats (.scheduled cue)
    (s.onSnd fun u => { u with playing := u.playing ++ [u.play x], nextStamp := u.nextStamp + 1 }).post
      (originReport (.scheduled cue) .started)
  else s.post [.clk (.clashed cue)]

/-- The sounder line's part in a service reset (R112). -/
def soundServiceReset (s : State) : State :=
  s.onSnd fun u => { u with playing := [], queue := [], reservations := [] }

/-- An event handed to the sounder line controller. -/
def soundTake (m : SounderMsg) (s : State) : State :=
  match m with
  | .arrive cls pattern zones repeats origin => soundNew cls pattern zones repeats origin s
  | .preempted x => soundPreempted x s
  | .startPass => soundStartPass s
  | .cancel o => soundCancel o s
  | .fireOrder cls pattern zones => soundFireOrder cls pattern zones s
  | .endFire => soundEndFire s
  | .enterReservation cue start length zones => soundEnter cue start length zones s
  | .moveReservation cue start lead => soundMove cue start lead s
  | .removeReservation cue => soundRemove cue s
  | .clearReservations => soundClear s
  | .startCue cue pattern repeats zones => soundStartCue cue pattern repeats zones s
  | .serviceReset => soundServiceReset s

/-! ### Elements and ends (R96, R97) -/

/-- The next element of a sounding in progress: the next of its list, the first again for a new pass; the last element of
the last pass of a finite sounding has none. -/
def Sounder.nextElement (u : Sounder) (p : Playing) : Option Playing :=
  let elements := u.pattern p.sounding.pattern
  let go (pass element : Nat) : Option Playing :=
    some { p with pass := pass, element := element, elementLeft := (elements[element]?.map (·.length)).getD 0 }
  if p.element + 1 < elements.length then go p.pass (p.element + 1)
  else
    match p.sounding.repeats with
    | none => go 0 0
    | some n => if p.pass + 1 < n then go (p.pass + 1) 0 else none

/-- A pattern element of the sounding has been played. -/
def soundElementEnd (stamp : Nat) (s : State) : State :=
  s.onSnd fun u =>
    { u with playing := u.playing.map fun p => if p.sounding.stamp = stamp then (u.nextElement p).getD p else p }

/-- A finite sounding ends (R97). -/
def soundEnd (stamp : Nat) (s : State) : State :=
  match s.snd.playing.find? fun p => p.sounding.stamp == stamp && !p.sounding.cls.isFire with
  | none => s
  | some p =>
    (s.onSnd fun u => { u with playing := u.playing.filter fun q => q.sounding.stamp != stamp }).post
      (originReport p.sounding.origin .ended ++ [.snd .startPass])

/-! ### Orders -/

/-- A sounding in progress or in the queue names the pattern (R94). -/
def Sounder.names (u : Sounder) (pattern : Nat) : Bool :=
  (u.playing.any fun p => p.sounding.pattern == pattern) || u.queue.any fun x => x.pattern == pattern

/-- SET PATTERN (R94). -/
def orderSetPattern (n : Nat) (elements : List ElementFields) (s : State) : State × Result :=
  if !(decide (n ≤ 31) && inRange 1 16 elements.length && elements.all ElementFields.inRange) then declined .outOfRange s
  else if s.snd.names n then declined .inUse s
  else
    doneClamped (elements.any ElementFields.clamps)
      (s.onSnd fun u => { u with patterns := u.patterns.set n (elements.map ElementFields.element) })

/-- SOUND (R109): OUT_OF_RANGE before QUEUE_FULL where both reasons hold (log entry 22); its TAKEN carries CLAMPED where the
repeats were clamped, in the answer and not in its frame (log entry 21). -/
def orderSound (tag pattern zones repeats : Nat) (s : State) : State × Result :=
  let set := maskSet 8 zones
  if !(decide (pattern ≤ 31) && decide (zones < 256)) || set.isEmpty then declined .outOfRange s
  else if decide (Config.sounderPlaces ≤ s.snd.queue.length) && !(s.snd.queue.any fun x => x.cls.isCall) then
    declined .queueFull s
  else
    let repeats' := clampTo 1 4 repeats
    takenClamped (repeats' != repeats) (soundNew .cue pattern set repeats' (.sound tag) s)

end Sys2Proof.Machine
end

