-- ==== Sys2Proof/Machine/Calls.lean ====
section
/-! DEFINITION. CAL, the call dispatcher (chapter 7): placing, dispatch, rounds, escalation, closing, sweep and warden
calls, acknowledgement, flush and loss, and the orders it answers. -/

namespace Sys2Proof.Machine

/-! ### The records -/

def Calls.call? (c : Calls) (n : Nat) : Option Call := c.calls.find? fun r => r.number == n

def Calls.mapCall (c : Calls) (n : Nat) (f : Call → Call) : Calls :=
  { c with calls := c.calls.map fun r => if r.number = n then f r else r }

def Calls.mapStation (c : Calls) (n : Nat) (f : Station → Station) : Calls :=
  { c with stations := c.stations.modify n (Option.map f) }

/-- The origin of the call's soundings (R123). -/
def Call.soundOrigin (r : Call) : SoundOrigin := .call r.number r.team

def Call.isOwn (r : Call) : Bool := r.cls == .normal || r.cls == .urgent

/-- The call belongs to the station by its button. -/
def Call.ofStation (r : Call) (station : Nat) : Bool :=
  match r.origin with
  | .button st _ => st == station
  | .floor _ => false

/-- The floor's state refuses calls (section 5.2, R119). -/
def callsRefused (t : Floors) (f : Nat) : Bool := t.isIn f .securing || t.isIn f .shut || t.isIn f .fire

/-! ### Numbers (R118) -/

/-- The number after `n`. -/
def nextCallNumber (n : Nat) : Nat := if n < 65535 then n + 1 else 1

/-- The next number that no open call holds. -/
def Calls.freeNumber (c : Calls) : Nat → Nat → Nat
  | 0, n => n
  | fuel + 1, n => if (c.call? n).isSome then c.freeNumber fuel (nextCallNumber n) else n

/-! ### Rounds (R123) -/

/-- The pattern of a call's round: the member's code pattern, or the team pattern for SWEEP and WARDEN. -/
def Calls.roundPattern (c : Calls) (r : Call) : Nat :=
  if r.isOwn then ((r.member.bind fun m => c.staff[m]?).map (·.pattern)).getD 0
  else ((c.teams[r.team]?).map (·.pattern)).getD 0

/-- A round of the call is requested. -/
def callRound (n : Nat) (s : State) : State :=
  match s.cal.call? n with
  | none => s
  | some r =>
    let cls := if r.cls = .normal then SoundClass.callNormal else .callUrgent
    (s.onCal fun c => c.mapCall n fun r => { r with phase := .queued, roundTimer := .stopped }).post
      [.snd (.arrive cls (s.cal.roundPattern r) (s.flr.zones (s.cal.floorOf r)) s.cal.timing.repeats r.soundOrigin)]

/-- The button of the call has its urgent-spent mark set (R120). -/
def Calls.spend (c : Calls) (r : Call) : Calls :=
  match r.origin, r.cls with
  | .button st b, .urgent => c.mapStation st fun x => { x with spent := x.spent.set b true }
  | _, _ => c

/-- The round timer's interval: the programme's sweep round interval for a SWEEP call, else that of R117. -/
def roundInterval (s : State) (r : Call) : Nat :=
  if r.cls = .sweep then s.prg.settings.sweepRound else s.cal.timing.interval

/-- A report on the call's sounding. -/
def callReport (n : Nat) (report : SoundReport) (s : State) : State :=
  match s.cal.call? n with
  | none => s
  | some r =>
    match report with
    | .queued | .requeued => s.onCal fun c => c.mapCall n fun r => { r with phase := .queued }
    | .started => s.onCal fun c => (c.mapCall n fun r => { r with phase := .sounding }).spend r
    | .deferred => s.onCal fun c => c.mapCall n fun r => { r with phase := .deferred }
    | .ended =>
      let timer := Timer.start (roundInterval s r)
      s.onCal fun c => c.mapCall n fun r =>
        { r with phase := .awaitingAck, rounds := min (r.rounds + 1) 255, roundTimer := timer }
    | .dropped => s

/-! ### Dispatch (R121, R122) -/

/-- The first place of the ring, stepping forward from the pointer, whose member is free. -/
def Calls.search (c : Calls) (t : Team) : Option (Nat × Nat) :=
  let n := t.ring.length
  let places := (List.range n).map fun k => (t.pointer + k) % n
  (places.filterMap fun p => (t.ring[p]?).map fun m => (p, m)).find? fun pm => c.isFree pm.2

/-- The member becomes the call's and the pointer passes the entry chosen. -/
def Calls.assign (c : Calls) (n team place member : Nat) : Calls :=
  { c.mapCall n fun r => { r with member := some member } with
    staff := c.staff.modify member fun m => { m with assigned := some n }
    teams := c.teams.modify team fun t => { t with pointer := (place + 1) % t.ring.length } }

/-- A NORMAL or URGENT call is dispatched; `again` says that it was UNASSIGNED already, so that a second
CALL_UNASSIGNED is not sent. -/
def callDispatch (again : Bool) (n : Nat) (s : State) : State :=
  match s.cal.call? n with
  | none => s
  | some r =>
    match (s.cal.teams[r.team]?).bind s.cal.search with
    | some (place, member) =>
      callRound n ((s.onCal fun c => c.assign n r.team place member).notify (.callAssigned n member))
    | none =>
      let s := s.onCal fun c => c.mapCall n fun r => { r with phase := .unassigned }
      if again then s else s.notify (.callUnassigned n r.team)

/-- The unassigned pass; a call of a floor being flushed is not dispatched (R122, R128). -/
def callUnassignedPass (s : State) : State :=
  let waiting := s.cal.calls.filter fun r => r.phase == .unassigned && !callsRefused s.flr (s.cal.floorOf r)
  waiting.foldl (fun s r => callDispatch true r.number s) s

/-- The call's member is released. -/
def Calls.release (c : Calls) (r : Call) : Calls :=
  match r.member with
  | none => c
  | some m => { c.mapCall r.number fun r => { r with member := none } with
                staff := c.staff.modify m fun x => { x with assigned := none } }

/-! ### Closing (R118) -/

/-- The call's button has no open call any more, and its urgent window stops (R120). -/
def Calls.clearButton (c : Calls) (r : Call) : Calls :=
  match r.origin with
  | .button st b =>
    c.mapStation st fun x => { x with openCall := x.openCall.set b none, window := x.window.set b .stopped }
  | .floor _ => c

/-- A call closes with a reason. -/
def callClose (n : Nat) (reason : CallReason) (s : State) : State :=
  match s.cal.call? n with
  | none => s
  | some r =>
    let pass := if r.member.isSome then [Msg.cal .unassignedPass] else []
    (s.onCal fun c =>
      { (c.release r).clearButton r with calls := (c.release r).calls.filter fun x => x.number != n }).post
      ([.snd (.cancel r.soundOrigin), .lnk (.notice (.callClosed n reason))] ++ pass)

/-! ### Placing a call (R119, R120) -/

/-- What the placing checks of R119 find, the first that applies. -/
inductive Placing where
  | absent | notPresent
  | urgent (call : Nat)
  | refused (reason : CallRefusal)
  | opens (team : Nat)
  deriving DecidableEq, Repr

def placing (station button : Nat) (s : State) : Placing :=
  match s.cal.station? station with
  | none => .absent
  | some st =>
    if 4 ≤ button then .absent
    else if !s.flp.isPresent st.config.node then .notPresent
    else
      match (st.openCall[button]?).join with
      | some call => if (st.window[button]?).any Timer.isRunning then .urgent call else .refused .alreadyOpen
      | none =>
        match (st.config.buttons[button]?).join with
        | none => .refused .unused
        | some team =>
          if callsRefused s.flr st.config.floor then .refused .floorClosed
          else if (s.cal.teams[team]?).all fun t => t.ring.isEmpty then .refused .noDutyList
          else if Config.callPlaces ≤ s.cal.calls.length then .refused .listFull
          else .opens team

/-- A call record as it opens. -/
def newCall (number : Nat) (cls : CallClass) (origin : CallOrigin) (team : Nat) (phase : CallPhase) (barred lampOnly : Bool) :
    Call :=
  { number := number, cls := cls, origin := origin, team := team, member := none, phase := phase, roundTimer := .stopped
    rounds := 0, escalations := 0, barred := barred, lampOnly := lampOnly, age := 0 }

/-- A call joins the list at its end and takes the next number. -/
def Calls.append (c : Calls) (r : Call) : Calls :=
  { c with calls := c.calls ++ [r], nextNumber := nextCallNumber r.number }

/-- The number the next call takes. -/
def Calls.number (c : Calls) : Nat := c.freeNumber (Config.callPlaces + 1) c.nextNumber

/-- A NORMAL call opens for the button and is dispatched. -/
def callOpen (station button team : Nat) (s : State) : State :=
  let n := s.cal.number
  let barred := ((s.cal.station? station).bind fun st => st.spent[button]?).getD false
  let r := newCall n .normal (.button station button) team .unassigned barred false
  let s := s.onCal fun c => (c.append r).mapStation station fun st =>
    { st with spent := st.spent.set button false, openCall := st.openCall.set button (some n)
              window := st.window.set button (Timer.start 1) }
  (callDispatch false n s).notify (.callOpened n .normal (.button station button) team)

/-- A second press within the urgent window (R120). -/
def callUrgent (n : Nat) (s : State) : State × Result :=
  match s.cal.call? n with
  | none => declined .wrongState s
  | some r =>
    if r.cls != .normal then (s, .done false (field 2 n))
    else if r.barred then declined .wrongState (s.notify (.urgentRefused n))
    else
      let s := s.onCal fun c => c.mapCall n fun r => { r with cls := .urgent }
      let sounds := r.phase == .queued || r.phase == .deferred || r.phase == .sounding
      let s := if sounds then callRound n (s.post [.snd (.cancel r.soundOrigin)]) else s
      (s.notify (.callUrgent n), .done false (field 2 n))

/-- A call button press at a node (R113, R119). -/
def callPress (address button : Nat) (s : State) : State :=
  match s.cal.atNode? address with
  | none => s
  | some station =>
    match placing station button s with
    | .absent | .notPresent => s
    | .urgent n => (callUrgent n s).1
    | .refused r => s.notify (.callRefused (.button station button) r)
    | .opens team => callOpen station button team s

/-- The reason PLACE CALL is declined for a refusal (R119). -/
def refusalReason (fire : Bool) : CallRefusal → Reason
  | .alreadyOpen => .wrongState
  | .unused => .notConfigured
  | .floorClosed => if fire then .fireLock else .wrongState
  | .noDutyList => .notConfigured
  | .listFull => .queueFull

/-- PLACE CALL (R119). -/
def orderPlaceCall (station button : Nat) (s : State) : State × Result :=
  match placing station button s with
  | .absent => declined .outOfRange s
  | .notPresent => declined .wrongState s
  | .urgent n => callUrgent n s
  | .refused r =>
    let fire := (s.cal.station? station).any fun st => s.flr.isIn st.config.floor .fire
    declined (refusalReason fire r) s
  | .opens team => (callOpen station button team s, .done false (field 2 s.cal.number))

/-- CANCEL CALL (R118). -/
def orderCancelCall (n : Nat) (s : State) : State × Result :=
  if (s.cal.call? n).isSome then done (callClose n .cancelled s) else declined .wrongState s

/-! ### Round timer (R124) -/

/-- The rounds of a member are spent: the call escalates. -/
def callEscalate (r : Call) (s : State) : State :=
  let s := s.onCal fun c => (c.release r).mapCall r.number fun x =>
    { x with escalations := x.escalations + 1, rounds := 0, roundTimer := .stopped }
  let s := match r.member with
    | some m => s.notify (.callEscalated r.number m (r.escalations + 1))
    | none => s
  (callDispatch false r.number s).post [.cal .unassignedPass]

/-- The round timer of a call expires (R124). With more escalations done than a value since lowered the call is abandoned,
as at the value (log entry 73). -/
def callRoundExpiry (n : Nat) (s : State) : State :=
  match s.cal.call? n with
  | none => s
  | some r =>
    if !(r.phase = .awaitingAck && r.roundTimer.isRunning) then s
    else if !r.isOwn || decide (r.rounds < s.cal.timing.rounds) then callRound n s
    else if r.escalations < s.cal.timing.escalations then callEscalate r s
    else (callClose n .abandoned s).notify (.callAbandoned n r.team r.member)

/-- A button's urgent window runs out (R120). -/
def callWindowExpiry (station button : Nat) (s : State) : State :=
  s.onCal fun c => c.mapStation station fun st => { st with window := st.window.set button .stopped }

/-! ### Sweep and warden calls (R125, R126) -/

/-- The open call of a class for a floor. -/
def Calls.ofFloor (c : Calls) (cls : CallClass) (f : Nat) : Option Call :=
  c.calls.find? fun r => r.cls == cls && r.origin == .floor f

/-- Room in the list for a SWEEP or WARDEN call: the oldest NORMAL call is displaced from a full list; `none` where there
is none to displace. -/
def callRoom (s : State) : Option State :=
  if s.cal.calls.length < Config.callPlaces then some s
  else (s.cal.calls.find? fun r => r.cls == .normal).map fun r => callClose r.number .displaced s

/-- The programme unit places a SWEEP call. -/
def callPlaceSweep (f : Nat) (s : State) : State :=
  let answer (a : SweepAnswer) : Msg := .prg (.sweepAnswer f a)
  if !s.flr.isIn f .closing then s.post [answer .wrongState]
  else
    match s.cal.ofFloor .sweep f with
    | some r => s.post [answer (.placed r.number)]
    | none =>
      match callRoom s with
      | none => s.post [.lnk (.notice (.callRefused (.floor f) .listFull)), answer .full]
      | some s =>
        let n := s.cal.number
        let team := ((s.flr.get? f).map (·.config.sweepTeam)).getD 0
        let s := s.onCal fun c => c.append (newCall n .sweep (.floor f) team .queued false false)
        (callRound n s).post [.lnk (.notice (.callOpened n .sweep (.floor f) team)), answer (.placed n)]

/-- The lamp-only mark under a fire condition. -/
def lampOnlyIn (condition : FireCondition) : Bool := condition == .alerting || condition == .evacuating

/-- The fire response unit places a WARDEN call. -/
def callPlaceWarden (f : Nat) (s : State) : State :=
  if (s.cal.ofFloor .warden f).isSome then s
  else
    match callRoom s with
    | none => s.notify (.wardenNotPlaced f)
    | some s =>
      let n := s.cal.number
      let team := ((s.flr.get? f).map (·.config.wardenTeam)).getD 0
      let lamp := lampOnlyIn s.fir.condition
      let s := s.onCal fun c => c.append (newCall n .warden (.floor f) team .awaitingAck false lamp)
      let s := if lamp then s else callRound n s
      s.notify (.callOpened n .warden (.floor f) team)

/-- A WARDEN call's lamp-only mark follows the fire condition: set, it cancels the call's sounding and has the call wait with
its timer stopped; clear, it requests a round (R126). -/
def callLampOnly (n : Nat) (mark : Bool) (s : State) : State :=
  match s.cal.call? n with
  | none => s
  | some r =>
    if r.cls != .warden || r.lampOnly = mark then s
    else if mark then
      (s.onCal fun c => c.mapCall n fun r =>
        { r with lampOnly := true, phase := .awaitingAck, roundTimer := .stopped }).post
        [.snd (.cancel r.soundOrigin)]
    else callRound n (s.onCal fun c => c.mapCall n fun r => { r with lampOnly := false })

/-- The fire condition has changed: the open WARDEN calls follow the lamp-only mark in call-list order, each taken whole
before the next, with the start pass of its cancellation. A queued round that such a pass starts is cancelled in its turn
(R126; log entry 70). -/
def callFireChanged (condition : FireCondition) (s : State) : State :=
  s.post (s.cal.calls.map fun r => Msg.cal (.lampOnly r.number (lampOnlyIn condition)))

/-! ### Acknowledgement (R127) -/

/-- The acknowledgement press at a station. -/
def callAckAt (station : Nat) (st : Station) (s : State) : State :=
  let f := st.config.floor
  match s.cal.calls.find? fun r => !r.isOwn && r.origin == .floor f with
  | some r =>
    let s := callClose r.number .confirmed s
    if r.cls = .warden then s.notify (.wardenReported f station) else s.post [.flr (.confirm f (.station station))]
  | none =>
    match s.cal.calls.find? fun r => r.ofStation station with
    | some r =>
      (callClose r.number .answered s).notify
        (.callAnswered r.number r.member r.rounds r.escalations (Config.toSeconds r.age))
    | none => s

def callAcknowledge (address : Nat) (s : State) : State :=
  match (s.cal.atNode? address).bind fun n => (s.cal.station? n).map fun st => (n, st) with
  | some (n, st) => callAckAt n st s
  | none => s

/-! ### Flush, withdrawal, loss, room (R123, R128, R129) -/

/-- The calls that meet `p` are closed one after another, in call-list order. -/
def callCloseAll (p : Call → Bool) (reason : CallReason) (s : State) : State :=
  s.post ((s.cal.calls.filter p).map fun r => Msg.cal (.close r.number reason))

def callFlush (f : Nat) (s : State) : State :=
  callCloseAll (fun r => r.cls != .warden && s.cal.floorOf r == f) .flushed s

def callWithdrawSweep (f : Nat) (s : State) : State :=
  callCloseAll (fun r => r.cls == .sweep && r.origin == .floor f) .withdrawn s

/-- A station node is declared LOST (R129): its stations are taken in rising number (log entry 66). -/
def callStationLost (address : Nat) (s : State) : State :=
  let lost := presentWhere s.cal.stations fun st => st.config.node == address
  let s := s.onCal fun c =>
    lost.foldl (fun c n => c.mapStation n fun st => { st with window := st.window.map fun _ => .stopped }) c
  s.post (lost.flatMap fun n =>
    (s.cal.calls.filter fun r => r.ofStation n).map fun r => Msg.cal (.close r.number .stationLost))

/-- ROOM: the DEFERRED calls are offered again in call-list order. -/
def callOfferRoom (s : State) : State :=
  s.post [.cal (.offer none ((s.cal.calls.filter fun r => r.phase == .deferred).map (·.number)))]

/-- The next DEFERRED call is offered, unless the last one offered was told DEFERRED again. -/
def callOffer (last : Option Nat) (numbers : List Nat) (s : State) : State :=
  if (last.bind s.cal.call?).any fun r => r.phase == .deferred then s
  else
    match numbers with
    | [] => s
    | n :: rest =>
      if (s.cal.call? n).any fun r => r.phase == .deferred then (callRound n s).post [.cal (.offer (some n) rest)]
      else s.post [.cal (.offer none rest)]

/-- The call dispatcher's part in a service reset (R131). -/
def callServiceReset (s : State) : State :=
  s.onCal fun c =>
    { c with calls := []
             staff := c.staff.map fun m => { m with assigned := none }
             stations := c.stations.map fun o => o.map fun st =>
               { st with openCall := st.openCall.map fun _ => none, window := st.window.map fun _ => .stopped } }

/-- An event handed to the call dispatcher. -/
def callTake (m : CallMsg) (s : State) : State :=
  match m with
  | .press address button => callPress address button s
  | .acknowledge address => callAcknowledge address s
  | .report n r => callReport n r s
  | .room => callOfferRoom s
  | .offer last numbers => callOffer last numbers s
  | .flush f => callFlush f s
  | .withdrawSweep f => callWithdrawSweep f s
  | .close n reason => callClose n reason s
  | .unassignedPass => callUnassignedPass s
  | .placeSweep f => callPlaceSweep f s
  | .placeWarden f => callPlaceWarden f s
  | .fireChanged condition => callFireChanged condition s
  | .lampOnly n mark => callLampOnly n mark s
  | .stationLost address => callStationLost address s
  | .serviceReset => callServiceReset s

/-! ### Configuration orders (R113, R115, R116, R117) -/

/-- A station record freshly set. -/
def StationConfig.fresh (c : StationConfig) : Station :=
  { config := c, spent := List.replicate 4 false, openCall := List.replicate 4 none
    window := List.replicate 4 .stopped }

/-- SET STATION (R113): OUT_OF_RANGE before IN_USE where both reasons hold (log entry 22). -/
def orderSetStation (n : Nat) (fields : Option StationFields) (s : State) : State × Result :=
  let config := fields.map StationFields.config
  let busy := s.cal.calls.any fun r => r.ofStation n
  if !decide (n ≤ 23) || !config.all fun c => c.inRange && s.flp.isKind c.node .station then declined .outOfRange s
  else if busy || config.any fun c => !(presentWhere s.cal.stations fun o => o.config.node == c.node).all (· == n) then
    declined .inUse s
  else done (s.onCal fun c => { c with stations := c.stations.set n (config.map StationConfig.fresh) })

/-- LOAD DUTY LIST. -/
def orderLoadDutyList (team start : Nat) (entries : List Nat) (s : State) : State × Result :=
  match s.cal.teams[team]? with
  | none => declined .outOfRange s
  | some t =>
    if !(decide (start ≤ t.ring.length) && decide (start + entries.length ≤ 16) && entries.all fun e => decide (e ≤ 63)) then
      declined .outOfRange s
    else
      done ((s.onCal fun c =>
        { c with teams := c.teams.modify team fun t => { t with ring := t.ring.take start ++ entries, pointer := 0 } }).post
        [.cal .unassignedPass])

/-- SET TEAM. -/
def orderSetTeam (team pattern : Nat) (s : State) : State × Result :=
  if !(decide (team ≤ 11) && decide (pattern ≤ 31)) then declined .outOfRange s
  else done (s.onCal fun c => { c with teams := c.teams.modify team fun t => { t with pattern := pattern } })

/-- SET STAFF. -/
def orderSetStaff (member pattern : Nat) (s : State) : State × Result :=
  if !(decide (member ≤ 63) && decide (pattern ≤ 31)) then declined .outOfRange s
  else done (s.onCal fun c => { c with staff := c.staff.modify member fun m => { m with pattern := pattern } })

/-- A member goes off duty with an assigned call: the call goes back to dispatch (R116). -/
def callRedispatch (n : Nat) (s : State) : State :=
  match s.cal.call? n with
  | none => s
  | some r =>
    let s := (s.onCal fun c => (c.release r).mapCall n fun x => { x with rounds := 0, roundTimer := .stopped }).post
      [.snd (.cancel r.soundOrigin)]
    callDispatch false n s

/-- SET DUTY. -/
def orderSetDuty (member : Nat) (onDuty : Bool) (s : State) : State × Result :=
  match s.cal.staff[member]? with
  | none => declined .outOfRange s
  | some m =>
    if m.onDuty = onDuty then done s
    else
      let s := s.onCal fun c => { c with staff := c.staff.modify member fun m => { m with onDuty := onDuty } }
      if onDuty then done (s.post [.cal .unassignedPass])
      else
        match m.assigned with
        | some n => done (callRedispatch n s)
        | none => done s

/-- SET CALL TIMING. -/
def orderSetCallTiming (f : CallTimingFields) (s : State) : State × Result :=
  let f' := f.clamped
  doneClamped (f' != f) (s.onCal fun c => { c with timing := f' })

end Sys2Proof.Machine
end

