-- ==== Sys2Proof/Machine/Chain.lean ====
section
/-! DEFINITION. CHN, the chain supervisor (chapter 1): the operations its events share, the events it is handed, and the
orders it answers. Each works on the chain's own record and hands on the rest. -/

namespace Sys2Proof.Machine

/-! ### Requests -/

/-- The kind of move a request asks for (R8). -/
def ChainRequest.kind : ChainRequest → ChainMove
  | .start => .start
  | .creep => .creep
  | .home => .home
  | .inspectUp => .inspect
  | .inspectDown => .inspect

/-- A START, HOME or INSPECT request is pending (R11). -/
def Chain.startHomeInspect (c : Chain) : Bool := c.request.any fun r => r.kind != .creep

/-! ### Changes of state -/

/-- The chain enters a state: its timers and reverse contactor stop, the stall run is 0 on entering RUNNING (R5), the
creep count is 0 on entering PARKED, STARTING, HOMING or INSPECTION_IDLE (R15), and the change is reported to the
programme unit (R6) and the fire response unit (R168). -/
def chainEnter (st : ChainState) (s : State) : State :=
  let creepless := st == .parked || st == .starting || st == .homing || st == .inspectionIdle
  (s.onChn fun c =>
    { c with state := st, runupTimer := .stopped, homingTimer := .stopped, reverse := false
             stallRun := if st = .running then 0 else c.stallRun
             creepCount := if creepless then 0 else c.creepCount }).post
    [.prg (.chainState st), .fir .chainChanged]

/-- The chain enters HALTED with the rest position at x (R17). -/
def chainHalt (s : State) : State := chainEnter .halted (s.onChn fun c => { c with rest := c.x })

/-- The park record is cleared; the shutter controller is told of the change (R16, R47). -/
def chainUnpark (s : State) : State :=
  if s.chn.park.isSome then (s.onChn fun c => { c with park := none }).post [.sht .parkChanged] else s

/-- A pending move request is withdrawn (R8). -/
def chainWithdraw (s : State) : State :=
  if s.chn.request.isSome then
    (s.onChn fun c => { c with request := none, creepSet := [] }).ask [.withdraw .chain]
  else s

/-- The chain enters BRAKING with any plan discarded and its move ended (R8, R12, R18). -/
def chainBrake (s : State) : State :=
  chainEnter .braking ((s.onChn fun c => { c with plan := none }).post [.sup (.ended .chain)])

/-- The chain enters PARKED for the set at its present x (R13, R14). -/
def chainPark (set : List Nat) (s : State) : State :=
  let x := s.chn.x
  (chainEnter .parked (s.onChn fun c => { c with park := some ⟨set, x⟩, rest := x, plan := none })).post
    [.lnk (.notice (.chainParked set x)), .sht .parkChanged]

/-- The position becomes UNKNOWN: park record, last car and plan go with it (R2). -/
def chainLost (s : State) : State :=
  chainUnpark ((s.onChn fun c => { c with known := false, lastCar := none, plan := none }).post [.fir .chainChanged])

/-! ### Trips (R22) -/

/-- A trip with the cause given. -/
def chainTrip (cause : TripCause) (s : State) : State :=
  match s.chn.state, s.chn.trip with
  | .tripped, some r =>
    let r' := { r with causes := if r.causes.contains cause then r.causes else r.causes ++ [cause] }
    (s.onChn fun c => { c with trip := some r' }).notify (.chainTripped r')
  | st, _ =>
    let r : TripRecord := { causes := [cause], first := cause, position := s.chn.position?, state := st }
    let s := chainWithdraw s
    let s := if st.moving then s.post [.sup (.ended .chain)] else s
    let s := chainEnter .tripped (s.onChn fun c => { c with plan := none, trip := some r })
    let s := if cause = .brakeSlip then chainUnpark s else s
    s.notify (.chainTripped r)

/-! ### Move requests (R8) -/

/-- A slot is asked for; a full queue refuses it with MOVE_REFUSED. -/
def chainAsk (r : ChainRequest) (s : State) : State :=
  if s.sup.full .chain s.chn.group then s.notify (.moveRefused r.kind)
  else (s.onChn fun c => { c with request := some r }).request .chain (.chain r.kind) s.chn.group

/-- A CREEP request for the set: it takes the place of a START or HOME request, a pending CREEP takes the set into its
creep set (R11), and a full queue refuses it (R14). -/
def chainAskCreep (set : List Nat) (s : State) : State :=
  if s.chn.request = some .creep then s.onChn fun c => { c with creepSet := setUnion c.creepSet set }
  else
    let s := chainWithdraw s
    if s.sup.full .chain s.chn.group then
      (s.onChn fun c => { c with creepRefused := true }).notify (.moveRefused .creep)
    else
      (s.onChn fun c => { c with request := some .creep, creepSet := set, creepRefused := false }).request
        .chain (.chain .creep) s.chn.group

/-! ### Clearance duty, extension test and stop requests -/

/-- The clearance duty for a set: parked at once, or a creep asked for (R14). -/
def chainDuty (set : List Nat) (s : State) : State × Result :=
  if accepts s.chn.config s.chn.x set then done (chainPark set s) else taken (chainAskCreep set s)

/-- The clearance duty taken up on its own (R14). -/
def chainDutyAlone (s : State) : State :=
  if s.chn.state = .halted && s.chn.known && s.chn.request.isNone && !s.chn.clearance.isEmpty then
    (chainDuty s.chn.clearance (s.onChn fun c => { c with creepRefused := false })).1
  else s

/-- The extension test in PARKED (R16). -/
def chainExtend (set : List Nat) (s : State) : State × Result :=
  let record := (s.chn.park.map (·.set)).getD []
  let position := (s.chn.park.map (·.position)).getD s.chn.x
  if accepts s.chn.config s.chn.x (setMinus set record) then
    let larger := setUnion record set
    done ((s.onChn fun c => { c with park := some ⟨larger, position⟩ }).post
      [.lnk (.notice (.chainParked larger position)), .sht .parkChanged])
  else taken (chainAskCreep (setUnion record set) (chainHalt (chainUnpark s)))

/-- The stopping distance of a planned stop from the most recent window (R32). -/
def Chain.stopping (c : Chain) : Nat :=
  stoppingDistance (planningSpeed c.lastWindow) c.config.times.brakeDelay c.config.times.decel

/-- A plan for a stop is made from the present x (R33); with b = 0 it brakes as it is made (R13). -/
def chainPlan (set : List Nat) (stopping : Nat) (s : State) : State :=
  s.onChn fun c => { c with plan := some (makePlan c.config s.clr.table set c.x stopping) }

/-- A stop set goes to the plan's late set, no landing listed twice (R37). -/
def chainLate (set : List Nat) (s : State) : State :=
  s.onChn fun c => { c with plan := c.plan.map fun p => { p with late := setUnion p.late set } }

/-- A stop request with the stop set given, not empty, taken by chain state (R11). -/
def chainStop (set : List Nat) (s : State) : State × Result :=
  match s.chn.state with
  | .starting =>
    if s.chn.known then taken (chainEnter .stopping ((chainPlan set s.chn.stopping s).post [.sup (.ended .chain)]))
    else declined .wrongState s
  | .running =>
    if s.chn.known then taken (chainEnter .stopping (chainPlan set s.chn.stopping s)) else declined .wrongState s
  | .stopping =>
    match s.chn.plan with
    | some p =>
      if p.braked then taken (chainLate set s)
      else if set = p.set then taken s
      else taken (chainPlan (setUnion p.set set) s.chn.stopping s)
    | none => taken s
  | .creeping => taken (chainLate set s)
  | .halted =>
    if !s.chn.known then declined .wrongState s
    else if s.chn.request = some .creep then taken (chainAskCreep set s)
    else chainDuty set s
  | .parked => chainExtend set s
  | .homing | .braking | .tripped | .inspectionIdle | .inspectionRun => declined .wrongState s

/-! ### Events from the other blocks -/

/-- A landing joins the clearance set: a stop request with it, whose answer nobody asked for (R10, R11). A landing without
a shutter in AWAIT_CLEAR by then does not join. Of several landings that join in one step each has its request taken before
the next joins, so that the first may replace a larger plan (R36) by one for the same set from the present x (log entry
85). -/
def chainJoin (landing : Nat) (s : State) : State :=
  if s.chn.clearance.contains landing || !s.sht.waiting landing then s
  else
    let s := (s.onChn fun c => { c with clearance := setUnion c.clearance [landing] }).post [.fir .chainChanged]
    (chainStop s.chn.clearance s).1

/-- A landing leaves the clearance set when the last of its shutters has left AWAIT_CLEAR (R10). -/
def chainLeave (landing : Nat) (s : State) : State :=
  if s.sht.waiting landing then s
  else (s.onChn fun c => { c with clearance := setMinus c.clearance [landing] }).post [.fir .chainChanged]

/-- A landing shutter has changed state: a fault trips a moving chain (R22), and run permission that comes to hold takes
the clearance duty up (R7, R14). `permitted` says whether the landing shutters permitted moves before. -/
def chainShutterChanged (permitted faulted : Bool) (s : State) : State :=
  if faulted && s.chn.state.moving then chainTrip .landingShutter s
  else if !permitted && runPermission s.chn s.sht then chainDutyAlone s
  else s

/-- An admitted move given up: the slot is released without settle and ABANDONED names the kind (R8), before the release and
the next head's admission (log entry 80). -/
def chainAbandon (kind : ChainMove) (s : State) : State :=
  (s.onChn fun c => { c with creepSet := [] }).post [.lnk (.notice (.abandoned kind)), .sup (.released .chain)]

/-- The creep starts with its plan for the creep set and the clearance set, S = Cs (R15, R39). -/
def chainCreep (s : State) : State :=
  let set := setUnion s.chn.creepSet s.chn.clearance
  let s := chainUnpark (s.onChn fun c => { c with creepSet := [] })
  let s := chainPlan set s.chn.config.times.creepStop (chainEnter .creeping s)
  if s.chn.braked then s.post [.sup (.ended .chain)]
  else s.onChn fun c => { c with homingTimer := Timer.start c.config.times.homing }

/-- The slot asked for is granted: permission is worked out again and the move begins, or it is given up (R8, R9, R15,
R19, R20). -/
def chainAdmitted (kind : ChainMove) (s : State) : State :=
  let request := s.chn.request
  let s := s.onChn fun c => { c with request := none }
  match kind with
  | .start =>
    if startPermission s.chn s.sht s.fir.condition then
      (chainEnter .starting (chainUnpark s)).onChn fun c =>
        { c with runupTimer := Timer.start c.config.times.runup }
    else chainAbandon .start s
  | .creep => if runPermission s.chn s.sht then chainCreep s else chainAbandon .creep s
  | .home =>
    if runPermission s.chn s.sht then
      (chainEnter .homing (chainUnpark s)).onChn fun c =>
        { c with homingTimer := Timer.start c.config.times.homing }
    else chainAbandon .home s
  | .inspect =>
    let down := request == some .inspectDown
    let held := if down then s.chn.downHeld && !s.chn.upHeld else s.chn.upHeld && !s.chn.downHeld
    if runPermission s.chn s.sht && held then
      (chainEnter .inspectionRun (chainUnpark s)).onChn fun c => { c with reverse := down }
    else chainAbandon .inspect s

/-- Another owner's request has left the queue of the chain's group: a refused creep is taken up (R14). -/
def chainQueueMoved (s : State) : State :=
  if s.chn.creepRefused then chainDutyAlone (s.onChn fun c => { c with creepRefused := false }) else s

/-- The fire condition has changed; `left` says that it left NORMAL (R21, R12). -/
def chainFireChanged (left : Bool) (s : State) : State :=
  if !left then s
  else if s.chn.state = .starting || (s.chn.state = .running && !s.chn.known) then chainBrake s
  else
    let set := setUnion s.chn.config.allLandings s.chn.clearance
    if set.isEmpty then if s.chn.state = .running then chainBrake s else s
    else (chainStop set s).1

/-- The chain's part in a service reset (R26). -/
def chainServiceReset (s : State) : State :=
  let s := chainWithdraw s
  let s := (s.onChn fun c => { c with clearance := [], creepRefused := false, plan := none, creepCount := 0 }).post
    [.fir .chainChanged]
  if s.chn.state.moving && s.chn.state != .braking then chainBrake s else s

/-! ### Orders -/

/-- RUN CHAIN (R9), checked in the rule's order. -/
def orderRunChain (s : State) : State × Result :=
  if !s.chn.config.configured then declined .notConfigured s
  else if s.fir.condition != .normal then declined .fireLock s
  else if !(s.chn.state = .halted || s.chn.state = .parked) || s.chn.request.isSome then declined .wrongState s
  else if !startPermission s.chn s.sht s.fir.condition then declined .wrongState s
  else if s.sup.full .chain s.chn.group then declined .queueFull s
  else taken (chainAsk .start s)

/-- A STOP CHAIN with an empty stop set (R12). -/
def chainStopEmpty (s : State) : State × Result :=
  match s.chn.state with
  | .starting | .running | .stopping | .creeping | .homing => taken (chainBrake s)
  | .halted | .parked | .braking => done (if s.chn.startHomeInspect then chainWithdraw s else s)
  | .tripped | .inspectionIdle | .inspectionRun => declined .wrongState s

/-- A stop request of a STOP CHAIN order with its own set of landings (R11, R12). -/
def chainStopOrder (landings : List Nat) (s : State) : State × Result :=
  let set := setUnion landings s.chn.clearance
  if set.isEmpty then chainStopEmpty s
  else
    let quiet := if s.chn.startHomeInspect then chainWithdraw s else s
    match chainStop set quiet with
    | (_, .declined r d) => (s, .declined r d)
    | accepted => accepted

/-- STOP CHAIN (R11, R12); the landing set comes as a mask. A set that names an absent landing is OUT_OF_RANGE in every
state, before the state is looked at (log entry 22). -/
def orderStopChain (mask : Nat) (s : State) : State × Result :=
  let landings := maskSet 16 mask
  if !s.chn.config.configured then declined .notConfigured s
  else if !(setMinus landings s.chn.config.allLandings).isEmpty then declined .outOfRange s
  else chainStopOrder landings s

/-- HALT CHAIN, the emergency stop (R18). -/
def orderHaltChain (s : State) : State × Result :=
  if !s.chn.config.configured then declined .notConfigured s
  else
    match s.chn.state with
    | .starting | .running | .stopping | .creeping | .homing | .inspectionRun => done (chainBrake s)
    | .halted | .parked | .braking | .inspectionIdle => done (chainWithdraw s)
    | .tripped => done s

/-- HOME CHAIN (R19). -/
def orderHomeChain (s : State) : State × Result :=
  if !s.chn.config.configured then declined .notConfigured s
  else if s.chn.state != .halted || s.chn.request.isSome then declined .wrongState s
  else if s.sup.full .chain s.chn.group then declined .queueFull s
  else taken (chainAsk .home s)

/-- RESET CHAIN TRIP (R23). -/
def orderResetChainTrip (s : State) : State × Result :=
  if !s.chn.config.configured then declined .notConfigured s
  else if s.chn.state != .tripped || !s.chn.still || !s.chn.safetyClosed || s.sht.landingFault then
    declined .wrongState s
  else
    let s := chainUnpark (s.onChn fun c => { c with trip := none, creepCount := 0 })
    let s := s.notify .tripCleared
    done (if s.chn.keyOn then chainEnter .inspectionIdle s else chainDutyAlone (chainHalt s))

/-! ### Configuration orders (R24, R40) -/

/-- A configuration order is taken: HALTED or TRIPPED, nothing waiting for clearance, no request pending. -/
def Chain.configurable (c : Chain) : Bool :=
  (c.state == .halted || c.state == .tripped) && c.clearance.isEmpty && c.request.isNone

/-- An accepted configuration takes effect: the stored table is rebuilt where it may change, and a HALTED chain that
becomes configured with the key on enters INSPECTION_IDLE. -/
def chainConfigure (config : ChainConfig) (rebuild : Bool) (s : State) : State :=
  let becomes := !s.chn.config.configured && config.configured
  let s := s.onChn fun c => { c with config := config }
  let s := if rebuild || becomes then s.post [.clr] else s
  if becomes && s.chn.state = .halted && s.chn.keyOn then chainEnter .inspectionIdle s else s

/-- x after a geometry order: kept, and a free value where the new loop does not reach it (log entry 5). The rest position
keeps its number, beyond the new loop too (log entry 77). -/
def Chain.refit (c : Chain) : Chain :=
  let l := c.config.loopLength
  if c.x < l then c else { c with x := Config.openPosition c.openUses % l, openUses := c.openUses + 1 }

/-- SET CHAIN GEOMETRY. -/
def orderSetChainGeometry (g : GeometryFields) (s : State) : State × Result :=
  let config := { s.chn.config with geometry := some g }
  if !s.chn.configurable then declined .wrongState s
  else if !g.inRange then declined .outOfRange s
  else if !(s.chn.config.landings.all fun o => o.all fun l => decide (l.position < g.cars * g.pitch)) then
    declined .outOfRange s
  else if !config.hasClearGap then declined .noClearGap s
  else done ((chainConfigure config true (chainLost s)).onChn Chain.refit)

/-- A landing shutter names the landing (R24). -/
def Shutters.namesLanding (t : Shutters) (l : Nat) : Bool := t.table.any fun o => o.any fun r => r.landing? == some l

/-- SET LANDING making a landing present. -/
def orderLandingPresent (n : Nat) (f : LandingFields) (s : State) : State × Result :=
  let l := f.landing
  let config := { s.chn.config with landings := s.chn.config.landings.set n (some l) }
  let moves := (present? s.chn.config.landings n).any fun o => o.floor != l.floor
  if !f.inRange s.chn.config.loopLength || sideTaken s.chn.config.landings n l then declined .outOfRange s
  else if moves && s.sht.namesLanding n then declined .inUse s
  else if !config.hasClearGap then declined .noClearGap s
  else done (chainConfigure config true (chainLost s))

/-- SET LANDING making a landing absent. -/
def orderLandingAbsent (n : Nat) (s : State) : State × Result :=
  let config := { s.chn.config with landings := s.chn.config.landings.set n none }
  if s.sht.namesLanding n then declined .inUse s
  else if !config.hasClearGap then declined .noClearGap s
  else done (chainConfigure config true (chainLost s))

/-- SET LANDING. -/
def orderSetLanding (n : Nat) (fields : Option LandingFields) (s : State) : State × Result :=
  if !s.chn.configurable then declined .wrongState s
  else if s.chn.config.geometry.isNone then declined .notConfigured s
  else if !decide (n ≤ 15) then declined .outOfRange s
  else
    match fields with
    | some f => orderLandingPresent n f s
    | none => orderLandingAbsent n s

/-- SET CHAIN TIMING: the table is rebuilt when B or M changed, and the position state stays. -/
def orderSetChainTiming (t : TimingFields) (s : State) : State × Result :=
  let t' := t.clamped
  let config := { s.chn.config with timing := some t' }
  let bands := config.acceptanceBand != s.chn.config.acceptanceBand || config.planningBand != s.chn.config.planningBand
  if !s.chn.configurable then declined .wrongState s
  else if !t.inRange then declined .outOfRange s
  else if !config.hasClearGap then declined .noClearGap s
  else doneClamped (t' != t) (chainConfigure config bands s)

/-! ### The programme unit's orders -/

/-- The programme gives RUN CHAIN; its answer goes back (R150, R155). -/
def chainRunForProgramme (s : State) : State :=
  let r := orderRunChain s
  r.1.post [.prg (.runAnswer r.2)]

/-- The programme gives STOP CHAIN with an empty set; its answer goes back (R153). -/
def chainStopForProgramme (s : State) : State :=
  let r := orderStopChain 0 s
  r.1.post [.prg (.stopAnswer r.2)]

/-- An event handed to the chain supervisor. -/
def chainTake (m : ChainMsg) (s : State) : State :=
  match m with
  | .join l => chainJoin l s
  | .leave l => chainLeave l s
  | .shutterChanged permitted faulted => chainShutterChanged permitted faulted s
  | .admitted kind => chainAdmitted kind s
  | .queueMoved => chainQueueMoved s
  | .fireChanged left => chainFireChanged left s
  | .runForProgramme => chainRunForProgramme s
  | .stopForProgramme => chainStopForProgramme s
  | .serviceReset => chainServiceReset s

/-! ### Sensors and timers -/

/-- One step of x around the loop (R2); a free value while no geometry is held (log entry 5). -/
def Chain.count (c : Chain) (forward : Bool) : Chain :=
  let l := c.config.loopLength
  if l = 0 then { c with x := Config.openPosition c.openUses, openUses := c.openUses + 1 }
  else { c with x := if forward then (c.x + 1) % l else (c.x + (l - 1)) % l }

/-- The plan's advance takes the count, and the brake is called for when it reaches b (R13, R15). -/
def StopPlan.count (p : StopPlan) (forward : Bool) : StopPlan :=
  let advance := if forward then p.advance + 1 else p.advance - 1
  { p with advance := advance, braked := p.braked || decide ((p.brakeAt : Int) ≤ advance) }

/-- PARK_LOST: HALTED with the record cleared and the rest position kept (R17). -/
def chainParkLost (s : State) : State :=
  let set := (s.chn.park.map (·.set)).getD []
  let fouling := foulingLandings s.chn.config s.chn.x set
  if fouling.isEmpty then s
  else chainDutyAlone ((chainEnter .halted (chainUnpark s)).notify (.parkLost s.chn.x fouling))

/-- The checks a count meets in HALTED and PARKED (R17). -/
def chainDrift (s : State) : State :=
  if !s.chn.config.configured then s
  else if circDist s.chn.config.loopLength s.chn.x s.chn.rest > s.chn.config.times.drift then chainTrip .brakeSlip s
  else if s.chn.state = .parked then chainParkLost s
  else s

/-- An encoder count (R2, R13, R15, R17). -/
def chainCount (forward : Bool) (s : State) : State :=
  let wasBraked := s.chn.braked
  let s := s.onChn fun c =>
    { c.count forward with windowCount := c.windowCount + 1, lastForward := forward
                           plan := c.plan.map fun p => p.count forward }
  let s :=
    if s.chn.state = .creeping && !wasBraked && s.chn.braked then
      (s.onChn fun c => { c with homingTimer := .stopped }).post [.sup (.ended .chain)]
    else s
  if s.chn.state = .halted || s.chn.state = .parked then chainDrift s else s

/-- The index mark (R3, R19, R38). A correction moves the rest position with x, in PARKED as R3 says and in every other state
as R17 does (log entry 67). -/
def chainIndex (s : State) : State :=
  let l := s.chn.config.loopLength
  let x := s.chn.x
  if s.chn.state = .homing then
    let s := s.onChn fun c => { c with x := 0, known := true, lastCar := none }
    (chainBrake s).post [.fir .chainChanged, .lnk (.notice .chainHomed)]
  else if !s.chn.known then s
  else if circDist l x 0 ≤ (s.chn.config.geometry.map (·.indexTolerance)).getD 0 then
    let s := s.onChn fun c =>
      { c with x := 0
               rest := circMinus l c.rest x
               plan := c.plan.map fun p => { p with x0 := circMinus l p.x0 x, target := circMinus l p.target x } }
    if s.chn.state = .parked then chainParkLost s else s
  else chainLost (chainTrip .indexError s)

/-- The cars whose sills are circularly nearest the tag reader, in rising number (R4). -/
def Chain.nearest (c : Chain) (g : GeometryFields) : List Nat :=
  let away (k : Nat) : Nat := circDist (g.cars * g.pitch) (c.x + k * g.pitch) g.tagReader
  let least := ((List.range g.cars).map away).foldl min (g.cars * g.pitch)
  (List.range g.cars).filter fun k => away k == least

/-- The car at the reader (R4); between two cars equally near, a free choice (log entry 6). -/
def Chain.carAtReader (c : Chain) (g : GeometryFields) : Nat :=
  let near := c.nearest g
  if Config.openNearest c.openUses then near.head?.getD 0 else near.getLast?.getD 0

/-- The expected car: the one behind the last car read when running forward, the one ahead in reverse (R4). -/
def expectedCar (cars last : Nat) (forward : Bool) : Nat :=
  if forward then (last + (cars - 1)) % cars else (last + 1) % cars

/-- The car tag strobe (R4). -/
def chainTag (carTag : Tag2) (s : State) : State :=
  match s.chn.known, s.chn.config.geometry with
  | true, some g =>
    if circDist g.pitch s.chn.x g.tagReader > g.tagTolerance then chainLost (chainTrip .carSequence s)
    else
      match s.chn.lastCar with
      | none =>
        let tie := decide (1 < (s.chn.nearest g).length)
        s.onChn fun c =>
          { c with lastCar := some (c.carAtReader g), openUses := if tie then c.openUses + 1 else c.openUses }
      | some last =>
        let car := expectedCar g.cars last s.chn.lastForward
        if car % 4 = carTag.toNat then s.onChn fun c => { c with lastCar := some car }
        else chainLost (chainTrip .carSequence s)
  | _, _ => s

/-- The set a halt is judged for: the plan's set and its late set (R13, R37). -/
def Chain.judged (c : Chain) : List Nat := (c.plan.map fun p => setUnion p.set p.late).getD []

/-- A missed park: HALTED at the halt, PARK_MISSED, and a CREEP for the set judged (R13, R15). -/
def chainMissed (set : List Nat) (s : State) : State :=
  let fouling := foulingLandings s.chn.config s.chn.x set
  let s := chainHalt (s.onChn fun c => { c with plan := none })
  chainAskCreep set (s.notify (.parkMissed s.chn.x fouling s.chn.creepCount))

/-- Acceptance at the halt of a STOPPING or CREEPING chain (R13, R15). -/
def chainAccept (s : State) : State :=
  let set := s.chn.judged
  if accepts s.chn.config s.chn.x set then chainPark set s
  else if s.chn.state = .stopping then chainMissed set s
  else if s.chn.creepCount = 0 then chainMissed set (s.onChn fun c => { c with creepCount := 1 })
  else chainTrip .parkFailed s

/-- The end of braking (R18, R20). -/
def chainAtRest (s : State) : State :=
  if s.chn.keyOn then chainEnter .inspectionIdle (s.onChn fun c => { c with rest := c.x })
  else
    let s := chainHalt s
    chainDutyAlone (s.notify (.chainHalted s.chn.position? s.chn.known))

/-- What the end of a window with n counts brings in each state (R5, R9, R13, R15, R18). -/
def chainJudge (n : Nat) (s : State) : State :=
  let t := s.chn.config.times
  match s.chn.state with
  | .starting =>
    if t.stallLimit ≤ n then
      let s := chainEnter .running (s.post [.sup (.ended .chain)])
      s.notify (.chainRunning s.chn.position?)
    else s
  | .running =>
    if t.stallLimit ≤ n then s.onChn fun c => { c with stallRun := 0 }
    else if s.chn.stallRun + 1 < 3 then s.onChn fun c => { c with stallRun := c.stallRun + 1 }
    else chainTrip .stall (s.onChn fun c => { c with stallRun := c.stallRun + 1 })
  | .stopping | .creeping => if n = 0 && s.chn.braked then chainAccept s else s
  | .braking => if n = 0 then chainAtRest s else s
  | .halted | .parked | .homing | .inspectionIdle | .inspectionRun | .tripped => s

/-- The end of a window (R5). A window over the overspeed limit trips and brings nothing else: the stall run keeps its
value (log entry 46). -/
def chainWindow (s : State) : State :=
  let n := s.chn.windowCount
  let s := s.onChn fun c => { c with lastWindow := some n, windowCount := 0 }
  if s.chn.config.configured && decide (s.chn.config.times.overspeedLimit < n) then chainTrip .overspeed s
  else chainJudge n s

/-- The run-up timer expires (R9). -/
def chainRunupTimeout (s : State) : State :=
  if s.chn.state = .starting && s.chn.runupTimer.isRunning then chainTrip .runupTimeout s else s

/-- The homing timer expires in HOMING or in CREEPING before the brake point (R15, R19). -/
def chainHomingTimeout (s : State) : State :=
  if !s.chn.homingTimer.isRunning then s
  else if s.chn.state = .homing then chainTrip .homingFailed s
  else if s.chn.state = .creeping then chainTrip .parkFailed s
  else s

/-- The safety chain opens: a trip in any state (R22). -/
def chainSafetyOpen (s : State) : State :=
  if s.chn.safetyClosed then chainTrip .safetyChain (s.onChn fun c => { c with safetyClosed := false }) else s

/-- The safety chain closes: permission may come to hold (R7, R14). -/
def chainSafetyClose (s : State) : State :=
  if s.chn.safetyClosed then s
  else
    let s := s.onChn fun c => { c with safetyClosed := true }
    if runPermission s.chn s.sht then chainDutyAlone s else s

/-- The inspection key is turned on (R20); a chain not configured only notes it (R1). -/
def chainKeyOn (s : State) : State :=
  if s.chn.keyOn then s
  else
    let s := s.onChn fun c => { c with keyOn := true }
    if !s.chn.config.configured then s
    else
      let s := chainWithdraw s
      match s.chn.state with
      | .halted | .parked => chainEnter .inspectionIdle (chainUnpark s)
      | .starting | .running | .stopping | .creeping | .homing => chainBrake s
      | .braking | .inspectionIdle | .inspectionRun | .tripped => s

/-- The inspection key is turned off (R20). -/
def chainKeyOff (s : State) : State :=
  if !s.chn.keyOn then s
  else
    let s := s.onChn fun c => { c with keyOn := false }
    match s.chn.state with
    | .inspectionIdle => chainDutyAlone (chainHalt (chainWithdraw s))
    | .inspectionRun => chainBrake s
    | .halted | .starting | .running | .stopping | .braking | .parked | .creeping | .homing | .tripped => s

/-- A button is noted as held or released. -/
def Chain.setButton (c : Chain) (up held : Bool) : Chain :=
  if up then { c with upHeld := held } else { c with downHeld := held }

/-- An inspection button is pressed (R20). -/
def chainButtonPress (up : Bool) (s : State) : State :=
  if (if up then s.chn.upHeld else s.chn.downHeld) then s
  else
    let s := s.onChn fun c => c.setButton up true
    let both := s.chn.upHeld && s.chn.downHeld
    match s.chn.state with
    | .inspectionIdle =>
      if both then chainWithdraw s else chainAsk (if up then .inspectUp else .inspectDown) s
    | .inspectionRun => if both then chainBrake s else s
    | _ => s

/-- An inspection button is released (R8, R20). -/
def chainButtonRelease (up : Bool) (s : State) : State :=
  if !(if up then s.chn.upHeld else s.chn.downHeld) then s
  else
    let s := s.onChn fun c => c.setButton up false
    match s.chn.state with
    | .inspectionIdle =>
      if s.chn.request = some (if up then .inspectUp else .inspectDown) then chainWithdraw s else s
    | .inspectionRun => if s.chn.reverse = !up then chainBrake s else s
    | _ => s

/-- The chain right after a full reset with the configuration given (R26); the inputs keep their levels. -/
def Chain.fullReset (c : Chain) (config : ChainConfig) : Chain :=
  { State.reset.chn with
    config := config, safetyClosed := c.safetyClosed, keyOn := c.keyOn, upHeld := c.upHeld, downHeld := c.downHeld
    openUses := c.openUses }

/-- What the chain's inputs bring at a full reset: SAFETY_CHAIN trips at once, and a configured chain with the key on
enters INSPECTION_IDLE (R26). -/
def chainAfterReset (s : State) : State :=
  if !s.chn.safetyClosed then chainTrip .safetyChain s
  else if s.chn.config.configured && s.chn.keyOn then chainEnter .inspectionIdle s
  else s

end Sys2Proof.Machine
end

