-- ==== Sys2Proof/Machine/Clock.lean ====
section
/-! DEFINITION. CLK, the store clock and cue scheduler (chapter 8): the second, occurrences, reservation and slot, the
clash, the rebuild rule, and the orders it answers. -/

namespace Sys2Proof.Machine

/-- The seconds of a week. -/
def weekSeconds : Nat := 604800

/-- An occurrence as seconds from the start of day 0. -/
def Occurrence.inWeek (o : Occurrence) : Nat := o.day * 86400 + o.time

def Clock.now (c : Clock) : Occurrence := ⟨c.day, c.time⟩

/-! ### Occurrences (R134) -/

/-- The next occurrence at or after a reference moment, with its distance from it in seconds: at most seven days ahead. -/
def nextOccurrence (config : CueConfig) (ref : Occurrence) : Option (Occurrence × Nat) :=
  ((List.range 8).filterMap fun d =>
    let day := (ref.day + d) % 7
    if config.days.contains day && (decide (0 < d) || decide (ref.time ≤ config.time)) then
      some (⟨day, config.time⟩, d * 86400 + config.time - ref.time)
    else none).head?

/-- A cue that is disabled, has an empty day mask or meets an unset clock has no occurrence. -/
def Clock.idle (c : Clock) (q : Cue) : Bool := !c.isSet || !q.config.enabled || q.config.days.isEmpty

/-- The moment one second past an occurrence. -/
def Occurrence.next (o : Occurrence) : Occurrence :=
  if o.time + 1 < 86400 then ⟨o.day, o.time + 1⟩ else ⟨(o.day + 1) % 7, 0⟩

/-- Seconds from one moment of the week to another, the nearer way, negative for a moment past. -/
def weekOffset (a b : Occurrence) : Int :=
  let d := circMinus weekSeconds b.inWeek a.inWeek
  if 2 * d < weekSeconds then d else (d : Int) - weekSeconds

/-- The cue WAITING for an occurrence, or IDLE without one. -/
def Cue.await (q : Cue) (o : Option (Occurrence × Nat)) : Cue :=
  match o with
  | some (o, lead) => { q with phase := .waiting, occurrence := some o, lead := lead, retries := 0 }
  | none => { q with phase := .idle, occurrence := none, lead := 0, retries := 0 }

/-- The cue's occurrence is done: the next one after the moment one second past it, its lead counted from now. -/
def Clock.afterDone (c : Clock) (q : Cue) : Cue :=
  match c.idle q, q.occurrence with
  | false, some o =>
    q.await ((nextOccurrence q.config o.next).map fun (o', d) => (o', (weekOffset c.now o + 1 + d).toNat))
  | _, _ => q.await none

def Clock.mapCue (c : Clock) (n : Nat) (f : Cue → Cue) : Clock := { c with cues := c.cues.modify n f }

/-- The occurrence of cue `n` is done. -/
def cueDone (n : Nat) (s : State) : State := s.onClk fun c => c.mapCue n c.afterDone

/-! ### Reservation and slot (R135, R136, R137) -/

/-- The cue's sounding length, in units of 50 ms (R133). -/
def cueLength (q : Cue) (s : State) : Nat := patternDuration (s.snd.pattern q.config.pattern) * q.config.repeats

/-- The reservation is requested: RESERVED, or skipped LIST_FULL. -/
def cueReserve (n : Nat) (s : State) : State :=
  match s.clk.cues[n]? with
  | none => s
  | some q =>
    if s.snd.reservationsFull n then (cueDone n s).notify (.cueSkipped n q.occurrence .listFull)
    else
      let start := (q.occurrence.map (·.time)).getD q.config.time
      (s.onClk fun c => c.mapCue n fun q => { q with phase := .reserved, lead := 0 }).post
        [.snd (.enterReservation n start (cueLength q s) q.config.zones)]

/-- The lead of a WAITING cue comes to 300 s. -/
def cueDue (n : Nat) (s : State) : State :=
  if (s.clk.cues[n]?).any fun q => q.phase == .waiting then cueReserve n s else s

/-- The slot: the lead of the cue's reservation has come to 0, and the sounding is asked for. -/
def cueSlot (n : Nat) (s : State) : State :=
  match s.clk.cues[n]? with
  | none => s
  | some q =>
    if q.phase = .reserved || q.phase = .retrying then
      s.post [.snd (.startCue n q.config.pattern q.config.repeats q.config.zones)]
    else s

/-- STARTED. -/
def cueStarted (n : Nat) (s : State) : State := s.onClk fun c => c.mapCue n fun q => { q with phase := .sounding }

/-- ENDED. -/
def cueEnded (n : Nat) (s : State) : State :=
  match s.clk.cues[n]? with
  | none => s
  | some q =>
    if q.phase = .sounding then
      cueDone n (s.post [.snd (.removeReservation n), .lnk (.notice (.cueSounded n q.retries))])
    else s

/-- The start of the retry: the moment of the clash plus the retry interval. -/
def Clock.retryStart (c : Clock) (q : Cue) : Nat := (c.time + q.config.retryInterval) % 86400

/-- CLASHED, at the slot or at a pre-emption. -/
def cueClashed (n : Nat) (s : State) : State :=
  match s.clk.cues[n]? with
  | none => s
  | some q =>
    if !(q.phase = .reserved || q.phase = .retrying || q.phase = .sounding) then s
    else if q.retries < q.config.retryLimit then
      let start := s.clk.retryStart q
      (s.onClk fun c => c.mapCue n fun q => { q with phase := .retrying, retries := q.retries + 1 }).post
        [.snd (.moveReservation n start (Config.seconds q.config.retryInterval)),
         .lnk (.notice (.cueClashed n (q.retries + 1) start))]
    else
      cueDone n (s.post [.snd (.removeReservation n),
        .lnk (.notice (.cueLost n q.occurrence (q.config.retryLimit + 1)))])

/-! ### The rebuild rule (R138) -/

/-- The cue takes a fresh occurrence from the clock as it stands, taken by its distance. -/
def cueFresh (n : Nat) (q : Cue) (s : State) : State :=
  match s.clk.idle q, nextOccurrence q.config s.clk.now with
  | false, some (o, d) =>
    let s := s.onClk fun c => c.mapCue n fun q => q.await (some (o, d))
    if d < Config.horizon then cueDone n (s.notify (.cueSkipped n (some o) .horizon))
    else if d = Config.horizon then cueReserve n s
    else s
  | _, _ => s.onClk fun c => c.mapCue n fun q => q.await none

/-- The rebuild rule for one cue; `cut` says that it comes from SET TIME or SET CUE. -/
def cueRebuild (n : Nat) (cut : Bool) (s : State) : State :=
  match s.clk.cues[n]? with
  | none => s
  | some q =>
    let s :=
      if cut && q.phase == .sounding then
        s.post [.snd (.cancel (.scheduled n)), .lnk (.notice (.cueSkipped n q.occurrence .cut))]
      else s
    cueFresh n q (s.post [.snd (.removeReservation n)])

/-- The store clock's part in a service reset: the rebuild rule for every cue (R138, R141), in rising cue number (log entry
58). -/
def clockServiceReset (s : State) : State :=
  s.post ((List.range s.clk.cues.length).map fun n => Msg.clk (.rebuild n false))

/-- An event handed to the store clock. -/
def clockTake (m : ClockMsg) (s : State) : State :=
  match m with
  | .started n => cueStarted n s
  | .ended n => cueEnded n s
  | .clashed n => cueClashed n s
  | .rebuild n cut => cueRebuild n cut s
  | .serviceReset => clockServiceReset s

/-! ### The second (R132) -/

/-- One second of the time base. -/
def Clock.second (c : Clock) : Clock :=
  if !c.isSet then c
  else
    let cues := c.cues.map fun q => if q.phase = .waiting then { q with lead := q.lead - 1 } else q
    if c.time < 86399 then { c with time := c.time + 1, cues := cues }
    else { c with time := 0, day := (c.day + 1) % 7, cues := cues }

def clockSecond (s : State) : State := s.onClk Clock.second

/-! ### Orders -/

/-- SET TIME (R132): the rebuild rule for every cue (R138), in rising cue number (log entry 58). -/
def orderSetTime (time day : Nat) (s : State) : State × Result :=
  if !(decide (time ≤ 86399) && decide (day ≤ 6)) then declined .outOfRange s
  else
    done ((s.onClk fun c => { c with time := time, day := day, isSet := true }).post
      (.snd .clearReservations :: (List.range s.clk.cues.length).map fun n => Msg.clk (.rebuild n true)))

/-- SET CUE (R133, R139). -/
def orderSetCue (n : Nat) (f : CueFields) (s : State) : State × Result :=
  if !(decide (n ≤ 23) && f.inRange) then declined .outOfRange s
  else
    doneClamped f.clamps
      ((s.onClk fun c => c.mapCue n fun q => { q with config := f.config }).post [.clk (.rebuild n true)])

end Sys2Proof.Machine
end

