-- ==== Sys2Proof/Machine/Floor.lean ====
section
/-! DEFINITION. FLR, the floor table (chapter 5): the one way a floor changes state, the steps and completion tests, and
the orders it answers. -/

namespace Sys2Proof.Machine

/-! ### Changes of state -/

def Floors.modify (t : Floors) (f : Nat) (g : Floor → Floor) : Floors := { t with table := t.table.modify f g }

/-- A floor enters a state for a cause. Its entry to SECURING, SHUT or FIRE flushes its calls (R88), and a change out of
CLOSING to SWEPT or TRADING withdraws its sweep calls (R82); the notice follows, and the programme unit, to which the
change is reported (R92), takes it after the notice (log entry 52). Entry to CLOSING or TRADING makes the sweep
confirmation absent (R81, R89, R93), the entry to TRADING by OPENED too (log entry 51). -/
def floorEnter (f : Nat) (st : FloorState) (cause : FloorCause) (faulted : Option Nat) (declined : Option (List Nat))
    (notOpen : Option (List (Nat × ShutterState))) (s : State) : State :=
  match s.flr.state? f with
  | none => s
  | some left =>
    let flush := if st = .securing || st = .shut || st = .fire then [Msg.cal (.flush f)] else []
    let withdraw := if left = .closing && (st = .swept || st = .trading) then [Msg.cal (.withdrawSweep f)] else []
    (s.onFlr fun t => t.modify f fun r =>
      { r with state := st, inStep := false
               confirmation := if st = .closing || st = .trading then none else r.confirmation
               faulted := faulted.getD r.faulted }).post
      (flush ++ withdraw ++
        [.lnk (.notice (.floorState f left st cause
          (if cause = .secured || cause = .openFailed then faulted else none) declined notOpen)),
         .prg (.floorReport f left st)])

/-! ### Completion (R84, R86) -/

/-- The completion tests of a floor, made unless one of its steps is still being taken. -/
def floorTest (f : Nat) (s : State) : State :=
  match s.flr.get? f with
  | none => s
  | some r =>
    if r.inStep then s
    else
      match r.state with
      | .securing =>
        if s.sht.allClosed f then floorEnter f .shut .secured (some (s.sht.faultCount f)) none none s else s
      | .opening =>
        if !s.sht.settled f then s
        else if s.sht.allOpen f then floorEnter f .trading .opened none none none s
        else floorEnter f .shut .openFailed (some (s.sht.faultCount f)) none (some (s.sht.notOpen f)) s
      | .shut | .trading | .closing | .swept | .fire => s

/-- A shutter of a SECURING floor placed from UNSEEN or cleared from FAULT into OPEN or PART_OPEN is dropped (R84). -/
def floorRedrop (f n : Nat) (left entered : ShutterState) (s : State) : State :=
  let stands := (s.sht.get? n).any fun r => r.state == .opened || r.state == .partOpen
  if s.flr.isIn f .securing && (left == .unseen || left == .fault) && (entered == .opened || entered == .partOpen) &&
      stands then
    s.post [.sht (.drop n)]
  else s

/-- A report of the shutter controller for a floor (R80). -/
def floorShutterChanged (f n : Nat) (left entered : ShutterState) (s : State) : State :=
  floorTest f (floorRedrop f n left entered s)

/-! ### Steps -/

/-- The first warning step (R81). -/
def floorBeginClosing (f : Nat) (s : State) : State :=
  if s.flr.isIn f .trading then floorEnter f .closing .programme none none none s else s

/-- A sweep confirmation (R82). -/
def floorConfirm (f : Nat) (by' : SweepConfirmation) (s : State) : State :=
  if s.flr.isIn f .closing then
    let s := s.onFlr fun t => t.modify f fun r => { r with confirmation := some by' }
    floorEnter f .swept (if by' = .order then .sweepSkipped else .sweepConfirmed) none none none s
  else s

/-- The shutters of a floor that decline a drop: those in UNSEEN or FAULT (R83). -/
def Shutters.declining (t : Shutters) (f : Nat) : List Nat :=
  presentWhere t.table fun r => r.config.floor == f && (r.state == .unseen || r.state == .fault)

/-- The secure step (R83): the FLOOR_STATE notice, then the drops with what follows from them (log entry 52). -/
def floorSecure (f : Nat) (s : State) : State :=
  if s.flr.isIn f .swept then
    let s := floorEnter f .securing .programme (some 0) (some (s.sht.declining f)) none s
    (s.onFlr fun t => t.modify f fun r => { r with inStep := true }).post
      ((s.sht.ofFloor f).map (fun n => Msg.sht (.drop n)) ++ [.flr (.endStep f)])
  else s

/-- The raise step (R85): the FLOOR_STATE notice, then the raises with what follows from them (log entry 52). -/
def floorRaise (f : Nat) (s : State) : State :=
  if s.flr.isIn f .shut then
    let s := floorEnter f .opening .programme (some 0) none none s
    (s.onFlr fun t => t.modify f fun r => { r with inStep := true }).post
      ((s.sht.ofFloor f).map (fun n => Msg.sht (.raise n)) ++ [.flr (.endStep f)])
  else s

/-- The last part of a secure or raise step: the completion test (R83, R85). -/
def floorEndStep (f : Nat) (s : State) : State :=
  floorTest f (s.onFlr fun t => t.modify f fun r => { r with inStep := false })

/-! ### Fire and service reset -/

/-- A floor is declared in FIRE (R87). -/
def floorDeclare (f : Nat) (s : State) : State :=
  if s.flr.isIn f .fire then s else floorEnter f .fire .fire none none none s

/-- A floor is released at RESET FIRE (R87). -/
def floorRelease (f : Nat) (s : State) : State :=
  if s.flr.isIn f .fire then floorEnter f .shut .fireReset none none none s else s

/-- One floor's part in a service reset (R93). -/
def floorServiceOne (f : Nat) (s : State) : State :=
  match s.flr.state? f with
  | none => s
  | some st =>
    match st with
    | .closing | .swept => floorEnter f .trading .serviceReset none none none s
    | .securing => floorEnter f (if s.sht.allClosed f then .shut else .trading) .serviceReset none none none s
    | .opening => floorEnter f (if s.sht.allOpen f then .trading else .shut) .serviceReset none none none s
    | .trading | .shut | .fire => s

/-- The floors' part in a service reset (R93), in rising number (log entry 66). -/
def floorServiceReset (s : State) : State :=
  (List.range s.flr.table.length).foldl (fun s f => floorServiceOne f s) s

/-- An event handed to the floor table. -/
def floorTake (m : FloorMsg) (s : State) : State :=
  match m with
  | .beginClosing f => floorBeginClosing f s
  | .confirm f by' => floorConfirm f by' s
  | .secure f => floorSecure f s
  | .raise f => floorRaise f s
  | .endStep f => floorEndStep f s
  | .shutterChanged f n left entered => floorShutterChanged f n left entered s
  | .recheck f => floorTest f s
  | .declare f => floorDeclare f s
  | .release f => floorRelease f s
  | .serviceReset => floorServiceReset s

/-! ### Orders -/

/-- The state a SET FLOOR STATE names by its code: SHUT or TRADING (R89). -/
def floorStateOf (code : Nat) : Option FloorState :=
  if code = 0 then some .shut else if code = 2 then some .trading else none

/-- SET FLOOR STATE, checked in the rule's order (R89). -/
def orderSetFloorState (f code : Nat) (s : State) : State × Result :=
  match s.flr.state? f, floorStateOf code with
  | some st, some wanted =>
    if s.prg.kind != .none then declined .busy s
    else if st = .fire then declined .fireLock s
    else if st = wanted then done s
    else if !(if wanted = .trading then s.sht.allOpen f else s.sht.allClosed f) then declined .wrongState s
    else done (floorEnter f wanted .order none none none s)
  | _, _ => declined .outOfRange s

/-- SET FLOOR (R90). -/
def orderSetFloor (f zones sweepTeam wardenTeam : Nat) (s : State) : State × Result :=
  if !(decide (f ≤ 7) && decide (zones < 256) && decide (sweepTeam ≤ 11) && decide (wardenTeam ≤ 11)) then
    declined .outOfRange s
  else if s.prg.kind != .none then declined .busy s
  else if s.fir.condition != .normal then declined .fireLock s
  else
    done (s.onFlr fun t => t.modify f fun r =>
      { r with config := { zones := maskSet 8 zones, sweepTeam := sweepTeam, wardenTeam := wardenTeam } })

end Sys2Proof.Machine
end

