-- ==== Sys2Proof/Machine/Loop.lean ====
section
/-! DEFINITION. FLP, the field loop master (chapter 11): slots and cursors, replies, loss and finding of nodes, and SET
NODE. -/

namespace Sys2Proof.Machine

/-! ### CRC-8 (section 12.7) -/

/-- One bit of the CRC-8 of polynomial 0x07. -/
def crc8Bit (c : Byte) : Byte := if c.msb then (c <<< 1) ^^^ 0x07#8 else c <<< 1

def crc8Byte (c b : Byte) : Byte := (List.range 8).foldl (fun c _ => crc8Bit c) (c ^^^ b)

/-- The CRC-8 of some bytes: initial value 0, no reflection, no final XOR. -/
def crc8 (bytes : List Byte) : Byte := bytes.foldl crc8Byte 0

/-! ### Slots (R174, R179) -/

/-- The lowest member above the address held, or the lowest of all (R174); the set is in rising order. -/
def nextAfter (held : Option Nat) (set : List Nat) : Option Nat :=
  ((set.find? fun a => decide (held.getD 0 < a)).or set.head?)

/-- The configured set. -/
def Loop.configuredSet (f : Loop) : List Nat := (presentWhere f.nodes fun _ => true).map (· + 1)

def Loop.mapNode (f : Loop) (address : Nat) (g : Node → Node) : Loop :=
  if address = 0 then f else { f with nodes := f.nodes.modify (address - 1) (Option.map g) }

/-- The poll frame of an address. -/
def State.pollFrame (s : State) (address : Nat) : List Byte :=
  let i := s.outputImage address
  let bytes := [BitVec.ofNat 8 address, i.byte0, i.byte1]
  bytes ++ [crc8 bytes]

/-- A slot begins: its cursor chooses the address polled, and the phase moves on. -/
def loopSlot (s : State) : State :=
  let motion := s.motionSet
  let phase := s.flp.phase % 3 + 1
  if s.flp.phase = 3 && !motion.isEmpty then
    let a := nextAfter s.flp.motion motion
    s.onFlp fun f =>
      { f with motion := a, polled := a, phase := phase, frame := (a.map s.pollFrame).getD f.frame }
  else
    let a := nextAfter s.flp.ordinary s.flp.configuredSet
    s.onFlp fun f =>
      { f with ordinary := a.or f.ordinary, polled := a, phase := phase, frame := (a.map s.pollFrame).getD f.frame }

/-! ### Replies (R175, R177) -/

/-- The two input bytes of a SHUTTER node's slots. -/
def Image.part (i : Image) (slot : Nat) : Byte := if slot = 0 then i.byte0 else i.byte1

/-- The shutter of one slot, where its inputs have changed: its input event (R175, step 3). -/
def shutterChangeMsgs (s : State) (address slot : Nat) (old : Option Image) (new : Image) : List Msg :=
  let i := inputsOf (new.part slot)
  if old.map (fun o => inputsOf (o.part slot)) = some i then []
  else (s.sht.at? address slot).toList.map fun n => Msg.sht (.inputs n i)

/-- The shutter of one slot, where it is UNSEEN: its part of the image for placement, changed or not (R175, step 4). -/
def shutterPlaceMsgs (s : State) (address slot : Nat) (new : Image) : List Msg :=
  ((s.sht.at? address slot).toList.filter fun n => (s.sht.get? n).any fun r => r.state == .unseen).map fun n =>
    Msg.sht (.found n (inputsOf (new.part slot)))

/-- The presses of a STATION node: call buttons 0 to 3, then the acknowledgement button. -/
def stationMsgs (address : Nat) (old new : Byte) : List Msg :=
  let pressed (k : Nat) : Bool := new.getLsbD k && !old.getLsbD k
  ((List.range 4).filter pressed).map (fun k => Msg.cal (.press address k)) ++
    (if pressed 4 then [.cal (.acknowledge address)] else [])

/-- The changed slots of a DETECTOR node. -/
def detectorMsgs (address : Nat) (old new : Byte) : List Msg :=
  ((List.range 4).filter fun k => detectorOf old k != detectorOf new k).map fun k =>
    Msg.fir (.slot address k (detectorOf new k))

/-- What a good reply of a PRESENT node hands on: its changes in ascending slot order (R175, step 3), and then the placings
(step 4), also by rising slot (log entry 71). -/
def changeMsgs (s : State) (address : Nat) (n : Node) (new : Image) : List Msg :=
  let old0 := (n.image.map (·.byte0)).getD 0
  match n.kind with
  | .shutter =>
    shutterChangeMsgs s address 0 n.image new ++ shutterChangeMsgs s address 1 n.image new ++
      shutterPlaceMsgs s address 0 new ++ shutterPlaceMsgs s address 1 new
  | .station => stationMsgs address old0 new.byte0
  | .detector => detectorMsgs address old0 new.byte0

/-- The first image of a node that is found (R177): its slots in rising order (log entry 71). -/
def firstImageMsgs (s : State) (address : Nat) (n : Node) (new : Image) : List Msg :=
  match n.kind with
  | .shutter =>
    [0, 1].flatMap fun slot =>
      (s.sht.at? address slot).toList.map fun k => Msg.sht (.found k (inputsOf (new.part slot)))
  | .station => []
  | .detector => (List.range 4).map fun k => Msg.fir (.slot address k (detectorOf new.byte0 k))

/-- A good reply: the miss count is 0, a node not PRESENT is found, changes are handed on, and the image is kept. -/
def loopGood (address : Nat) (n : Node) (new : Image) (s : State) : State :=
  let msgs :=
    if n.state = .present then changeMsgs s address n new
    else firstImageMsgs s address n new ++ [.lnk (.notice (.nodeFound address n.kind n.state))]
  (s.onFlp fun f => { f.mapNode address fun n => { n with state := .present, misses := 0, image := some new } with
    polled := none }).post msgs

/-! ### Misses (R176) -/

/-- The owner of a lost node is told; the two shutters of a node in rising shutter number, not by slot (R60, R176; log entry
54). -/
def lostMsgs (s : State) (address : Nat) (kind : NodeKind) : List Msg :=
  match kind with
  | .shutter => (presentWhere s.sht.table fun r => r.config.node == address).map fun n => Msg.sht (.lost n)
  | .station => [.cal (.stationLost address)]
  | .detector => [.fir (.nodeLost address)]

/-- A poll counts as missed: its slot ends without a good reply, or its reply is bad. With no poll outstanding there is
nothing to count. -/
def loopMissed (s : State) : State :=
  match s.flp.polled.bind fun a => (s.flp.node? a).map fun n => (a, n) with
  | none => s.onFlp fun f => { f with polled := none }
  | some (a, n) =>
    let lost := n.state != .lost && decide (2 ≤ n.misses)
    let s := s.onFlp fun f =>
      { f.mapNode a fun n => { n with misses := min 3 (n.misses + 1), state := if lost then .lost else n.state } with
        polled := none }
    if lost then s.post (lostMsgs s a n.kind ++ [.lnk (.notice (.nodeLost a n.kind))]) else s

/-- A reply arrives. It is good when it came whole within the slot of its poll, names the address polled and passes its
CRC-8. One that came after its slot is discarded and is not taken for the poll of the slot that runs
now: its own poll's miss was that slot's end. Another that is not good is discarded whole and its poll counts as missed, so
that nothing more is taken in its slot (R175; log entry 34). -/
def loopReply (address in0 in1 : Byte) (last : ReplyEnd) (s : State) : State :=
  let a := address.toNat
  if !last.inSlot then s
  else if s.flp.polled = some a && last.crc == crc8 [address, in0, in1] then
    match s.flp.node? a with
    | some n => loopGood a n ⟨in0, in1⟩ s
    | none => s
  else loopMissed s

/-! ### SET NODE (R180) -/

/-- A present item names the address. -/
def nodeNamed (s : State) (a : Nat) : Bool :=
  (s.sht.table.any fun o => o.any fun r => r.config.node == a) ||
    (s.cal.stations.any fun o => o.any fun r => r.config.node == a) ||
    s.fir.inputs.any fun o => o.any fun r => r.config.node == a

/-- A record freshly set. -/
def NodeKind.fresh (k : NodeKind) : Node := { kind := k, state := .absent, misses := 0, image := none }

/-- SET NODE, checked in the rule's order. -/
def orderSetNode (a code : Nat) (s : State) : State × Result :=
  match inRange 1 64 a, nodeKindOf code with
  | true, some kind =>
    let held := (s.flp.node? a).map (·.kind)
    if held = kind then done s
    else if held.isSome && nodeNamed s a then declined .inUse s
    else
      done (s.onFlp fun f =>
        { f with nodes := f.nodes.set (a - 1) (kind.map NodeKind.fresh)
                 polled := if kind.isNone && f.polled == some a then none else f.polled })
  | _, _ => declined .outOfRange s

end Sys2Proof.Machine
end

