-- ==== Sys2Proof/Machine/Fire.lean ====
section
/-! DEFINITION. FIR, the fire response unit (chapter 10): inputs and zones, the steps of a zone's alarm, the condition,
the watchdog, the held set, and the orders it answers. -/

namespace Sys2Proof.Machine

def Fire.mapZone (f : Fire) (z : Nat) (g : FireZone → FireZone) : Fire := { f with zones := f.zones.modify z g }

def Fire.input? (f : Fire) (n : Nat) : Option Detector := present? f.inputs n

/-! ### The held set (R168) -/

/-- The held set is worked out afresh; a gain is reported. At a departure from NORMAL this waits for the landing drops
(log entry 30). -/
def fireHold (s : State) : State :=
  let held := heldSet s.chn s.fir.condition
  if s.fir.heldWait then s
  else
    let gained := !(setMinus held s.fir.held).isEmpty
    let s := s.onFir fun f => { f with held := held }
    if gained then
      s.notify (.landingHeld held s.chn.state s.chn.known (s.chn.trip.map (·.first)))
    else s

/-! ### The condition (R161) -/

/-- The condition changes: the chain supervisor and the call dispatcher are told, FIRE_CONDITION is sent, and at a
departure from NORMAL the programme unit is told. -/
def fireCondition (entered : FireCondition) (s : State) : State :=
  let left := s.fir.condition
  let s := s.onFir fun f => { f with condition := entered }
  fireHold (s.post
    ([.chn (.fireChanged (left == .normal)), .cal (.fireChanged entered), .lnk (.notice (.fireCondition left entered))] ++
      (if left = .normal then [Msg.prg .fireLeft] else [])))

/-- The departure from NORMAL: ALERTING with the delay timer, or EVACUATING (R162). -/
def fireDepart (s : State) : State :=
  let s := s.onFir fun f => { f with heldWait := true }
  if s.fir.settings.delay = 0 then fireCondition .evacuating s
  else fireCondition .alerting (s.onFir fun f => { f with delayTimer := Timer.start f.settings.delay })

/-! ### The steps of an alarm (R162, R163) -/

/-- The landing shutters of every floor. -/
def Shutters.landings (t : Shutters) : List Nat := presentWhere t.table Shutter.isLanding

/-- The hall shutters of the floors in FIRE. -/
def hallsInFire (s : State) : List Nat :=
  presentWhere s.sht.table fun r => !r.isLanding && s.flr.isIn r.config.floor .fire

def dropMsgs (l : List Nat) : List Msg := l.map fun n => Msg.sht (.drop n)

def allZones : List Nat := List.range 8

/-- The zones of the floors in FIRE. -/
def fireZonesOf (s : State) : List Nat := s.flr.zoneUnion (s.flr.inState .fire)

/-- EVACUATE on a zone set. -/
def evacuateMsg (s : State) (zones : List Nat) : Msg := .snd (.fireOrder .evacuate s.fir.settings.evacuate zones)

/-- The soundings of R162. -/
def fireSoundings (s : State) : State :=
  if s.fir.condition = .evacuating then s.post [evacuateMsg s allZones]
  else
    let zones := fireZonesOf s
    s.post [evacuateMsg s zones, .snd (.fireOrder .alert s.fir.settings.alert (setMinus allZones zones))]

/-- The soundings of R163 and R164. -/
def fireResound (s : State) : State :=
  s.post [evacuateMsg s (if s.fir.condition = .evacuating then allZones else fireZonesOf s)]

/-- A WARDEN call for each floor in FIRE. -/
def fireWardens (s : State) : State := s.post ((s.flr.inState .fire).map fun f => Msg.cal (.placeWarden f))

/-- The FIRE_ZONE notice. -/
def fireReport (z : Nat) (s : State) : State :=
  s.notify (.fireZone z (((s.fir.zones[z]?).map (·.floors)).getD []) s.fir.condition)

/-- The watchdog: an acknowledgement timer that is not running starts (R162, R165). -/
def fireWatchdog (s : State) : State :=
  s.onFir fun f =>
    if f.ackTimer.isRunning then f else { f with ackTimer := Timer.start f.settings.acknowledge, pulses := 0 }

/-- A zone enters ALARM: the steps of R162 in NORMAL, of R163 otherwise, each taken whole before the next. Its
floors are declared in rising number (log entry 66). -/
def fireAlarm (z : Nat) (s : State) : State :=
  let floors := ((s.fir.zones[z]?).map (·.floors)).getD []
  let s := s.onFir fun f => f.mapZone z fun r => { r with state := .alarm, confirmTimer := .stopped }
  let declares := floors.map fun f => Msg.flr (.declare f)
  let close := [Msg.fir .wardens, .fir (.report z), .fir .watchdog]
  if s.fir.condition = .normal then
    s.post (declares ++ [.fir .depart] ++ dropMsgs s.sht.landings ++
      [.fir .dropsOrdered, .fir .hallDrops, .fir .soundings] ++ close)
  else
    let rise := if s.fir.condition = .silenced then [Msg.fir (.condition .evacuating)] else []
    s.post (declares ++ rise ++ [.fir .hallDrops, .fir .resound] ++ close)

/-! ### Inputs and zones (R159, R160) -/

/-- A zone without an alarm: FAULT where one of its inputs is in FAULT, else NORMAL. -/
def Fire.calm (f : Fire) (z : Nat) : ZoneState := if f.zoneHas z .fault then .fault else .normal

/-- Confirmation lapses. -/
def fireLapse (z : Nat) (s : State) : State :=
  (s.onFir fun f => f.mapZone z fun r => { r with state := f.calm z, confirmTimer := .stopped }).notify (.unconfirmed z)

/-- An input of a NORMAL or FAULT zone enters ALARM. -/
def fireEnterAlarm (n : Nat) (d : Detector) (s : State) : State :=
  let z := d.config.zone
  if d.config.manual || s.fir.settings.confirm == 0 then fireAlarm z s
  else
    (s.onFir fun f => f.mapZone z fun r =>
      { r with state := .confirming, confirmTimer := Timer.start f.settings.confirm }).notify (.zoneConfirming z n)

/-- A change of an input's state, its record already changed, in a NORMAL or FAULT zone (R160). From FAULT straight to ALARM
only the entry to ALARM is taken, without ZONE_FAULT_CLEARED (log entry 61). -/
def fireQuietChange (n : Nat) (d : Detector) (zone : ZoneState) (old new : DetectorState) (s : State) : State :=
  let z := d.config.zone
  match new with
  | .alarm => fireEnterAlarm n d s
  | .fault =>
    if zone = .normal then
      (s.onFir fun f => f.mapZone z fun r => { r with state := .fault }).notify (.zoneFault z n)
    else s
  | .normal =>
    if zone = .fault && old == .fault && !s.fir.zoneHas z .fault then
      (s.onFir fun f => f.mapZone z fun r => { r with state := .normal }).notify (.zoneFaultCleared z)
    else s

/-- A change of input `n` to the state given, taken by its zone's state (R160). -/
def fireInputChange (n : Nat) (new : DetectorState) (s : State) : State :=
  match s.fir.input? n with
  | none => s
  | some d =>
    if d.state = new then s
    else
      let s := s.onFir fun f => { f with inputs := f.inputs.set n (some { d with state := new }) }
      match (s.fir.zones[d.config.zone]?).map FireZone.state with
      | some .confirming =>
        if new = .alarm then if d.config.manual then fireAlarm d.config.zone s else s
        else if d.state = .alarm && !s.fir.zoneHas d.config.zone .alarm then fireLapse d.config.zone s
        else s
      | some .alarm => s
      | some zone => fireQuietChange n d zone d.state new s
      | none => s

/-- The field loop master hands on a detector slot's state. -/
def fireSlot (address slot : Nat) (new : DetectorState) (s : State) : State :=
  match (presentWhere s.fir.inputs fun d => d.config.node == address && d.config.slot == slot).head? with
  | some n => fireInputChange n new s
  | none => s

/-- A detector node is declared LOST: its inputs enter FAULT (R159), in rising input number (log entry 62). -/
def fireNodeLost (address : Nat) (s : State) : State :=
  (presentWhere s.fir.inputs fun d => d.config.node == address).foldl (fun s n => fireInputChange n .fault s) s

/-- An event handed to the fire response unit. -/
def fireTake (m : FireMsg) (s : State) : State :=
  match m with
  | .slot address slot st => fireSlot address slot st s
  | .nodeLost address => fireNodeLost address s
  | .depart => fireDepart s
  | .dropsOrdered => fireHold (s.onFir fun f => { f with heldWait := false })
  | .hallDrops => s.post (dropMsgs (hallsInFire s))
  | .soundings => fireSoundings s
  | .resound => fireResound s
  | .wardens => fireWardens s
  | .report z => fireReport z s
  | .watchdog => fireWatchdog s
  | .condition c => fireCondition c s
  | .chainChanged => fireHold s

/-! ### Timers -/

/-- A zone's confirm timer expires (R160). -/
def fireConfirmExpiry (z : Nat) (s : State) : State :=
  if (s.fir.zones[z]?).any fun r => r.state == .confirming && r.confirmTimer.isRunning then fireAlarm z s else s

/-- The delay timer expires (R164). -/
def fireDelayExpiry (s : State) : State :=
  if s.fir.condition = .alerting && s.fir.delayTimer.isRunning then
    (s.onFir fun f => { f with delayTimer := .stopped }).post [.fir (.condition .evacuating), .fir .resound]
  else s

/-- The acknowledgement timer expires: the brigade is called (R165). -/
def fireAckExpiry (s : State) : State :=
  if s.fir.ackTimer.isRunning then
    let s := s.onFir fun f =>
      { f with brigade := true, pulses := f.pulses + 1, pulseTimer := Timer.start 5
               ackTimer := Timer.start f.settings.acknowledge }
    s.notify (.brigadeCalled s.fir.pulses)
  else s

/-- The pulse timer expires (R165). -/
def firePulseExpiry (s : State) : State :=
  if s.fir.pulseTimer.isRunning then s.onFir fun f => { f with brigade := false, pulseTimer := .stopped } else s

/-! ### Orders -/

/-- ACKNOWLEDGE FIRE (R165). -/
def orderAcknowledgeFire (s : State) : State × Result :=
  if s.fir.condition = .normal then declined .wrongState s
  else if s.fir.ackTimer.isRunning then
    done ((s.onFir fun f => { f with ackTimer := .stopped }).notify .fireAcknowledged)
  else done s

/-- SILENCE (R166). -/
def orderSilence (s : State) : State × Result :=
  match s.fir.condition with
  | .alerting | .evacuating =>
    done ((s.onFir fun f => { f with delayTimer := .stopped }).post [.snd .endFire, .fir (.condition .silenced)])
  | .silenced => done s
  | .normal => declined .wrongState s

/-- The inputs in ALARM. -/
def Fire.alarmed (f : Fire) : List Nat := presentWhere f.inputs fun d => d.state == .alarm

/-- A zone at RESET FIRE. -/
def Fire.resetZone (f : Fire) (z : Nat) (r : FireZone) : FireZone :=
  if r.state = .alarm || r.state = .confirming then { r with state := f.calm z, confirmTimer := .stopped } else r

/-- The zones that enter FAULT at RESET FIRE. -/
def Fire.enteringFault (f : Fire) : List Nat :=
  (List.range f.zones.length).filter fun z =>
    (f.zones[z]?).any fun r => r.state != .fault && (f.resetZone z r).state == .fault

/-- RESET FIRE (R167); a refusal for an input in ALARM names the lowest-numbered. In NORMAL, where an input of a CONFIRMING
zone may be in ALARM too, the refusal is for NORMAL and names no input (log entry 22). The floors in FIRE are released in
rising number (log entry 66). -/
def orderResetFire (s : State) : State × Result :=
  if s.fir.condition = .normal then declined .wrongState s
  else
    match s.fir.alarmed with
    | n :: _ => (s, .declined .wrongState (field 1 n))
    | [] =>
      let entering := s.fir.enteringFault
      let s := s.onFir fun f =>
        { f with delayTimer := .stopped, ackTimer := .stopped, zones := f.zones.mapIdx fun z r => f.resetZone z r }
      done (s.post ([.snd .endFire] ++ (s.flr.inState .fire).map (fun f => Msg.flr (.release f)) ++
        [.fir (.condition .normal), .lnk (.notice (.fireReset entering))]))

/-- SET FIRE ZONE (R169): FIRE_LOCK first, and OUT_OF_RANGE before IN_USE where both reasons hold, for which R169 gives no
order (log entry 22). -/
def orderSetFireZone (z floors : Nat) (s : State) : State × Result :=
  let set := maskSet 8 floors
  if s.fir.condition != .normal then declined .fireLock s
  else if !(decide (z ≤ 7) && decide (floors < 256)) then declined .outOfRange s
  else if !((numbersWhere s.fir.zones fun r => setsMeet r.floors set).all (· == z)) then declined .inUse s
  else done (s.onFir fun f => f.mapZone z fun r => { r with floors := set })

/-- An input is made absent, with what its zone then does (R169). -/
def fireRemoveInput (n : Nat) (s : State) : State :=
  match s.fir.input? n with
  | none => s
  | some d =>
    let z := d.config.zone
    let s := s.onFir fun f => { f with inputs := f.inputs.set n none }
    match (s.fir.zones[z]?).map FireZone.state with
    | some .fault =>
      if s.fir.zoneHas z .fault then s
      else (s.onFir fun f => f.mapZone z fun r => { r with state := .normal }).notify (.zoneFaultCleared z)
    | some .confirming => if s.fir.zoneHas z .alarm then s else fireLapse z s
    | _ => s

/-- The state an input takes when it is made present (R169). -/
def firstState (node : Option Node) (slot : Nat) : DetectorState :=
  match node with
  | none => .normal
  | some n =>
    match n.state, n.image with
    | .present, some i => detectorOf i.byte0 slot
    | .present, none => .normal
    | .lost, _ => .fault
    | .absent, _ => .normal

/-- An input is made present, in NORMAL first; another state is then taken as a change (R169). -/
def fireAddInput (n : Nat) (c : DetectorConfig) (s : State) : State :=
  let s := s.onFir fun f => { f with inputs := f.inputs.set n (some { config := c, state := .normal }) }
  fireInputChange n (firstState (s.flp.node? c.node) c.slot) s

/-- SET DETECTOR INPUT (R169): FIRE_LOCK first, and OUT_OF_RANGE for any field before IN_USE where both reasons hold, for
which R169 gives no order (log entry 22). -/
def orderSetDetectorInput (n : Nat) (fields : Option DetectorFields) (s : State) : State × Result :=
  if s.fir.condition != .normal then declined .fireLock s
  else if !decide (n ≤ 63) then declined .outOfRange s
  else
    match fields with
    | none => done (fireRemoveInput n s)
    | some f =>
      let c := f.config
      if !(f.inRange && s.flp.isKind c.node .detector) then declined .outOfRange s
      else if !((presentWhere s.fir.inputs fun d => d.config.node == c.node && d.config.slot == c.slot).all (· == n)) then
        declined .inUse s
      else done (fireAddInput n c (fireRemoveInput n s))

/-- SET FIRE RESPONSE (R169). -/
def orderSetFireResponse (f : FireFields) (s : State) : State × Result :=
  let f' := f.clamped
  if s.fir.condition != .normal then declined .fireLock s
  else if !f.inRange then declined .outOfRange s
  else doneClamped (f' != f) (s.onFir fun r => { r with settings := f' })

end Sys2Proof.Machine
end

