-- ==== Sys2Proof/Machine/Frames.lean ====
section
/-! DEFINITION. The layouts of the service link (section 12.7): CRC-16, codes, the bodies of orders both ways, answer
frames and notice frames. Choices where the manual leaves a layout open are log entries 15 to 20. -/

namespace Sys2Proof.Machine

/-! ### CRC-16 (R183) -/

/-- One bit of the CRC-16 of polynomial 0x1021. -/
def crc16Bit (c : BitVec 16) : BitVec 16 := if c.msb then (c <<< 1) ^^^ 0x1021#16 else c <<< 1

def crc16Byte (c : BitVec 16) (b : Byte) : BitVec 16 :=
  (List.range 8).foldl (fun c _ => crc16Bit c) (c ^^^ (b.setWidth 16 <<< 8))

/-- The CRC-16 of some bytes: initial value 0xFFFF, no reflection, no final XOR. -/
def crc16 (bytes : List Byte) : BitVec 16 := bytes.foldl crc16Byte 0xFFFF#16

/-- The two CRC bytes, high byte first. -/
def crcBytes (bytes : List Byte) : List Byte :=
  [(crc16 bytes).extractLsb' 8 8, (crc16 bytes).extractLsb' 0 8]

/-! ### Codes: from 0 in the order in which a chapter first lists the values -/

/-- A flag or mark in an answer or a notice is one byte, 1 set and 0 clear (R190; log entry 72). -/
def flag (b : Bool) : List Byte := field 1 (if b then 1 else 0)

def ChainState.code : ChainState → Nat
  | .halted => 0 | .starting => 1 | .running => 2 | .stopping => 3 | .braking => 4 | .parked => 5 | .creeping => 6
  | .homing => 7 | .inspectionIdle => 8 | .inspectionRun => 9 | .tripped => 10

def TripCause.code : TripCause → Nat
  | .overspeed => 0 | .stall => 1 | .runupTimeout => 2 | .indexError => 3 | .carSequence => 4 | .safetyChain => 5
  | .parkFailed => 6 | .homingFailed => 7 | .landingShutter => 8 | .brakeSlip => 9

def ChainMove.code : ChainMove → Nat
  | .start => 0 | .creep => 1 | .home => 2 | .inspect => 3

def ShutterState.code : ShutterState → Nat
  | .unseen => 0 | .opened => 1 | .awaitClear => 2 | .warning => 3 | .descending => 4 | .arrested => 5 | .closed => 6
  | .partOpen => 7 | .waitSupply => 8 | .raising => 9 | .fault => 10

def ShutterCause.code : ShutterCause → Nat
  | .limitsBoth => 0 | .descentTimeout => 1 | .raiseTimeout => 2 | .uncommandedDrop => 3 | .uncommandedRise => 4
  | .linkMelted => 5 | .nodeLost => 6

def Position.code : Position → Nat
  | .top => 0 | .bottom => 1 | .between => 2 | .both => 3

def MoveKind.code : MoveKind → Nat
  | .raise => 0 | .chain .start => 1 | .chain .creep => 2 | .chain .home => 3 | .chain .inspect => 4

def MovePhase.code : MovePhase → Nat
  | .running => 0 | .paused => 1 | .settling _ => 2

def SupplyMode.code : SupplyMode → Nat
  | .steady => 0 | .dipped => 1 | .restoring => 2

def FloorState.code : FloorState → Nat
  | .shut => 0 | .opening => 1 | .trading => 2 | .closing => 3 | .swept => 4 | .securing => 5 | .fire => 6

def FloorCause.code : FloorCause → Nat
  | .programme => 0 | .sweepConfirmed => 1 | .sweepSkipped => 2 | .secured => 3 | .opened => 4 | .openFailed => 5
  | .fire => 6 | .fireReset => 7 | .order => 8 | .serviceReset => 9

def SoundClass.code : SoundClass → Nat
  | .evacuate => 0 | .alert => 1 | .cue => 2 | .callUrgent => 3 | .callNormal => 4

def FireCondition.code : FireCondition → Nat
  | .normal => 0 | .alerting => 1 | .evacuating => 2 | .silenced => 3

def ZoneState.code : ZoneState → Nat
  | .normal => 0 | .confirming => 1 | .alarm => 2 | .fault => 3

def DetectorState.code : DetectorState → Nat
  | .normal => 0 | .alarm => 1 | .fault => 2

def ProgrammeOutcome.code : ProgrammeOutcome → Nat
  | .complete => 0 | .completeWithFaults => 1 | .aborted => 2 | .abortedByFire => 3 | .abortedByReset => 4

def CallClass.code : CallClass → Nat
  | .normal => 0 | .urgent => 1 | .sweep => 2 | .warden => 3

def CallPhase.code : CallPhase → Nat
  | .unassigned => 0 | .queued => 1 | .deferred => 2 | .sounding => 3 | .awaitingAck => 4

def CallReason.code : CallReason → Nat
  | .answered => 0 | .confirmed => 1 | .cancelled => 2 | .flushed => 3 | .withdrawn => 4 | .stationLost => 5
  | .abandoned => 6 | .displaced => 7

def CallRefusal.code : CallRefusal → Nat
  | .alreadyOpen => 0 | .unused => 1 | .floorClosed => 2 | .noDutyList => 3 | .listFull => 4

def CuePhase.code : CuePhase → Nat
  | .idle => 0 | .waiting => 1 | .reserved => 2 | .sounding => 3 | .retrying => 4

def SkipReason.code : SkipReason → Nat
  | .listFull => 0 | .horizon => 1 | .cut => 2

def NodeKind.code : NodeKind → Nat
  | .shutter => 0 | .station => 1 | .detector => 2

def NodeState.code : NodeState → Nat
  | .absent => 0 | .present => 1 | .lost => 2

def Lamp.code : Lamp → Nat
  | .off => 0 | .steady => 1 | .flash => 2

/-- The reason codes of section 12.7. -/
def Reason.code : Reason → Nat
  | .badForm => 1 | .unknownKind => 2 | .outOfRange => 3 | .wrongState => 4 | .inUse => 5 | .queueFull => 6
  | .fireLock => 7 | .chainMoving => 8 | .notConfigured => 9 | .noClearGap => 10 | .busy => 11

/-- The position state: KNOWN, then UNKNOWN (section 1.2). -/
def knownField (known : Bool) : List Byte := field 1 (if known then 0 else 1)

/-- A list: a count byte followed by its members. -/
def listField {α : Type} (l : List α) (f : α → List Byte) : List Byte := field 1 l.length ++ l.flatMap f

/-- A set of up to 8 or 16 items as a mask. -/
def maskField (width : Nat) (l : List Nat) : List Byte := field width (setMask l)

/-- The origin of a sounding: its code of R95's list, then its own fields. -/
def SoundOrigin.bytes : SoundOrigin → List Byte
  | .fire => field 1 0
  | .scheduled cue => field 1 1 ++ field 1 cue
  | .programme step => field 1 2 ++ field 1 step.code
  | .sound tag => field 1 3 ++ field 1 tag
  | .call number team => field 1 4 ++ field 2 number ++ field 1 team

/-- The origin of a call: station, button and floor, the ones that do not apply absent. -/
def CallOrigin.bytes : CallOrigin → List Byte
  | .button st b => field 1 st ++ field 1 b ++ field? 1 none
  | .floor f => field? 1 none ++ field? 1 none ++ field 1 f

def occurrenceField (o : Option Occurrence) : List Byte := field? 1 (o.map (·.day)) ++ field? 3 (o.map (·.time))

/-! ### Orders (section 12.7, kind codes; fields in the order of their rules) -/

/-- The kind code of an order. -/
def Order.kind : Order → Nat
  | .readStatus => 0x01
  | .commitConfiguration => 0x02
  | .serviceReset => 0x03
  | .runChain => 0x10
  | .stopChain _ => 0x11
  | .haltChain => 0x12
  | .homeChain => 0x13
  | .resetChainTrip => 0x14
  | .setChainGeometry _ => 0x15
  | .setLanding _ _ => 0x16
  | .setChainTiming _ => 0x17
  | .readClearance _ => 0x18
  | .dropShutter _ => 0x20
  | .forceDrop _ => 0x21
  | .raiseShutter _ => 0x22
  | .clearShutterFault _ => 0x23
  | .setShutter _ _ => 0x24
  | .readShutter _ => 0x25
  | .setSupplyGroup _ _ _ => 0x28
  | .readSupply _ => 0x29
  | .setFloorState _ _ => 0x2C
  | .setFloor _ _ _ _ => 0x2D
  | .readFloor _ _ => 0x2E
  | .setPattern _ _ => 0x30
  | .sound _ _ _ => 0x31
  | .readSounder _ => 0x32
  | .placeCall _ _ => 0x38
  | .cancelCall _ => 0x39
  | .setStation _ _ => 0x3A
  | .loadDutyList _ _ _ => 0x3B
  | .setTeam _ _ => 0x3C
  | .setStaff _ _ => 0x3D
  | .setDuty _ _ => 0x3E
  | .setCallTiming _ => 0x3F
  | .readCalls _ => 0x40
  | .setTime _ _ => 0x48
  | .setCue _ _ => 0x49
  | .readClock _ => 0x4A
  | .startClosing => 0x50
  | .startOpening => 0x51
  | .skipFloor => 0x52
  | .abortProgramme => 0x53
  | .setProgramme _ => 0x54
  | .readProgramme => 0x55
  | .acknowledgeFire => 0x58
  | .silence => 0x59
  | .resetFire => 0x5A
  | .setFireZone _ _ => 0x5B
  | .setDetectorInput _ _ => 0x5C
  | .setFireResponse _ => 0x5D
  | .readFire _ => 0x5E
  | .setNode _ _ => 0x60
  | .readNode _ => 0x61

/-- The kind is a request kind of the kind code table. -/
def requestKind (k : Nat) : Bool :=
  inRange 0x01 0x03 k || inRange 0x10 0x18 k || inRange 0x20 0x25 k || inRange 0x28 0x29 k || inRange 0x2C 0x2E k ||
    inRange 0x30 0x32 k || inRange 0x38 0x40 k || inRange 0x48 0x4A k || inRange 0x50 0x55 k || inRange 0x58 0x5E k ||
    inRange 0x60 0x61 k

/-- The configuration orders (R188). -/
def Order.configures : Order → Bool
  | .setChainGeometry _ | .setLanding _ _ | .setChainTiming _ | .setShutter _ _ | .setSupplyGroup _ _ _ | .setFloor _ _ _ _
  | .setPattern _ _ | .setStation _ _ | .loadDutyList _ _ _ | .setTeam _ _ | .setStaff _ _ | .setDuty _ _
  | .setCallTiming _ | .setCue _ _ | .setProgramme _ | .setFireZone _ _ | .setDetectorInput _ _ | .setFireResponse _
  | .setNode _ _ => true
  | _ => false

/-- The numbers of fields of the widths given, one after another. -/
def fields : List (Nat × Nat) → List Byte
  | [] => []
  | (w, v) :: l => field w v ++ fields l

/-- The fields of an order's body, each with its width. The fields of an absent record are all ones. A part number stands
last, in READ FLOOR after the floor (R184; log entry 18). -/
def Order.layout : Order → List (Nat × Nat)
  | .stopChain m => [(2, m)]
  | .setChainGeometry g =>
    [(1, g.cars), (2, g.pitch), (2, g.tagReader), (1, g.indexTolerance), (1, g.tagTolerance), (1, g.group)]
  | .setLanding n (some f) => [(1, n), (1, 1), (1, f.floor), (1, f.side), (2, f.position)]
  | .setLanding n none => [(1, n), (1, 0), (1, 255), (1, 255), (2, 65535)]
  | .setChainTiming t =>
    [(2, t.stallLimit), (2, t.overspeedLimit), (2, t.acceptance), (1, t.margin), (1, t.creepStop), (1, t.drift),
      (1, t.decel), (1, t.runup), (2, t.homing), (1, t.brakeDelay)]
  | .dropShutter n => [(1, n)]
  | .forceDrop n => [(1, n)]
  | .raiseShutter n => [(1, n)]
  | .clearShutterFault n => [(1, n)]
  | .setShutter n (some f) =>
    [(1, n), (1, 1), (1, f.floor), (1, f.kind), (1, f.landing), (1, f.node), (1, f.slot), (1, f.group),
      (1, f.warning), (1, f.descent), (2, f.raise)]
  | .setShutter n none =>
    [(1, n), (1, 0), (1, 255), (1, 255), (1, 255), (1, 255), (1, 255), (1, 255), (1, 255), (1, 255), (2, 65535)]
  | .readShutter n => [(1, n)]
  | .setSupplyGroup g c t => [(1, g), (1, c), (1, t)]
  | .readSupply p => [(1, p)]
  | .setFloorState f c => [(1, f), (1, c)]
  | .setFloor f z a b => [(1, f), (1, z), (1, a), (1, b)]
  | .readFloor f p => [(1, f), (1, p)]
  | .setPattern n l => [(1, n), (1, l.length)] ++ l.flatMap fun e => [(1, e.kind), (1, e.tone), (1, e.length)]
  | .sound p z r => [(1, p), (1, z), (1, r)]
  | .readSounder p => [(1, p)]
  | .placeCall st b => [(1, st), (1, b)]
  | .cancelCall n => [(2, n)]
  | .setStation n (some f) =>
    [(1, n), (1, 1), (1, f.node), (1, f.floor), (1, f.button0), (1, f.button1), (1, f.button2), (1, f.button3)]
  | .setStation n none =>
    [(1, n), (1, 0), (1, 255), (1, 255), (1, 255), (1, 255), (1, 255), (1, 255)]
  | .loadDutyList t s l => [(1, t), (1, s), (1, l.length)] ++ l.flatMap fun e => [(1, e)]
  | .setTeam t p => [(1, t), (1, p)]
  | .setStaff m p => [(1, m), (1, p)]
  | .setDuty m on => [(1, m), (1, if on then 1 else 0)]
  | .setCallTiming f => [(1, f.repeats), (1, f.rounds), (2, f.interval), (1, f.escalations)]
  | .readCalls p => [(1, p)]
  | .setTime t d => [(3, t), (1, d)]
  | .setCue n f =>
    [(1, n), (1, if f.enabled then 1 else 0), (3, f.time), (1, f.days), (1, f.pattern), (1, f.zones),
      (1, f.repeats), (1, f.retryInterval), (1, f.retryLimit)]
  | .readClock p => [(1, p)]
  | .setProgramme f =>
    [(1, f.street), (1, f.firstPattern), (1, f.secondPattern), (1, f.finalPattern), (1, f.openingPattern),
      (2, f.gap1), (2, f.gap2), (2, f.finalGap), (2, f.sweepRound), (2, f.sweepTimeout), (1, f.dwell)]
  | .setFireZone z f => [(1, z), (1, f)]
  | .setDetectorInput n (some f) => [(1, n), (1, 1), (1, f.node), (1, f.slot), (1, f.zone), (1, f.kind)]
  | .setDetectorInput n none => [(1, n), (1, 0), (1, 255), (1, 255), (1, 255), (1, 255)]
  | .setFireResponse f => [(1, f.evacuate), (1, f.alert), (1, f.confirm), (2, f.delay), (2, f.acknowledge)]
  | .readFire p => [(1, p)]
  | .setNode a k => [(1, a), (1, k)]
  | .readNode a => [(1, a)]
  | .readClearance p => [(1, p)]
  | .readStatus | .commitConfiguration | .serviceReset | .runChain | .haltChain | .homeChain | .resetChainTrip
  | .startClosing | .startOpening | .skipFloor | .abortProgramme | .readProgramme | .acknowledgeFire | .silence
  | .resetFire => []

/-- The body of an order. -/
def Order.body (o : Order) : List Byte := fields o.layout

/-- The number some bytes spell, high byte first. -/
def number (l : List Byte) : Nat := l.foldl (fun v b => v * 256 + b.toNat) 0

/-- The numbers of a body that is exactly fields of the widths given. -/
def numbers : List Nat → List Byte → Option (List Nat)
  | [], [] => some []
  | [], _ :: _ => none
  | w :: ws, l => if w ≤ l.length then (numbers ws (l.drop w)).map (number (l.take w) :: ·) else none

/-- A presence byte: 0 absent, 1 present, else no code of the list (R184). -/
def presence {α : Type} (p : Nat) (a : α) : Option (Option α) :=
  if p = 0 then some none else if p = 1 then some (some a) else none

/-- A flag: 0 clear, 1 set, else no code of the list. -/
def flagOf (p : Nat) : Option Bool := if p = 0 then some false else if p = 1 then some true else none

/-- The elements of a SET PATTERN, three numbers each. -/
def elementsOf : List Nat → List ElementFields
  | k :: t :: n :: l => { kind := k, tone := t, length := n } :: elementsOf l
  | _ => []

/-- Bodies with a count: the elements of a pattern. -/
def parsePattern (body : List Byte) : Option Order :=
  match body with
  | n :: c :: rest =>
    (numbers (List.replicate (3 * c.toNat) 1) rest).map fun l => .setPattern n.toNat (elementsOf l)
  | _ => none

/-- Bodies with a count: the entries of a duty list. -/
def parseDutyList (body : List Byte) : Option Order :=
  match body with
  | t :: s :: c :: rest => (numbers (List.replicate c.toNat 1) rest).map fun l => .loadDutyList t.toNat s.toNat l
  | _ => none

/-- Orders to the link, the chain supervisor and the clearance calculator. -/
def parseChain (kind : Nat) (body : List Byte) : Option Order :=
  if kind = 0x01 then (numbers [] body).map fun _ => .readStatus
  else if kind = 0x02 then (numbers [] body).map fun _ => .commitConfiguration
  else if kind = 0x03 then (numbers [] body).map fun _ => .serviceReset
  else if kind = 0x10 then (numbers [] body).map fun _ => .runChain
  else if kind = 0x11 then
    match numbers [2] body with
    | some [m] => some (.stopChain m)
    | _ => none
  else if kind = 0x12 then (numbers [] body).map fun _ => .haltChain
  else if kind = 0x13 then (numbers [] body).map fun _ => .homeChain
  else if kind = 0x14 then (numbers [] body).map fun _ => .resetChainTrip
  else if kind = 0x15 then
    match numbers [1, 2, 2, 1, 1, 1] body with
    | some [a, b, c, d, e, f] => some (.setChainGeometry ⟨a, b, c, d, e, f⟩)
    | _ => none
  else if kind = 0x16 then
    match numbers [1, 1, 1, 1, 2] body with
    | some [n, p, a, b, c] => (presence p ⟨a, b, c⟩).map fun f => .setLanding n f
    | _ => none
  else if kind = 0x17 then
    match numbers [2, 2, 2, 1, 1, 1, 1, 1, 2, 1] body with
    | some [a, b, c, d, e, f, g, h, i, j] => some (.setChainTiming ⟨a, b, c, d, e, f, g, h, i, j⟩)
    | _ => none
  else if kind = 0x18 then
    match numbers [1] body with
    | some [p] => some (.readClearance p)
    | _ => none
  else none

/-- Orders to the shutter controller, the supply admission unit and the floor table. -/
def parseFloors (kind : Nat) (body : List Byte) : Option Order :=
  if kind = 0x24 then
    match numbers [1, 1, 1, 1, 1, 1, 1, 1, 1, 1, 2] body with
    | some [n, p, a, b, c, d, e, f, g, h, i] => (presence p ⟨a, b, c, d, e, f, g, h, i⟩).map fun f => .setShutter n f
    | _ => none
  else
    match kind, numbers (List.replicate body.length 1) body with
    | 0x20, some [n] => some (.dropShutter n)
    | 0x21, some [n] => some (.forceDrop n)
    | 0x22, some [n] => some (.raiseShutter n)
    | 0x23, some [n] => some (.clearShutterFault n)
    | 0x25, some [n] => some (.readShutter n)
    | 0x28, some [g, c, t] => some (.setSupplyGroup g c t)
    | 0x29, some [p] => some (.readSupply p)
    | 0x2C, some [f, c] => some (.setFloorState f c)
    | 0x2D, some [f, z, a, b] => some (.setFloor f z a b)
    | 0x2E, some [f, p] => some (.readFloor f p)
    | _, _ => none

/-- Orders to the sounder line and the call dispatcher. -/
def parseCalls (kind : Nat) (body : List Byte) : Option Order :=
  if kind = 0x30 then parsePattern body
  else if kind = 0x39 then
    match numbers [2] body with
    | some [n] => some (.cancelCall n)
    | _ => none
  else if kind = 0x3B then parseDutyList body
  else if kind = 0x3F then
    match numbers [1, 1, 2, 1] body with
    | some [a, b, c, d] => some (.setCallTiming ⟨a, b, c, d⟩)
    | _ => none
  else
    match kind, numbers (List.replicate body.length 1) body with
    | 0x31, some [p, z, r] => some (.sound p z r)
    | 0x32, some [p] => some (.readSounder p)
    | 0x38, some [st, b] => some (.placeCall st b)
    | 0x3A, some [n, p, a, b, c, d, e, f] => (presence p ⟨a, b, c, d, e, f⟩).map fun f => .setStation n f
    | 0x3C, some [t, p] => some (.setTeam t p)
    | 0x3D, some [m, p] => some (.setStaff m p)
    | 0x3E, some [m, on] => (flagOf on).map fun b => .setDuty m b
    | 0x40, some [p] => some (.readCalls p)
    | _, _ => none

/-- Orders to the store clock and the programme unit. -/
def parseClock (kind : Nat) (body : List Byte) : Option Order :=
  if kind = 0x48 then
    match numbers [3, 1] body with
    | some [t, d] => some (.setTime t d)
    | _ => none
  else if kind = 0x49 then
    match numbers [1, 1, 3, 1, 1, 1, 1, 1, 1] body with
    | some [n, e, a, b, c, d, f, g, h] => (flagOf e).map fun on => .setCue n ⟨on, a, b, c, d, f, g, h⟩
    | _ => none
  else if kind = 0x4A then
    match numbers [1] body with
    | some [p] => some (.readClock p)
    | _ => none
  else if kind = 0x50 then (numbers [] body).map fun _ => .startClosing
  else if kind = 0x51 then (numbers [] body).map fun _ => .startOpening
  else if kind = 0x52 then (numbers [] body).map fun _ => .skipFloor
  else if kind = 0x53 then (numbers [] body).map fun _ => .abortProgramme
  else if kind = 0x54 then
    match numbers [1, 1, 1, 1, 1, 2, 2, 2, 2, 2, 1] body with
    | some [a, b, c, d, e, f, g, h, i, j, k] => some (.setProgramme ⟨a, b, c, d, e, f, g, h, i, j, k⟩)
    | _ => none
  else if kind = 0x55 then (numbers [] body).map fun _ => .readProgramme
  else none

/-- Orders to the fire response unit and the field loop master. -/
def parseFire (kind : Nat) (body : List Byte) : Option Order :=
  if kind = 0x58 then (numbers [] body).map fun _ => .acknowledgeFire
  else if kind = 0x59 then (numbers [] body).map fun _ => .silence
  else if kind = 0x5A then (numbers [] body).map fun _ => .resetFire
  else if kind = 0x5D then
    match numbers [1, 1, 1, 2, 2] body with
    | some [a, b, c, d, e] => some (.setFireResponse ⟨a, b, c, d, e⟩)
    | _ => none
  else
    match kind, numbers (List.replicate body.length 1) body with
    | 0x5B, some [z, f] => some (.setFireZone z f)
    | 0x5C, some [n, p, a, b, c, d] => (presence p ⟨a, b, c, d⟩).map fun f => .setDetectorInput n f
    | 0x5E, some [p] => some (.readFire p)
    | 0x60, some [a, k] => some (.setNode a k)
    | 0x61, some [a] => some (.readNode a)
    | _, _ => none

/-- The order of a body, or `none` where the body does not suit the kind (R184, BAD_FORM). -/
def parseOrder (kind : Nat) (body : List Byte) : Option Order :=
  if kind < 0x20 then parseChain kind body
  else if kind < 0x30 then parseFloors kind body
  else if kind < 0x48 then parseCalls kind body
  else if kind < 0x58 then parseClock kind body
  else parseFire kind body

/-! ### Frames out -/

/-- A frame: sync, length, kind, tag, body, CRC-16 over the bytes from the length (R183). -/
def linkFrame (kind tag : Nat) (body : List Byte) : List Byte :=
  let covered := field 1 (body.length + 2) ++ [BitVec.ofNat 8 kind, BitVec.ofNat 8 tag] ++ body
  0xA5#8 :: (covered ++ crcBytes covered)

/-- The body of an answer (section 12.7). The detail of a TAKEN is 0 (R185), that of a SOUND whose repeats were clamped too:
the CLAMPED indication of R109 stays with the answer and has no place in its frame (log entry 21). -/
def Result.body : Result → List Byte
  | .done clamped data => field 1 0 ++ flag clamped ++ data
  | .taken _ => field 1 1 ++ field 1 0
  | .declined r data => field 1 2 ++ field 1 r.code ++ data

/-- The frame of an answer: the request's kind with the answer bit added, and its tag. -/
def Answer.frame (a : Answer) : List Byte := linkFrame (a.kind ||| 0x80) a.tag a.result.body

/-! ### Notices -/

/-- A notice's code, class and fields, from its chapter's table. -/
structure NoticeForm where
  code : Nat
  cls : NoticeClass
  fields : List Byte
  deriving DecidableEq, Repr

/-- A trip record: the set of causes, the first, the position or none, the chain state (R22). -/
def TripRecord.bytes (r : TripRecord) : List Byte :=
  maskField 2 (r.causes.map TripCause.code) ++ field 1 r.first.code ++ field? 2 r.position ++ field 1 r.state.code

/-- The notices of the chain supervisor (R25). -/
def chainForm : NoticeBody → Option NoticeForm
  | .chainRunning p => some ⟨0x01, .info, field? 2 p⟩
  | .chainHalted p known => some ⟨0x02, .info, field? 2 p ++ knownField known⟩
  | .chainHomed => some ⟨0x03, .info, []⟩
  | .chainParked set x => some ⟨0x04, .info, maskField 2 set ++ field 2 x⟩
  | .parkMissed x l n => some ⟨0x05, .action, field 2 x ++ listField l (field 1) ++ field 1 n⟩
  | .parkLost x l => some ⟨0x06, .action, field 2 x ++ listField l (field 1)⟩
  | .abandoned k => some ⟨0x07, .action, field 1 k.code⟩
  | .moveRefused k => some ⟨0x08, .action, field 1 k.code⟩
  | .chainTripped r => some ⟨0x09, .alarm, r.bytes⟩
  | .tripCleared => some ⟨0x0A, .info, []⟩
  | _ => none

/-- The notices of the shutter controller (R63) and the supply admission unit (R78). -/
def shutterForm : NoticeBody → Option NoticeForm
  | .shutterSeen n st => some ⟨0x10, .info, field 1 n ++ field 1 st.code⟩
  | .shutterArrested n k => some ⟨0x11, .info, field 1 n ++ field 1 k⟩
  | .edgeOverridden n k => some ⟨0x12, .action, field 1 n ++ field 1 k⟩
  | .obstructed n k refused => some ⟨0x13, .action, field 1 n ++ field 1 k ++ flag refused⟩
  | .shutterClosed n k forced => some ⟨0x14, .info, field 1 n ++ field 1 k ++ flag forced⟩
  | .shutterOpen n => some ⟨0x15, .info, field 1 n⟩
  | .raiseRefused n => some ⟨0x16, .action, field 1 n⟩
  | .raiseAbandoned n r => some ⟨0x17, .action, field 1 n ++ field 1 r.code⟩
  | .shutterFault n c p left => some ⟨0x18, .alarm, field 1 n ++ field 1 c.code ++ field 1 p.code ++ field 1 left.code⟩
  | .linkMelted n st => some ⟨0x19, .alarm, field 1 n ++ field 1 st.code⟩
  | .faultCleared n st => some ⟨0x1A, .info, field 1 n ++ field 1 st.code⟩
  | .supplyDip k => some ⟨0x20, .action, field 1 k⟩
  | .supplyRestored => some ⟨0x21, .info, []⟩
  | _ => none

/-- The class of a FLOOR_STATE notice (R92). -/
def floorClass (cause : FloorCause) (faulted : Option Nat) : NoticeClass :=
  if cause = .openFailed || (cause = .secured && faulted.any (0 < ·)) then .action else .info

/-- A list that may be absent: then one byte of all ones in the place of its count (R92; log entry 69). -/
def listField? {α : Type} (l : Option (List α)) (f : α → List Byte) : List Byte :=
  match l with
  | some l => listField l f
  | none => field? 1 none

/-- The notices of the floor table (R92) and the sounder line (R111). -/
def floorForm : NoticeBody → Option NoticeForm
  | .floorState f left st cause faulted declined notOpen =>
    some ⟨0x24, floorClass cause faulted,
      field 1 f ++ field 1 left.code ++ field 1 st.code ++ field 1 cause.code ++ field? 1 faulted ++
        listField? declined (field 1) ++ listField? notOpen fun p => field 1 p.1 ++ field 1 p.2.code⟩
  | .soundingDropped o p => some ⟨0x28, .action, o.bytes ++ field 1 p⟩
  | .soundEnded tag => some ⟨0x29, .info, field 1 tag⟩
  | _ => none

/-- The notices of the call dispatcher (R130). -/
def callForm : NoticeBody → Option NoticeForm
  | .callOpened n c o t => some ⟨0x30, .info, field 2 n ++ field 1 c.code ++ o.bytes ++ field 1 t⟩
  | .callRefused o r => some ⟨0x31, .info, o.bytes ++ field 1 r.code⟩
  | .callUrgent n => some ⟨0x32, .info, field 2 n⟩
  | .urgentRefused n => some ⟨0x33, .info, field 2 n⟩
  | .callAssigned n m => some ⟨0x34, .info, field 2 n ++ field 1 m⟩
  | .callUnassigned n t => some ⟨0x35, .action, field 2 n ++ field 1 t⟩
  | .callEscalated n m e => some ⟨0x36, .action, field 2 n ++ field 1 m ++ field 1 e⟩
  | .callAbandoned n t m => some ⟨0x37, .action, field 2 n ++ field 1 t ++ field? 1 m⟩
  | .callAnswered n m r e secs =>
    some ⟨0x38, .info, field 2 n ++ field? 1 m ++ field 1 r ++ field 1 e ++ field 2 secs⟩
  | .wardenReported f st => some ⟨0x39, .action, field 1 f ++ field 1 st⟩
  | .wardenNotPlaced f => some ⟨0x3A, .alarm, field 1 f⟩
  | .callClosed n r => some ⟨0x3B, .info, field 2 n ++ field 1 r.code⟩
  | _ => none

/-- The class of a PROGRAMME_ENDED notice (R151, R156). -/
def endedClass : ProgrammeOutcome → NoticeClass
  | .complete => .info
  | _ => .action

/-- The notices of the store clock (R140) and the programme unit (R157). -/
def clockForm : NoticeBody → Option NoticeForm
  | .cueSounded n k => some ⟨0x40, .info, field 1 n ++ field 1 k⟩
  | .cueClashed n k t => some ⟨0x41, .info, field 1 n ++ field 1 k ++ field 3 t⟩
  | .cueLost n o k => some ⟨0x42, .action, field 1 n ++ occurrenceField o ++ field 1 k⟩
  | .cueSkipped n o r => some ⟨0x43, .action, field 1 n ++ occurrenceField o ++ field 1 r.code⟩
  | .programmeStarted k l => some ⟨0x48, .info, field 1 k.code ++ listField l (field 1)⟩
  | .programmeStep k st f => some ⟨0x49, .info, field 1 k.code ++ field 1 st.code ++ field? 1 f⟩
  | .sweepOverdue f n secs => some ⟨0x4A, .action, field 1 f ++ field? 2 n ++ field 2 secs⟩
  | .floorSkipped f st => some ⟨0x4B, .action, field 1 f ++ field 1 st.code⟩
  | .chainHeld r => some ⟨0x4C, .action, field 1 r.code⟩
  | .programmeEnded k o st f faulted skipped opened =>
    some ⟨0x4D, endedClass o,
      field 1 k.code ++ field 1 o.code ++ field? 1 (st.map ProgrammeStep.code) ++ field? 1 f ++ maskField 1 faulted ++
        maskField 1 skipped ++ field? 1 (opened.map setMask)⟩
  | _ => none

/-- The notices of the fire response unit (R171), the field loop master (R178) and the store (R188). -/
def fireForm : NoticeBody → Option NoticeForm
  | .zoneConfirming z n => some ⟨0x50, .info, field 1 z ++ field 1 n⟩
  | .unconfirmed z => some ⟨0x51, .action, field 1 z⟩
  | .zoneFault z n => some ⟨0x52, .action, field 1 z ++ field 1 n⟩
  | .zoneFaultCleared z => some ⟨0x53, .info, field 1 z⟩
  | .fireCondition a b => some ⟨0x54, .info, field 1 a.code ++ field 1 b.code⟩
  | .fireZone z l c => some ⟨0x55, .alarm, field 1 z ++ maskField 1 l ++ field 1 c.code⟩
  | .brigadeCalled n => some ⟨0x56, .alarm, field 2 n⟩
  | .fireAcknowledged => some ⟨0x57, .info, []⟩
  | .fireReset l => some ⟨0x58, .info, maskField 1 l⟩
  | .landingHeld l st known c =>
    some ⟨0x59, .alarm, maskField 2 l ++ field 1 st.code ++ knownField known ++ field? 1 (c.map TripCause.code)⟩
  | .nodeLost a k => some ⟨0x60, .alarm, field 1 a ++ field 1 k.code⟩
  | .nodeFound a k st => some ⟨0x61, .info, field 1 a ++ field 1 k.code ++ field 1 st.code⟩
  | .commitEnded written =>
    some ⟨0x68, if written then .info else .alarm, field 1 (if written then 0 else 1)⟩
  | _ => none

/-- The form of a notice. -/
def NoticeBody.form (b : NoticeBody) : NoticeForm :=
  ((chainForm b).or <| (shutterForm b).or <| (floorForm b).or <| (callForm b).or <| (clockForm b).or (fireForm b)).getD
    ⟨0, .info, []⟩

def NoticeBody.cls (b : NoticeBody) : NoticeClass := b.form.cls

def NoticeClass.code : NoticeClass → Nat
  | .info => 0 | .action => 1 | .alarm => 2

/-- A notice frame: its tag is the notice count and its header carries the lost mark (R186, section 12.7). -/
def Notice.frame (n : Notice) (lost : Bool) (count : Nat) : List Byte :=
  let f := n.body.form
  linkFrame 0xFF count (field 1 f.code ++ field 1 (f.cls.code + bit lost 128) ++ field? 3 n.stamp ++ f.fields)

end Sys2Proof.Machine
end

