-- ==== Sys2Proof/Machine/Link.lean ====
section
/-! DEFINITION. LNK, the service link (chapter 12): the receive assembler, the request buffer and the answer list, the
transmitter, the notice queue, and the link reset. The store's part is in Machine/Store.lean. -/

namespace Sys2Proof.Machine

/-! ### The transmitter (R186) -/

/-- The next frame: the oldest answer, else the notice at the head, else none. -/
def Link.choose (k : Link) : Link :=
  match k.answers, k.notices with
  | a :: rest, _ => { k with sending := some a.frame, answers := rest }
  | [], n :: rest =>
    { k with sending := some (n.frame k.lost k.count), notices := rest, lost := false, count := (k.count + 1) % 256 }
  | [], [] => { k with sending := none }

/-- An idle transmitter chooses its next frame as soon as something waits. -/
def Link.start (k : Link) : Link := if k.sending.isNone then k.choose else k

/-- The transmitter is idle and something is waiting. -/
def Link.wantsToSend (k : Link) : Bool := k.sending.isNone && !(k.answers.isEmpty && k.notices.isEmpty)

/-! ### Notices (R186) -/

/-- A notice joins the queue; at a full queue it is taken by its class, and the lost mark is set. -/
def Link.takeNotice (k : Link) (n : Notice) : Link :=
  if k.notices.length < Config.noticePlaces then { k with notices := k.notices ++ [n] }
  else
    { k with
      lost := true
      notices :=
        if n.body.cls != .info && k.notices.any (fun m => m.body.cls == .info) then
          k.notices.eraseP (fun m => m.body.cls == .info) ++ [n]
        else k.notices }

/-- The time stamp of a notice handed over now. -/
def Clock.stamp (c : Clock) : Option Nat := if c.isSet then some c.time else none

/-- A notice is handed over; an idle transmitter takes up what waits at once. -/
def linkNotice (b : NoticeBody) (s : State) : State :=
  s.onLnk fun k => (k.takeNotice { body := b, stamp := s.clk.stamp }).start

/-! ### Requests and answers (R184, R185) -/

/-- The answer list has room. -/
def Link.hasRoom (k : Link) : Bool := decide (k.answers.length < Config.answerPlaces)

/-- An answer enters the list; one that meets a full list is discarded. -/
def Link.putAnswer (k : Link) (a : Answer) : Link :=
  if k.hasRoom then { k with answers := k.answers ++ [a] } else k

/-- A good frame arrives: UNKNOWN_KIND and BUSY are answered where the list has room, else the request takes a place. -/
def linkArrive (kind tag : Nat) (order : Option Order) (s : State) : State :=
  let refuse (r : Reason) : State := s.onLnk fun k => (k.putAnswer ⟨kind, tag, .declined r []⟩).start
  if !requestKind kind then refuse .unknownKind
  else if Config.requestPlaces ≤ s.lnk.requests.length then refuse .busy
  else (s.onLnk fun k => { k with requests := k.requests ++ [⟨kind, tag, order⟩] }).post [.lnk .process]

/-- The request next in arrival order is processed: its form, a commit in progress, its owner (R184). R184 declines a
configuration order that arrives while a commit is in progress; the model looks at the commit when the request is processed,
so that an order which arrived before the commit began, or waited on a full answer list until the write had ended, is taken
by the commit state of that moment (log entry 84). -/
def linkProcess (s : State) : State :=
  match s.lnk.requests with
  | [] => s
  | r :: _ =>
    let answer (why : Reason) : State := s.post [.lnk (.answer r.kind r.tag (.declined why [])), .lnk .process]
    if !s.lnk.hasRoom then s
    else
      match r.order with
      | none => answer .badForm
      | some o => if o.configures && s.lnk.writing.isSome then answer .busy else s.post [.serve r.kind r.tag o]

/-- The owner's answer enters the answer list and the request's place is freed. -/
def linkAnswer (kind tag : Nat) (r : Result) (s : State) : State :=
  s.onLnk fun k => { k.putAnswer ⟨kind, tag, r⟩ with requests := k.requests.tail }.start

/-! ### The end of a frame (R186) -/

/-- The end of a frame: the next is chosen, and an answer taken leaves room for the request that waits (R184). -/
def linkSend (s : State) : State :=
  (s.onLnk Link.choose).post (if s.lnk.answers.isEmpty then [] else [.lnk .process])

/-! ### The receive assembler (R183) -/

/-- A byte met in HUNT. -/
def huntByte (b : Byte) : Assembler := if b = 0xA5 then .length else .hunt

/-- A gathered frame: its length byte and the n + 2 bytes after it; none where its CRC is bad. -/
def gatheredFrame (n : Nat) (bytes : List Byte) : Option (Nat × Nat × List Byte) :=
  let covered := BitVec.ofNat 8 n :: bytes.take n
  if bytes.drop n = crcBytes covered then
    some (((bytes[0]?).getD 0).toNat, ((bytes[1]?).getD 0).toNat, (bytes.take n).drop 2)
  else none

/-- A byte on the receive line. -/
def linkReceive (b : Byte) (framingError : Bool) (s : State) : State :=
  let phase (a : Assembler) : State := s.onLnk fun k => { k with assembler := a }
  if framingError then phase .hunt
  else
    match s.lnk.assembler with
    | .hunt => phase (huntByte b)
    | .length => if inRange 2 122 b.toNat then phase (.collect b.toNat []) else phase (huntByte b)
    | .collect n bytes =>
      let bytes := bytes ++ [b]
      if bytes.length < n + 2 then phase (.collect n bytes)
      else
        match gatheredFrame n bytes with
        | some (kind, tag, body) => linkArrive kind tag (parseOrder kind body) (phase .hunt)
        | none => phase .hunt

/-- A gap of more than 50 ms abandons a partial frame. -/
def linkGap (s : State) : State := s.onLnk fun k => { k with assembler := .hunt }

/-! ### Link reset (R187) -/

/-- A break of 100 ms: everything but the frame being sent and the store is emptied. -/
def Link.reset (k : Link) : Link :=
  { k with assembler := .hunt, requests := [], answers := [], notices := [], lost := true, count := 0 }

def linkBreak (s : State) : State := s.onLnk Link.reset

/-- An event handed to the service link. -/
def linkTake (m : LinkMsg) (s : State) : State :=
  match m with
  | .notice b => linkNotice b s
  | .answer kind tag r => linkAnswer kind tag r s
  | .process => linkProcess s

end Sys2Proof.Machine
end

