-- ==== Sys2Proof/Machine/Reports.lean ====
section
/-! DEFINITION. The enquiries: what each READ order reports, in the order its rule lists the fields (section 12.7; layout
choices are log entries 15 to 20), whole or in parts (R184). -/

namespace Sys2Proof.Machine

/-! ### Parts (R184) -/

/-- The bytes of a report that one part carries beside its part number and count. -/
def partBytes : Nat := Config.answerDataBytes - 2

/-- The count of parts of a report. -/
def partCount (data : List Byte) : Nat := max 1 ((data.length + (partBytes - 1)) / partBytes)

/-- Part `part` of a report, or OUT_OF_RANGE at or beyond the count. -/
def inParts (data : List Byte) (part : Nat) (s : State) : State × Result :=
  let count := partCount data
  if part < count then
    (s, .done false (field 1 part ++ field 1 count ++ (data.drop (part * partBytes)).take partBytes))
  else declined .outOfRange s

/-- A report in one answer. -/
def whole (data : List Byte) (s : State) : State × Result := (s, .done false data)

/-! ### Fields -/

/-- A field of several bytes that is absent, or none: then all ones. -/
def fieldOr {α : Type} (width : Nat) (o : Option α) (f : α → List Byte) : List Byte :=
  match o with
  | some a => f a
  | none => List.replicate width 255

/-- A whole number in a field; a free value where it does not fit, as one below 0 (log entry 7). -/
def intField (width : Nat) (i : Int) : List Byte :=
  if 0 ≤ i then field width i.toNat else bytesBE width (Config.openField width (256 ^ width + i.natAbs))

/-- The remaining time of a timer, all ones for a stopped one. -/
def timeField (width : Nat) (t : Timer) : List Byte := field? width t.left?

/-! ### The link and the chain -/

/-- The chain state of READ STATUS: eleven states, or NOT_CONFIGURED (R190). -/
def chainStatus (c : Chain) : Nat := if c.config.configured then c.state.code else 11

/-- READ STATUS (R190). -/
def orderReadStatus (s : State) : State × Result :=
  whole (flag s.lnk.storeValid ++ field 1 (if s.lnk.writing.isSome then 1 else 0) ++ flag s.clk.isSet ++
    field 1 (chainStatus s.chn) ++ field 1 s.fir.condition.code ++ field 1 s.prg.kind.code ++
    field? 1 (s.prg.step.map ProgrammeStep.code) ++ field 1 s.flp.lostCount ++ field 1 s.lnk.notices.length) s

def Gap.bytes (g : Gap) : List Byte := field 2 g.first ++ field 2 g.width ++ field 2 g.centre

def StopPlan.bytes (p : StopPlan) : List Byte :=
  maskField 2 p.set ++ maskField 2 p.late ++ field 2 p.x0 ++ field 3 p.stopping ++ field 3 p.advanceTo ++
    field 2 p.target ++ field 2 p.brakeAt ++ intField 3 p.advance ++ flag p.braked

def clearanceReport (s : State) : List Byte :=
  let c := s.chn
  let band (b : Nat) : List Byte := field? 2 (if c.config.configured then some b else none)
  flag c.config.configured ++ knownField c.known ++ field 2 c.x ++ band c.config.planningBand ++
    band c.config.acceptanceBand ++ listField s.clr.table Gap.bytes ++ fieldOr 20 c.plan StopPlan.bytes ++
    maskField 2 c.clearance ++ fieldOr 4 c.park fun p => maskField 2 p.set ++ field 2 p.position

/-- READ CLEARANCE (R41). -/
def orderReadClearance (part : Nat) (s : State) : State × Result := inParts (clearanceReport s) part s

/-! ### Shutters, supply, floors -/

def ShutterInputs.byte (i : ShutterInputs) : Byte :=
  BitVec.ofNat 8 (bit i.top 1 + bit i.bottom 2 + bit i.edge 4 + bit i.link 8)

def ShutterKind.bytes : ShutterKind → List Byte
  | .hall => field 1 0 ++ field? 1 none
  | .landing l => field 1 1 ++ field 1 l

/-- The record of READ SHUTTER (R65). The four inputs are one byte and the four outputs another, with the bits of the field
loop's images (log entry 78). -/
def shutterReport (r : Shutter) : List Byte :=
  let c := r.config
  field 1 c.floor ++ c.kind.bytes ++ field 1 c.node ++ field 1 c.slot ++ field 1 c.group ++ field 1 c.warning ++
    field 1 c.descent ++ field 2 c.raise ++ field 1 r.state.code ++ field? 1 (r.cause.map ShutterCause.code) ++
    field? 1 (r.observed.map Position.code) ++ field 1 r.arrests ++ flag r.forced ++ flag r.paused ++
    flag r.edgeIgnored ++ timeField 2 r.warningTimer ++ timeField 2 r.descentTimer ++ timeField 2 r.raiseTimer ++
    timeField 1 r.clearTimer ++ timeField 2 r.holdTimer ++ fieldOr 1 r.inputs (fun i => [i.byte]) ++ [r.outputByte]

/-- READ SHUTTER (R65): presence, then the record. -/
def orderReadShutter (n : Nat) (s : State) : State × Result :=
  if !decide (n ≤ 47) then declined .outOfRange s
  else
    match s.sht.get? n with
    | some r => whole (field 1 1 ++ shutterReport r) s
    | none => whole (field 1 0) s

def ownerBytes : MoveOwner → List Byte
  | .shutter n => field 1 0 ++ field 1 n
  | .chain => field 1 1 ++ field? 1 none

def Move.bytes (m : Move) : List Byte :=
  let left := match m.phase with
    | .settling n => some n
    | .running | .paused => none
  ownerBytes m.owner ++ field 1 m.kind.code ++ field 1 m.phase.code ++ field? 1 left

def Group.bytes (g : Group) : List Byte :=
  field 1 g.config.capacity ++ field 1 g.config.settle ++ listField g.moves Move.bytes ++
    listField g.queue fun q => ownerBytes q.owner ++ field 1 q.kind.code

def supplyReport (u : Supply) : List Byte :=
  field 1 u.mode.code ++ timeField 1 u.restartTimer ++ u.groups.flatMap Group.bytes ++ listField u.order ownerBytes

/-- READ SUPPLY (R76). -/
def orderReadSupply (part : Nat) (s : State) : State × Result := inParts (supplyReport s.sup) part s

def SweepConfirmation.bytes : SweepConfirmation → List Byte
  | .station n => field 1 0 ++ field 1 n
  | .order => field 1 1 ++ field? 1 none

/-- The landings of a floor, each with its side (R79). -/
def ChainConfig.ofFloor (c : ChainConfig) (f : Nat) : List (Nat × Bool) :=
  (presentWhere c.landings fun l => l.floor == f).filterMap fun n =>
    (present? c.landings n).map fun l => (n, l.up)

def floorReport (f : Nat) (r : Floor) (s : State) : List Byte :=
  field 1 r.state.code ++ maskField 1 r.config.zones ++ field 1 r.config.sweepTeam ++ field 1 r.config.wardenTeam ++
    field? 1 (s.fir.zoneOf f) ++
    listField (s.chn.config.ofFloor f) (fun l => field 1 l.1 ++ field 1 (if l.2 then 0 else 1)) ++ field 1 r.faulted ++
    fieldOr 2 r.confirmation SweepConfirmation.bytes ++ flag (s.sht.allClosed f) ++ flag (s.sht.settled f) ++
    flag (s.sht.allOpen f) ++
    listField (s.sht.ofFloor f) fun n =>
      field 1 n ++ (s.sht.get? n).elim [] fun r => field 1 r.state.code ++ field? 1 (r.observed.map Position.code)

/-- READ FLOOR (R91). -/
def orderReadFloor (f part : Nat) (s : State) : State × Result :=
  match s.flr.get? f with
  | some r => inParts (floorReport f r s) part s
  | none => declined .outOfRange s

/-! ### The sounder line and the calls -/

/-- A zone: all ones for free, or the sounding that holds it (R96, R110). -/
def zoneReport (u : Sounder) (z : Nat) : List Byte :=
  match u.holder? z with
  | none => field? 1 none
  | some p =>
    field 1 p.sounding.cls.code ++ field 1 p.sounding.pattern ++ p.sounding.origin.bytes ++
      field? 2 (if p.sounding.cls.isFire then none else some p.left)

def Sounding.bytes (x : Sounding) : List Byte :=
  field 1 x.cls.code ++ field 1 x.pattern ++ maskField 1 x.zones ++ field? 1 x.repeats ++ field 2 x.duration ++
    x.origin.bytes

def Reservation.bytes (r : Reservation) : List Byte :=
  field 1 r.cue ++ field 3 r.start ++ field 3 r.finish ++ field 2 r.lead ++ maskField 1 r.zones

/-- The report of READ SOUNDER; the team order list is a count byte and its twelve teams (log entry 19). -/
def sounderReport (u : Sounder) : List Byte :=
  (List.range 8).flatMap (zoneReport u) ++ listField u.queue Sounding.bytes ++
    listField u.reservations Reservation.bytes ++ listField u.teamOrder (field 1)

/-- READ SOUNDER (R110). -/
def orderReadSounder (part : Nat) (s : State) : State × Result := inParts (sounderReport s.snd) part s

/-- A call of READ CALLS (R118, R130). A mark of a class that does not have it is clear, and reported as 0: urgent-barred of a
SWEEP or WARDEN call, lamp-only of any but a WARDEN call (log entry 56). -/
def Call.bytes (r : Call) : List Byte :=
  field 2 r.number ++ field 1 r.cls.code ++ r.origin.bytes ++ field 1 r.team ++ field? 1 r.member ++
    field 1 r.phase.code ++ timeField 2 r.roundTimer ++ field 1 r.rounds ++ field 1 r.escalations ++ flag r.barred ++
    flag r.lampOnly

/-- A present station of READ CALLS, led by its number (R130; log entry 57). -/
def stationReport (c : Calls) (n : Nat) (st : Station) : List Byte :=
  field 1 n ++ field 1 st.config.floor ++ st.config.buttons.flatMap (field? 1) ++ field 1 (c.lamp n).code ++
    field 1 (c.concernCount n) ++ st.spent.flatMap flag ++ st.openCall.flatMap (field? 2)

def callTimingBytes (t : CallTimingFields) : List Byte :=
  field 1 t.repeats ++ field 1 t.rounds ++ field 2 t.interval ++ field 1 t.escalations

def callsReport (c : Calls) : List Byte :=
  listField c.calls Call.bytes ++
    listField (presentWhere c.stations fun _ => true) (fun n => (c.station? n).elim [] (stationReport c n)) ++
    c.teams.flatMap (fun t => listField t.ring (field 1) ++ field 1 t.pointer ++ field 1 t.pattern) ++
    c.staff.flatMap (fun m => field 1 m.pattern ++ flag m.onDuty ++ field? 2 m.assigned) ++ callTimingBytes c.timing

/-- READ CALLS (R130). -/
def orderReadCalls (part : Nat) (s : State) : State × Result := inParts (callsReport s.cal) part s

/-! ### Clock, programme, fire, nodes -/

def CueConfig.bytes (c : CueConfig) : List Byte :=
  flag c.enabled ++ field 3 c.time ++ maskField 1 c.days ++ field 1 c.pattern ++ maskField 1 c.zones ++
    field 1 c.repeats ++ field 1 c.retryInterval ++ field 1 c.retryLimit

def Cue.bytes (q : Cue) : List Byte :=
  q.config.bytes ++ field 1 q.phase.code ++ occurrenceField q.occurrence ++
    field? 3 (if q.phase = .waiting then some q.lead else none) ++ field 1 q.retries

def clockReport (c : Clock) : List Byte :=
  flag c.isSet ++ field 3 c.time ++ field 1 c.day ++ c.cues.flatMap Cue.bytes

/-- READ CLOCK (R140). -/
def orderReadClock (part : Nat) (s : State) : State × Result := inParts (clockReport s.clk) part s

def programmeFieldBytes (f : ProgrammeFields) : List Byte :=
  fields [(1, f.street), (1, f.firstPattern), (1, f.secondPattern), (1, f.finalPattern), (1, f.openingPattern),
    (2, f.gap1), (2, f.gap2), (2, f.finalGap), (2, f.sweepRound), (2, f.sweepTimeout), (1, f.dwell)]

/-- The last report of the programme sounding: QUEUED, or STARTED (R143). -/
def soundReportCode (r : SoundReport) : Nat := if r = .started then 1 else 0

def LastOutcome.bytes (l : LastOutcome) : List Byte := field 1 l.outcome.code ++ field 1 l.step.code ++ field? 1 l.cursor

/-- READ PROGRAMME (R157). The floors opened are given for an opening programme and, once none runs, as the record keeps
them; all ones while a closing programme runs (log entry 60). The placing retry is one time, all ones while it does not run
(log entry 74), and the programme sounding is the code of its last report (log entry 75). -/
def programmeReportBytes (p : Programme) : List Byte :=
  programmeFieldBytes p.settings ++ field 1 p.kind.code ++ field? 1 (p.step.map ProgrammeStep.code) ++ listField p.floors (field 1) ++
    field? 1 p.cursor ++ field? 1 (p.sounding.map soundReportCode) ++ timeField 2 p.deadline ++ field? 2 p.sweepCall ++
    timeField 2 p.placingRetry ++ flag p.chainWasRunning ++ flag p.overdue ++ maskField 1 p.faulted ++
    maskField 1 p.skipped ++ field? 1 (if p.kind = .closing then none else some (setMask p.opened)) ++
    fieldOr 3 p.last LastOutcome.bytes

/-- READ PROGRAMME (R157). -/
def orderReadProgramme (s : State) : State × Result := whole (programmeReportBytes s.prg) s

/-- A present input of READ FIRE, led by its number (R170; log entry 63). -/
def detectorReport (n : Nat) (d : Detector) : List Byte :=
  field 1 n ++ field 1 d.config.node ++ field 1 d.config.slot ++ field 1 d.config.zone ++
    field 1 (if d.config.manual then 1 else 0) ++ field 1 d.state.code

def fireFieldBytes (f : FireFields) : List Byte :=
  fields [(1, f.evacuate), (1, f.alert), (1, f.confirm), (2, f.delay), (2, f.acknowledge)]

def fireReportBytes (f : Fire) : List Byte :=
  field 1 f.condition.code ++ timeField 2 f.delayTimer ++ timeField 2 f.ackTimer ++ timeField 1 f.pulseTimer ++
    flag f.brigade ++ field 2 f.pulses ++
    f.zones.flatMap (fun z => maskField 1 z.floors ++ field 1 z.state.code ++ timeField 1 z.confirmTimer) ++
    listField (presentWhere f.inputs fun _ => true) (fun n => (f.input? n).elim [] (detectorReport n)) ++
    maskField 2 f.held ++ fireFieldBytes f.settings

/-- READ FIRE (R170). -/
def orderReadFire (part : Nat) (s : State) : State × Result := inParts (fireReportBytes s.fir) part s

/-- READ NODE (R181); an unconfigured address is all ones. -/
def orderReadNode (a : Nat) (s : State) : State × Result :=
  if !inRange 1 64 a then declined .outOfRange s
  else
    match s.flp.node? a with
    | none => whole (field? 1 none) s
    | some n =>
      let out := s.outputImage a
      whole (field 1 n.kind.code ++ field 1 n.state.code ++ field 1 n.misses ++
        fieldOr 2 n.image (fun i => [i.byte0, i.byte1]) ++ [out.byte0, out.byte1] ++ flag (s.motionSet.contains a)) s

end Sys2Proof.Machine
end

