-- ==== Sys2Proof/Machine/Shutter.lean ====
section
/-! DEFINITION. SHT, the shutter controller (chapter 3): the one way a record changes state, the drop and the raise, the
events of inputs and timers, faults, and the orders it answers. -/

namespace Sys2Proof.Machine

/-! ### Changes of state -/

/-- Every timer stopped, the paused and edge-ignored marks clear. -/
def Shutter.quiet (r : Shutter) : Shutter :=
  { r with warningTimer := .stopped, descentTimer := .stopped, raiseTimer := .stopped, clearTimer := .stopped
           holdTimer := .stopped, paused := false, edgeIgnored := false }

/-- The record in a state with its timers stopped; entry to OPEN or PART_OPEN clears the forced mark (R42). -/
def Shutter.goTo (r : Shutter) (st : ShutterState) : Shutter :=
  { r.quiet with state := st, forced := r.forced && st != .opened && st != .partOpen }

/-- The held-still state of the position last read (R46, R49, R53, R54): TOP is OPEN, BOTTOM is CLOSED, BETWEEN is
PART_OPEN. A held shutter at BOTH is in FAULT already. R49, R53, R56 and R66 do not name every position for every state
that returns so; the model returns each by its position (log entry 48). -/
def Shutter.stillState (r : Shutter) : ShutterState :=
  match r.position with
  | .top => .opened
  | .bottom => .closed
  | .between => .partOpen
  | .both => .partOpen

def Shutters.set (t : Shutters) (n : Nat) (r : Option Shutter) : Shutters := { t with table := t.table.set n r }

/-- The record of shutter `n` becomes `r`. Its exit from or entry to AWAIT_CLEAR, the change of a landing shutter's state
and the change for its floor are handed on, in that order (R47, R63). -/
def shutterAlter (n : Nat) (old r : Shutter) (s : State) : State :=
  let permitted := s.sht.permit
  let leaves := if old.state = .awaitClear && r.state != .awaitClear then
      old.landing?.toList.map fun l => Msg.chn (.leave l) else []
  let joins := if r.state = .awaitClear && old.state != .awaitClear then
      r.landing?.toList.map fun l => Msg.chn (.join l) else []
  let chain := if r.isLanding && old.state != r.state then
      [Msg.chn (.shutterChanged permitted (r.state == .fault))] else []
  let floor := if old.state != r.state || old.observed != r.observed then
      [Msg.flr (.shutterChanged r.config.floor n old.state r.state)] else []
  (s.onSht fun t => t.set n (some r)).post (leaves ++ joins ++ chain ++ floor)

/-- Shutter `n` changes as `f` says; an absent record takes part in nothing (R42). -/
def shutterChange (n : Nat) (f : Shutter → Shutter) (s : State) : State :=
  match s.sht.get? n with
  | some r => shutterAlter n r (f r) s
  | none => s

/-- Entry to DESCENDING from WARNING (R50). -/
def Shutter.descend (r : Shutter) : Shutter :=
  { r.quiet with state := .descending, arrests := 0, descentTimer := Timer.start r.config.descent }

/-- Entry to WARNING; with a warning time of 0, to DESCENDING at the same moment (R49). -/
def shutterWarn (n : Nat) (s : State) : State :=
  let s := shutterChange n (fun r => { r.quiet with state := .warning, warningTimer := Timer.start r.config.warning }) s
  if (s.sht.get? n).any fun r => r.config.warning == 0 then shutterChange n Shutter.descend s else s

/-- A shutter at rest and held up begins its drop: WARNING, or AWAIT_CLEAR where the chain does not stand clear (R46). -/
def shutterFall (n : Nat) (s : State) : State :=
  match (s.sht.get? n).bind Shutter.landing? with
  | none => shutterWarn n s
  | some l =>
    if s.chn.parkedClearOf l then shutterWarn n s
    else shutterChange n (fun r => { r.quiet with state := .awaitClear }) s

/-- A drop (R46). -/
def shutterDrop (n : Nat) (s : State) : State × Result :=
  match s.sht.get? n with
  | none => declined .notConfigured s
  | some r =>
    match r.state with
    | .opened | .partOpen => taken (shutterFall n s)
    | .waitSupply =>
      let s := s.ask [.withdraw (.shutter n)]
      if r.position = .bottom then done (shutterChange n (fun r => r.goTo .closed) s) else taken (shutterFall n s)
    | .raising => taken (shutterFall n (s.post [.sup (.ended (.shutter n))]))
    | .awaitClear | .warning | .descending | .arrested => taken s
    | .closed => done s
    | .fault | .unseen => declined .wrongState s

/-! ### Faults (R59) -/

/-- The hold coil in FAULT: released, held, or as it stood at entry, by the cause. -/
def Shutter.coilAfter (r : Shutter) (cause : ShutterCause) : Bool :=
  match cause with
  | .descentTimeout | .uncommandedDrop | .linkMelted => false
  | .raiseTimeout | .uncommandedRise => true
  | .limitsBoth | .nodeLost => r.outputs.coil

/-- A queued raise is withdrawn, a running or paused one ends (R56). -/
def shutterLeaveSupply (n : Nat) (r : Shutter) (s : State) : State :=
  match r.state with
  | .waitSupply => s.ask [.withdraw (.shutter n)]
  | .raising => s.post [.sup (.ended (.shutter n))]
  | _ => s

/-- The record as it stands in FAULT; the observed position may be BOTH (log entry 47). -/
def Shutter.faulted (r : Shutter) (cause : ShutterCause) : Shutter :=
  { r.quiet with state := .fault, cause := some cause, observed := some r.position, faultCoil := r.coilAfter cause }

/-- Entry to FAULT (R59). -/
def shutterFault (n : Nat) (cause : ShutterCause) (s : State) : State :=
  match s.sht.get? n with
  | none => s
  | some r =>
    let s := shutterLeaveSupply n r s
    (shutterAlter n r (r.faulted cause) s).notify (.shutterFault n cause r.position r.state)

/-! ### Raises -/

/-- The raise checks (R53). -/
def shutterRaise (n : Nat) (s : State) : State × Result :=
  match s.sht.get? n with
  | none => declined .notConfigured s
  | some r =>
    if fireLocked s.flr s.fir.condition r then declined .fireLock s
    else
      match r.state with
      | .opened => done s
      | .awaitClear | .warning => done (shutterChange n (fun r => r.goTo r.stillState) s)
      | .closed | .partOpen =>
        if r.isLanding && s.chn.state.moving then declined .chainMoving s
        else if s.sup.full (.shutter n) r.config.group then declined .queueFull s
        else
          taken ((shutterChange n (fun r => { r.quiet with state := .waitSupply }) s).request
            (.shutter n) .raise r.config.group)
      | .unseen | .descending | .arrested | .waitSupply | .raising | .fault => declined .wrongState s

/-- A raise that is not an answered order: a full queue sends RAISE_REFUSED (R53). -/
def shutterRaiseQuiet (n : Nat) (s : State) : State :=
  match shutterRaise n s with
  | (s', .declined .queueFull _) => s'.notify (.raiseRefused n)
  | (s', _) => s'

/-- A shutter that stands OPEN or PART_OPEN under a fire lock is at once dropped (R45, R54, R61). -/
def shutterFireDrop (n : Nat) (s : State) : State :=
  match s.sht.get? n with
  | none => s
  | some r =>
    if (r.state = .opened || r.state = .partOpen) && fireLocked s.flr s.fir.condition r then (shutterDrop n s).1 else s

/-- A raise is admitted: checked again, it starts or its slot is released (R54); RAISE_ABANDONED is sent after the release
and the next head's admission (log entry 80). -/
def shutterAdmitted (n : Nat) (s : State) : State :=
  match s.sht.get? n with
  | none => s.post [.sup (.released (.shutter n))]
  | some r =>
    let lock := fireLocked s.flr s.fir.condition r
    if r.state != .waitSupply then s.post [.sup (.released (.shutter n))]
    else if lock || (r.isLanding && s.chn.state.moving) then
      let s := s.post [.sup (.released (.shutter n))]
      let s := shutterChange n (fun r => r.goTo r.stillState) s
      let s := s.notify (.raiseAbandoned n (if lock then .fireLock else .chainMoving))
      shutterFireDrop n s
    else shutterChange n (fun r => { r.quiet with state := .raising, raiseTimer := Timer.start r.config.raise }) s

/-- A mains dip pauses the raise (R55). -/
def shutterPaused (n : Nat) (s : State) : State :=
  shutterChange n
    (fun r => if r.state = .raising && !r.paused then { r with paused := true, raiseTimer := r.raiseTimer.freeze } else r) s

/-- The raise is restarted after a dip (R55). -/
def shutterRestarted (n : Nat) (s : State) : State :=
  shutterChange n
    (fun r => if r.state = .raising && r.paused then { r with paused := false, raiseTimer := r.raiseTimer.resume } else r) s

/-! ### Inputs -/

/-- A change of position is downward (R43). -/
def downward (old new : Position) : Bool :=
  match old, new with
  | .top, .between | .top, .bottom | .between, .bottom => true
  | _, _ => false

/-- Arrival at BOTTOM ends the descent (R50, R51). -/
def shutterClose (n : Nat) (r : Shutter) (s : State) : State :=
  (shutterAlter n r (r.goTo .closed) s).notify (.shutterClosed n r.arrests r.forced)

/-- Arrival at TOP ends the raise (R54). -/
def shutterOpened (n : Nat) (r : Shutter) (s : State) : State :=
  let s := s.post [.sup (.ended (.shutter n))]
  (shutterAlter n r (r.goTo .opened) s).notify (.shutterOpen n)

/-- A change of position, taken by the shutter's state (R50, R51, R54, R57). -/
def shutterMoved (n : Nat) (old : Position) (s : State) : State :=
  match s.sht.get? n with
  | none => s
  | some r =>
    let new := r.position
    match r.state with
    | .unseen => s
    | .fault => shutterAlter n r { r with observed := some new } s
    | .opened | .awaitClear | .warning | .partOpen | .waitSupply | .closed =>
      if new = .both then shutterFault n .limitsBoth s
      else if downward old new then shutterFault n .uncommandedDrop s
      else shutterFault n .uncommandedRise s
    | .descending | .arrested =>
      if new = .both then shutterFault n .limitsBoth s
      else if new = .bottom then shutterClose n r s
      else if downward old new then s
      else shutterFault n .uncommandedRise s
    | .raising =>
      if new = .both then shutterFault n .limitsBoth s
      else if new = .top then shutterOpened n r s
      else if downward old new then shutterFault n .uncommandedDrop s
      else s

/-- The descent goes on from an arrest: brake off, clear and hold timers stopped, descent timer running on (R51, R52). -/
def Shutter.resumeDescent (r : Shutter) : Shutter :=
  { r with state := .descending, clearTimer := .stopped, holdTimer := .stopped, descentTimer := r.descentTimer.resume }

/-- The fourth obstruction of a descent, or 60 s in ARRESTED (R52). -/
def shutterFourth (n : Nat) (s : State) : State :=
  match s.sht.get? n with
  | none => s
  | some r =>
    if fireLocked s.flr s.fir.condition r then
      (shutterAlter n r { r.resumeDescent with edgeIgnored := true } s).notify (.edgeOverridden n r.arrests)
    else if s.sup.full (.shutter n) r.config.group then
      (shutterAlter n r (r.goTo .partOpen) s).notify (.obstructed n r.arrests true)
    else
      ((shutterAlter n r { r.quiet with state := .waitSupply } s).request (.shutter n) .raise r.config.group).notify
        (.obstructed n r.arrests false)

/-- The record arrested by its edge (R50, R51). -/
def Shutter.arrest (r : Shutter) : Shutter :=
  { r with state := .arrested, arrests := r.arrests + 1, edgeIgnored := false, descentTimer := r.descentTimer.freeze
           holdTimer := Timer.start 60, clearTimer := if r.edge then .stopped else Timer.start 2 }

/-- A change of the obstruction edge (R50, R51). -/
def shutterEdge (n : Nat) (s : State) : State :=
  match s.sht.get? n with
  | none => s
  | some r =>
    match r.state with
    | .descending =>
      if !r.edge || r.edgeIgnored then s
      else if r.arrests < 3 then (shutterAlter n r r.arrest s).notify (.shutterArrested n (r.arrests + 1))
      else shutterFourth n s
    | .arrested =>
      shutterAlter n r { r with clearTimer := if r.edge then .stopped else Timer.start 2 } s
    | _ => s

/-- A change of the fusible link (R58). -/
def shutterLink (n : Nat) (s : State) : State :=
  match s.sht.get? n with
  | none => s
  | some r =>
    if !r.melted then s
    else
      match r.state with
      | .opened | .awaitClear | .warning | .partOpen | .waitSupply | .raising => shutterFault n .linkMelted s
      | .descending | .arrested | .closed | .fault => s.notify (.linkMelted n r.state)
      | .unseen => s

/-- The record takes new inputs. -/
def shutterRead (n : Nat) (i : ShutterInputs) (s : State) : State :=
  match s.sht.get? n with
  | some r => s.onSht fun t => t.set n (some { r with inputs := some i })
  | none => s

/-- The field loop master hands on changed inputs: position, edge and link are then taken in that order (R43). In UNSEEN
they have no effect (R45). -/
def shutterInputs (n : Nat) (i : ShutterInputs) (s : State) : State :=
  match s.sht.get? n with
  | none => s
  | some r =>
    match r.inputs with
    | none => shutterRead n i s
    | some o =>
      let position := if o.position = i.position then [] else [Msg.sht (.position n o.position)]
      let edge := if o.edge = i.edge then [] else [Msg.sht (.edge n)]
      let link := if o.link = i.link then [] else [Msg.sht (.link n)]
      (shutterRead n i s).post (position ++ edge ++ link)

/-- An UNSEEN shutter is placed by its first image (R45). -/
def shutterPlace (n : Nat) (s : State) : State :=
  match s.sht.get? n with
  | none => s
  | some r =>
    let fresh : Shutter := { r.quiet with arrests := 0, forced := false }
    let s :=
      if r.position = .both then shutterFault n .limitsBoth (s.onSht fun t => t.set n (some fresh))
      else shutterAlter n r (fresh.goTo fresh.stillState) s
    let reached := if r.position = .both then ShutterState.fault else r.stillState
    let s := s.notify (.shutterSeen n reached)
    shutterFireDrop n (shutterLink n s)

/-- The node's first image after it came into view: an UNSEEN shutter is placed, one in FAULT takes its observed position
from it, and the inputs of another are only recorded (R45, R60, R177). -/
def shutterFound (n : Nat) (i : ShutterInputs) (s : State) : State :=
  match s.sht.get? n with
  | none => s
  | some r =>
    match r.state with
    | .unseen => shutterPlace n (shutterRead n i s)
    | .fault =>
      let s := shutterRead n i s
      shutterChange n (fun r => { r with observed := some r.position }) s
    | _ => shutterRead n i s

/-- The node is declared LOST (R60). -/
def shutterLost (n : Nat) (s : State) : State :=
  match s.sht.get? n with
  | none => s
  | some r =>
    match r.state with
    | .unseen | .fault => s
    | _ => shutterFault n .nodeLost s

/-! ### The park record and service reset -/

/-- The park record has changed: each shutter it releases is taken in turn (R47), in rising number (log entry 66). -/
def shutterParkChanged (s : State) : State :=
  s.post ((presentWhere s.sht.table fun r =>
    r.state == .awaitClear && r.landing?.any s.chn.parkedClearOf).map fun n => Msg.sht (.release n))

/-- A shutter leaves AWAIT_CLEAR for WARNING while the chain is PARKED clear of its landing (R47). -/
def shutterRelease (n : Nat) (s : State) : State :=
  match s.sht.get? n with
  | none => s
  | some r => if r.state = .awaitClear && r.landing?.any s.chn.parkedClearOf then shutterWarn n s else s

/-- One shutter's part in a service reset (R66); each returns by its position, TOP from WAIT_SUPPLY too (log entry 48). -/
def shutterServiceOne (n : Nat) (s : State) : State :=
  match s.sht.get? n with
  | none => s
  | some r =>
    match r.state with
    | .awaitClear | .warning => shutterChange n (fun r => r.goTo r.stillState) s
    | .waitSupply => shutterChange n (fun r => r.goTo r.stillState) (shutterLeaveSupply n r s)
    | .raising => shutterChange n (fun r => r.goTo .partOpen) (shutterLeaveSupply n r s)
    | .unseen | .opened | .descending | .arrested | .closed | .partOpen | .fault => s

/-- The shutters' part in a service reset (R66), in rising number (log entry 66). -/
def shutterServiceReset (s : State) : State :=
  (List.range s.sht.table.length).foldl (fun s n => shutterServiceOne n s) s

/-- An event handed to the shutter controller. -/
def shutterTake (m : ShutterMsg) (s : State) : State :=
  match m with
  | .drop n => (shutterDrop n s).1
  | .raise n => shutterRaiseQuiet n s
  | .parkChanged => shutterParkChanged s
  | .release n => shutterRelease n s
  | .admitted n => shutterAdmitted n s
  | .paused n => shutterPaused n s
  | .restarted n => shutterRestarted n s
  | .inputs n i => shutterInputs n i s
  | .position n old => shutterMoved n old s
  | .edge n => shutterEdge n s
  | .link n => shutterLink n s
  | .found n i => shutterFound n i s
  | .lost n => shutterLost n s
  | .serviceReset => shutterServiceReset s

/-! ### Timers -/

/-- The warning timer expires (R49). -/
def shutterWarningExpiry (n : Nat) (s : State) : State :=
  if (s.sht.get? n).any fun r => r.state == .warning && r.warningTimer.isRunning then shutterChange n Shutter.descend s
  else s

/-- The descent timer expires (R50). -/
def shutterDescentTimeout (n : Nat) (s : State) : State :=
  if (s.sht.get? n).any fun r => r.state == .descending && r.descentTimer.isRunning then
    shutterFault n .descentTimeout s
  else s

/-- The clear timer expires (R51). -/
def shutterClearExpiry (n : Nat) (s : State) : State :=
  if (s.sht.get? n).any fun r => r.state == .arrested && r.clearTimer.isRunning then
    shutterChange n Shutter.resumeDescent s
  else s

/-- The hold timer expires (R51, R52). -/
def shutterHoldExpiry (n : Nat) (s : State) : State :=
  if (s.sht.get? n).any fun r => r.state == .arrested && r.holdTimer.isRunning then shutterFourth n s else s

/-- The raise timer expires (R54). -/
def shutterRaiseTimeout (n : Nat) (s : State) : State :=
  if (s.sht.get? n).any fun r => r.state == .raising && r.raiseTimer.isRunning then shutterFault n .raiseTimeout s
  else s

/-! ### Orders -/

/-- An order is taken for shutter `n`: OUT_OF_RANGE outside 0 to 47, NOT_CONFIGURED for an absent record (R42). -/
def withShutter (n : Nat) (s : State) (f : Shutter → State × Result) : State × Result :=
  if !decide (n ≤ 47) then declined .outOfRange s
  else
    match s.sht.get? n with
    | none => declined .notConfigured s
    | some r => f r

/-- DROP SHUTTER (R46). -/
def orderDropShutter (n : Nat) (s : State) : State × Result := withShutter n s fun _ => shutterDrop n s

/-- RAISE SHUTTER (R53). -/
def orderRaiseShutter (n : Nat) (s : State) : State × Result := withShutter n s fun _ => shutterRaise n s

/-- FORCE DROP (R48): WRONG_STATE before CHAIN_MOVING where both reasons hold (log entry 22). -/
def orderForceDrop (n : Nat) (s : State) : State × Result :=
  withShutter n s fun r =>
    if !r.isLanding || r.state != .awaitClear then declined .wrongState s
    else if !s.chn.stationary then declined .chainMoving s
    else taken (shutterWarn n (s.onSht fun t => t.set n (some { r with forced := true })))

/-- CLEAR SHUTTER FAULT (R61). -/
def orderClearShutterFault (n : Nat) (s : State) : State × Result :=
  withShutter n s fun r =>
    if r.state != .fault || !s.flp.isPresent r.config.node || r.position = .both || r.melted then
      declined .wrongState s
    else
      let clear : Shutter := { r with cause := none, observed := none, arrests := 0, faultCoil := false }
      let s := shutterAlter n r (clear.goTo clear.stillState) s
      done (shutterFireDrop n (s.notify (.faultCleared n clear.stillState)))

/-- A SET SHUTTER finds the record in use (R64). -/
def ShutterState.inUse : ShutterState → Bool
  | .awaitClear | .warning | .descending | .arrested | .waitSupply | .raising => true
  | _ => false

/-- The fields that decline a SET SHUTTER OUT_OF_RANGE (R64). -/
def shutterFieldsInRange (f : ShutterFields) (s : State) : Bool :=
  decide (f.floor ≤ 7) && decide (f.kind ≤ 1) && landingOnFloor s.chn.config.landings f.kindOf f.floor &&
    s.flp.isKind f.node .shutter && decide (f.slot ≤ 1) && decide (f.group ≤ 7)

/-- A record freshly set: UNSEEN, every timer stopped, every mark clear (R64), and no inputs received: those of an earlier
record are forgotten, and READ SHUTTER gives all ones for them (log entry 49). -/
def ShutterConfig.fresh (c : ShutterConfig) : Shutter :=
  { config := c, state := .unseen, cause := none, observed := none, arrests := 0, forced := false, paused := false
    edgeIgnored := false, warningTimer := .stopped, descentTimer := .stopped, raiseTimer := .stopped
    clearTimer := .stopped, holdTimer := .stopped, inputs := none, faultCoil := false }

/-- The record is replaced or removed, reported as a change of state for the old floor and the new (R64, R80). -/
def shutterReplace (n : Nat) (old new : Option Shutter) (s : State) : State :=
  let permitted := s.sht.permit
  let landing := old.any Shutter.isLanding || new.any Shutter.isLanding
  let floors := (old.toList ++ new.toList).map fun r => Msg.flr (.recheck r.config.floor)
  (s.onSht fun t => t.set n new).post
    ((if landing then [Msg.chn (.shutterChanged permitted false)] else []) ++ floors)

/-- SET SHUTTER (R64). -/
def orderSetShutter (n : Nat) (fields : Option ShutterFields) (s : State) : State × Result :=
  let old := s.sht.get? n
  if !decide (n ≤ 47) then declined .outOfRange s
  else if s.prg.kind != .none then declined .busy s
  else if old.any fun r => r.state.inUse then declined .wrongState s
  else
    match fields with
    | none => done (shutterReplace n old none s)
    | some f =>
      if !shutterFieldsInRange f s then declined .outOfRange s
      else if !((presentWhere s.sht.table fun r => r.config.node == f.node && r.config.slot == f.slot).all (· == n)) then
        declined .inUse s
      else doneClamped f.clamps (shutterReplace n old (some f.config.fresh) s)

end Sys2Proof.Machine
end

