-- ==== Sys2Proof/Machine/Supply.lean ====
section
/-! DEFINITION. SUP, the supply admission unit (chapter 4): requests, the admission pass, move ends, the mains dip, and
SET SUPPLY GROUP. -/

namespace Sys2Proof.Machine

/-! ### Groups -/

def Supply.modify (u : Supply) (g : Nat) (f : Group → Group) : Supply := { u with groups := u.groups.modify g f }

/-- The move is RUNNING or PAUSED (R67). -/
def Move.active (m : Move) : Bool := m.phase == .running || m.phase == .paused

/-- The group in whose queue the owner waits. -/
def Supply.queuedIn (u : Supply) (owner : MoveOwner) : Option Nat :=
  (numbersWhere u.groups fun g => g.queue.any fun q => q.owner == owner).head?

/-- The group in which a move of the owner is RUNNING or PAUSED. -/
def Supply.activeIn (u : Supply) (owner : MoveOwner) : Option Nat :=
  (numbersWhere u.groups fun g => g.moves.any fun m => m.owner == owner && m.active).head?

/-- The owner is told that its request is admitted (R69). -/
def admittedMsg (q : MoveRequest) : Msg :=
  match q.owner, q.kind with
  | .shutter n, _ => .sht (.admitted n)
  | .chain, .chain k => .chn (.admitted k)
  | .chain, .raise => .chn (.admitted .start)

/-- Another owner's request has left the queue of the chain's group (R14). -/
def queueMovedMsgs (s : State) (owner : MoveOwner) (g : Nat) : List Msg :=
  if owner != .chain && g == s.chn.group then [.chn .queueMoved] else []

/-! ### Requests and admission -/

/-- A request enters its group's queue, the chain's at the head and a shutter's at the tail (R68). The owner has met the
refusal of a full queue at the event that asks (`Supply.full`), and no other block takes anything in between, so its place
is free here; the group's admission pass comes next (`State.request`). -/
def supplyRequest (owner : MoveOwner) (kind : MoveKind) (g : Nat) (s : State) : State :=
  match s.sup.group? g with
  | none => s
  | some r =>
    if (r.queue.any fun q => q.owner == owner) || decide (Config.moveQueuePlaces ≤ r.queue.length) then s
    else
      let q : MoveRequest := ⟨owner, kind⟩
      s.onSup fun u => u.modify g fun r =>
        { r with queue := if owner = .chain then q :: r.queue else r.queue ++ [q] }

/-- One turn of the admission pass: the head is admitted while the supply is STEADY and the group has a free slot, its
owner is told, and the pass goes on (R69). A chain whose refused creep is taken up by this admission (R14) asks before the
next turn (log entry 79). -/
def supplyPass (g : Nat) (s : State) : State :=
  match s.sup.group? g with
  | none => s
  | some r =>
    match r.queue with
    | [] => s
    | q :: rest =>
      if s.sup.mode = .steady && decide (r.moves.length < r.config.capacity) then
        let moves := r.moves ++ [{ owner := q.owner, kind := q.kind, phase := .running }]
        (s.onSup fun u =>
          { u.modify g fun r => { r with queue := rest, moves := moves } with order := u.order ++ [q.owner] }).post
          ([admittedMsg q] ++ queueMovedMsgs s q.owner g ++ [.sup (.pass g)])
      else s

/-- A queued request is withdrawn; the pass is not run (R71). -/
def supplyWithdraw (owner : MoveOwner) (s : State) : State :=
  match s.sup.queuedIn owner with
  | none => s
  | some g =>
    (s.onSup fun u => u.modify g fun r => { r with queue := r.queue.filter fun q => q.owner != owner }).post
      (queueMovedMsgs s owner g)

/-- The owner's active move leaves the set without settle, and the pass is run (R69). -/
def supplyReleased (owner : MoveOwner) (s : State) : State :=
  match s.sup.activeIn owner with
  | none => s
  | some g =>
    (s.onSup fun u =>
      { u.modify g fun r => { r with moves := r.moves.filter fun m => !(m.owner == owner && m.active) } with
        order := u.order.filter fun o => o != owner }).post [.sup (.pass g)]

/-- The owner's active move ends and settles; with a settle time of 0 it leaves the set at once (R70). -/
def supplyEnded (owner : MoveOwner) (s : State) : State :=
  match (s.sup.activeIn owner).bind fun g => (s.sup.group? g).map fun r => (g, r.config.settle) with
  | none => s
  | some (g, settle) =>
    if settle = 0 then supplyReleased owner s
    else
      s.onSup fun u =>
        { u.modify g fun r =>
            { r with moves := r.moves.map fun m =>
                       if m.owner == owner && m.active then { m with phase := .settling (Config.seconds settle) }
                       else m } with
          order := u.order.filter fun o => o != owner }

/-- The supply unit's part in a service reset: every queued request is withdrawn (R77). -/
def supplyServiceReset (s : State) : State :=
  s.onSup fun u => { u with groups := u.groups.map fun r => { r with queue := [] } }

/-- An event handed to the supply admission unit. -/
def supplyTake (m : SupplyMsg) (s : State) : State :=
  match m with
  | .request owner kind g => supplyRequest owner kind g s
  | .withdraw owner => supplyWithdraw owner s
  | .ended owner => supplyEnded owner s
  | .released owner => supplyReleased owner s
  | .pass g => supplyPass g s
  | .serviceReset => supplyServiceReset s

/-! ### Settle and the mains dip -/

/-- The move is SETTLING (R67). -/
def Move.settles (m : Move) : Bool := !m.active

/-- The first move of the owner that settles is taken out. -/
def dropSettled (owner : MoveOwner) : List Move → List Move
  | [] => []
  | m :: l => if m.owner == owner && m.settles then l else m :: dropSettled owner l

/-- A move's settle time runs out (R70). -/
def supplySettleExpiry (g : Nat) (owner : MoveOwner) (s : State) : State :=
  if (s.sup.group? g).any fun r => r.moves.any fun m => m.owner == owner && m.settles then
    (s.onSup fun u => u.modify g fun r => { r with moves := dropSettled owner r.moves }).post [.sup (.pass g)]
  else s

/-- A RAISE move in phase RUNNING. -/
def Move.running (m : Move) : Bool := m.kind == .raise && m.phase == .running

/-- The owners whose raises a dip pauses, in admission order (R72). -/
def Supply.toPause (u : Supply) : List MoveOwner :=
  u.order.filter fun o => u.groups.any fun g => g.moves.any fun m => m.owner == o && m.running

def pausedMsg : MoveOwner → List Msg
  | .shutter n => [.sht (.paused n)]
  | .chain => []

/-- The dip input asserts (R72, R74). SUPPLY_DIP counts the moves this dip pauses, not those an earlier one has left
PAUSED (log entry 50). -/
def supplyDipped (s : State) : State :=
  let s := s.onSup fun u => { u with dip := true }
  if s.sup.mode = .dipped then s
  else
    let owners := s.sup.toPause
    (s.onSup fun u =>
      { u with mode := .dipped, restartTimer := .stopped
               groups := u.groups.map fun g =>
                 { g with moves := g.moves.map fun m => if m.running then { m with phase := .paused } else m } }).post
      (owners.flatMap pausedMsg ++ [.lnk (.notice (.supplyDip owners.length))])

/-- The restart timer's 0.5 s (R67). -/
def restartTime : Timer := .running 10

/-- The dip input is released (R73, R74). -/
def supplyDipReleased (s : State) : State :=
  let s := s.onSup fun u => { u with dip := false }
  if s.sup.mode = .dipped then s.onSup fun u => { u with mode := .restoring, restartTimer := restartTime } else s

/-- The owner of the oldest PAUSED move (R73). -/
def Supply.oldestPaused (u : Supply) : Option MoveOwner :=
  u.order.find? fun o => u.groups.any fun g => g.moves.any fun m => m.owner == o && m.phase == .paused

def restartedMsg : MoveOwner → List Msg
  | .shutter n => [.sht (.restarted n)]
  | .chain => []

/-- The restart timer expires in RESTORING (R73). -/
def supplyRestartExpiry (s : State) : State :=
  if !(s.sup.mode = .restoring && s.sup.restartTimer.isRunning) then s
  else
    match s.sup.oldestPaused with
    | some owner =>
      (s.onSup fun u =>
        { u with restartTimer := restartTime
                 groups := u.groups.map fun g =>
                   { g with moves := g.moves.map fun m =>
                              if m.owner == owner && m.phase == .paused then { m with phase := .running } else m } }).post
        (restartedMsg owner)
    | none =>
      (s.onSup fun u => { u with mode := .steady, restartTimer := .stopped }).post
        (.lnk (.notice .supplyRestored) :: (List.range s.sup.groups.length).map fun g => Msg.sup (.pass g))

/-! ### Order -/

/-- SET SUPPLY GROUP (R75): the ranges, then an empty group, then the settle time clamped. -/
def orderSetSupplyGroup (g capacity settle : Nat) (s : State) : State × Result :=
  if !decide (g ≤ 7) || !inRange 1 4 capacity then declined .outOfRange s
  else if !((s.sup.group? g).all fun r => r.moves.isEmpty && r.queue.isEmpty) then declined .wrongState s
  else
    let settle' := clampTo 0 10 settle
    doneClamped (settle' != settle)
      (s.onSup fun u => u.modify g fun r => { r with config := { capacity := capacity, settle := settle' } })

end Sys2Proof.Machine
end

