-- ==== Sys2Proof/Machine/Store.lean ====
section
/-! DEFINITION. The configuration store (R188): the image a commit takes, when a stored image is valid, the full reset
that loads it, and the service reset (R189). -/

namespace Sys2Proof.Machine

/-! ### The image -/

/-- The configuration as it stands (R188). -/
def State.image (s : State) : StoreImage :=
  { chain := s.chn.config
    shutters := s.sht.table.map fun o => o.map (·.config)
    groups := s.sup.groups.map (·.config)
    floors := s.flr.table.map (·.config)
    patterns := s.snd.patterns
    stations := s.cal.stations.map fun o => o.map (·.config)
    rings := s.cal.teams.map (·.ring)
    teamPatterns := s.cal.teams.map (·.pattern)
    staffPatterns := s.cal.staff.map (·.pattern)
    onDuty := s.cal.staff.map (·.onDuty)
    callTiming := s.cal.timing
    cues := s.clk.cues.map (·.config)
    programme := s.prg.settings
    zones := s.fir.zones.map (·.floors)
    detectors := s.fir.inputs.map fun o => o.map (·.config)
    fire := s.fir.settings
    nodes := s.flp.nodes.map fun o => o.map (·.kind) }

/-! ### Validity: every value lies within the range its configuration order accepts -/

/-- A table of the size the manual gives it, each of whose entries meets `p`. -/
def tableOf {α : Type} (size : Nat) (l : List α) (p : α → Bool) : Bool := l.length == size && l.all p

/-- The landings against the loop of the geometry held, no two on one side of a floor (R24). A configuration that leaves no
clear gap (R40) is not valid either (R188; log entry 76). -/
def ChainConfig.valid (c : ChainConfig) : Bool :=
  (c.geometry.all GeometryFields.inRange) &&
    (c.timing.all fun t => t.inRange && t.clamped == t) &&
    (tableOf 16 c.landings fun o => o.all fun l => decide (l.floor ≤ 7) && decide (l.position < c.loopLength)) &&
    ((List.range 16).all fun n => (present? c.landings n).all fun l => !sideTaken c.landings n l) &&
    c.hasClearGap

/-- The address is that of a node of the kind. -/
def StoreImage.isKind (i : StoreImage) (address : Nat) (kind : NodeKind) : Bool :=
  address != 0 && present? i.nodes (address - 1) == some kind

/-- A shutter's configuration (R64). -/
def StoreImage.shutterValid (i : StoreImage) (c : ShutterConfig) : Bool :=
  decide (c.floor ≤ 7) && landingOnFloor i.chain.landings c.kind c.floor && i.isKind c.node .shutter &&
    decide (c.slot ≤ 1) && decide (c.group ≤ 7) && decide (c.warning ≤ 30) && inRange 5 120 c.descent &&
    inRange 10 300 c.raise

/-- The shutters, supply groups, floors and patterns (R64, R75, R90, R94). -/
def StoreImage.floorsValid (i : StoreImage) : Bool :=
  (tableOf 48 i.shutters fun o => o.all i.shutterValid) &&
    (tableOf 8 i.groups fun c => inRange 1 4 c.capacity && decide (c.settle ≤ 10)) &&
    (tableOf 8 i.floors fun c =>
      c.zones.all (fun z => decide (z ≤ 7)) && decide (c.sweepTeam ≤ 11) && decide (c.wardenTeam ≤ 11)) &&
    tableOf 32 i.patterns fun l =>
      inRange 1 16 l.length && l.all fun e => e.tone.all (fun t => decide (t ≤ 3)) && inRange 1 40 e.length

/-- The stations, duty lists, staff and call timing (R113, R115, R116, R117). -/
def StoreImage.callsValid (i : StoreImage) : Bool :=
  (tableOf 24 i.stations fun o => o.all fun c => c.inRange && i.isKind c.node .station) &&
    (tableOf 12 i.rings fun l => decide (l.length ≤ 16) && l.all fun m => decide (m ≤ 63)) &&
    (tableOf 12 i.teamPatterns fun p => decide (p ≤ 31)) && (tableOf 64 i.staffPatterns fun p => decide (p ≤ 31)) &&
    (tableOf 64 i.onDuty fun _ => true) && i.callTiming.clamped == i.callTiming

/-- The cues and the programme settings (R133, R142). -/
def StoreImage.clockValid (i : StoreImage) : Bool :=
  (tableOf 24 i.cues fun c =>
    decide (c.time ≤ 86399) && c.days.all (fun d => decide (d ≤ 6)) && decide (c.pattern ≤ 31) &&
      c.zones.all (fun z => decide (z ≤ 7)) && inRange 1 4 c.repeats && inRange 60 240 c.retryInterval &&
      decide (c.retryLimit ≤ 3)) &&
    i.programme.inRange && i.programme.clamped == i.programme

/-- The fire zones, detector inputs, fire settings and node kinds (R169, R180). -/
def StoreImage.fireValid (i : StoreImage) : Bool :=
  (tableOf 8 i.zones fun l => l.all fun f => decide (f ≤ 7)) &&
    (tableOf 64 i.detectors fun o =>
      o.all fun c => decide (c.slot ≤ 3) && decide (c.zone ≤ 7) && i.isKind c.node .detector) &&
    i.fire.inRange && i.fire.clamped == i.fire && tableOf 64 i.nodes fun _ => true

def StoreImage.valid (i : StoreImage) : Bool :=
  i.chain.valid && i.floorsValid && i.callsValid && i.clockValid && i.fireValid

/-! ### Full reset -/

/-- The store as the load at a full reset finds it: a write in progress has left an image whose CRC fails. -/
def Link.storeAtReset (k : Link) : Option (StoreImage × Bool) :=
  match k.writing with
  | some i => some (i, false)
  | none => k.store

/-- The image a full reset loads, or none where no part of the stored image is used. -/
def Link.loadable (k : Link) : Option StoreImage :=
  match k.storeAtReset with
  | some (i, good) => if good && i.valid then some i else none
  | none => none

/-- The call dispatcher with the configuration of an image (R131). -/
def StoreImage.calls (i : StoreImage) : Calls :=
  { State.reset.cal with
    stations := i.stations.map fun o => o.map StationConfig.fresh
    teams := (i.rings.zip i.teamPatterns).map fun p => { ring := p.1, pointer := 0, pattern := p.2 }
    staff := (i.staffPatterns.zip i.onDuty).map fun p => { pattern := p.1, onDuty := p.2, assigned := none }
    timing := i.callTiming }

/-- The part after a full reset with the configuration of an image: every block as its chapter's reset section says, the
direct inputs and the command queue as they stand. -/
def loaded (i : StoreImage) (s : State) : State :=
  { chn := s.chn.fullReset i.chain
    clr := { table := i.chain.storedTable }
    sht := { table := i.shutters.map fun o => o.map ShutterConfig.fresh }
    sup := { State.reset.sup with
             groups := i.groups.map (fun c => { config := c, moves := [], queue := [] }), dip := s.sup.dip }
    flr := { table := i.floors.map fun c =>
               { config := c, state := .shut, faulted := 0, confirmation := none, inStep := false } }
    snd := { State.reset.snd with patterns := i.patterns }
    cal := i.calls
    clk := { State.reset.clk with
             cues := i.cues.map fun c => { config := c, phase := .idle, occurrence := none, lead := 0, retries := 0 } }
    prg := { State.reset.prg with settings := i.programme }
    fir := { State.reset.fir with
             settings := i.fire
             inputs := i.detectors.map fun o => o.map fun c => { config := c, state := .normal }
             zones := i.zones.map fun l => { floors := l, state := .normal, confirmTimer := .stopped } }
    flp := { State.reset.flp with nodes := i.nodes.map fun o => o.map NodeKind.fresh }
    lnk := { State.reset.lnk with store := s.lnk.storeAtReset, storeValid := s.lnk.loadable.isSome }
    ticks := 0, agenda := [], pending := s.pending }

/-- A full reset: the load, and then what the chain's inputs and the dip input bring at once (R26, R77, R188):
CHAIN_TRIPPED before SUPPLY_DIP (log entry 68). -/
def fullReset (s : State) : State :=
  let s := chainAfterReset (loaded (s.lnk.loadable.getD State.reset.image) s)
  if s.sup.dip then supplyDipped s else s

/-! ### Commit -/

/-- COMMIT CONFIGURATION (R188). -/
def orderCommitConfiguration (s : State) : State × Result :=
  if s.lnk.writing.isSome then declined .busy s
  else taken (s.onLnk fun k => { k with writing := some s.image })

/-- The end of the write: the image read back is good or bad (R188). -/
def storeWriteEnd (good : Bool) (s : State) : State :=
  match s.lnk.writing with
  | none => s
  | some i =>
    (s.onLnk fun k => { k with writing := none, store := some (i, good), storeValid := good }).notify (.commitEnded good)

/-! ### Service reset -/

/-- SERVICE RESET (R189): each block that its chapter gives a part in it takes it, one after another. -/
def orderServiceReset (s : State) : State × Result :=
  if s.fir.condition != .normal then declined .fireLock s
  else
    done (s.post
      [.snd .serviceReset, .prg .serviceReset, .cal .serviceReset, .sup .serviceReset, .chn .serviceReset,
       .flr .serviceReset, .sht .serviceReset, .clk .serviceReset])

end Sys2Proof.Machine
end

