-- ==== Sys2Proof/Machine/Serve.lean ====
section
/-! DEFINITION. Whose event is whose: an event or order of a block changes the record of that block alone, and what it has
for the others it hands on (00_scope: no block changes another block's records directly). -/

namespace Sys2Proof.Machine

/-! ### Events kept to their owner's record -/

def ownChn (f : State → State) (s : State) : State := { s with chn := (f s).chn, agenda := (f s).agenda }
def ownSht (f : State → State) (s : State) : State := { s with sht := (f s).sht, agenda := (f s).agenda }
def ownSup (f : State → State) (s : State) : State := { s with sup := (f s).sup, agenda := (f s).agenda }
def ownFlr (f : State → State) (s : State) : State := { s with flr := (f s).flr, agenda := (f s).agenda }
def ownSnd (f : State → State) (s : State) : State := { s with snd := (f s).snd, agenda := (f s).agenda }
def ownCal (f : State → State) (s : State) : State := { s with cal := (f s).cal, agenda := (f s).agenda }
def ownClk (f : State → State) (s : State) : State := { s with clk := (f s).clk, agenda := (f s).agenda }
def ownPrg (f : State → State) (s : State) : State := { s with prg := (f s).prg, agenda := (f s).agenda }
def ownFir (f : State → State) (s : State) : State := { s with fir := (f s).fir, agenda := (f s).agenda }
def ownFlp (f : State → State) (s : State) : State := { s with flp := (f s).flp, agenda := (f s).agenda }
def ownLnk (f : State → State) (s : State) : State := { s with lnk := (f s).lnk, agenda := (f s).agenda }

/-! ### The owner of each order (R184, R185) -/

/-- The owner takes the order at one event, and its result comes back. -/
def serveOrder (tag : Nat) (o : Order) (s : State) : State × Result :=
  match o with
  | .readStatus => orderReadStatus s
  | .commitConfiguration => orderCommitConfiguration s
  | .serviceReset => orderServiceReset s
  | .runChain => orderRunChain s
  | .stopChain m => orderStopChain m s
  | .haltChain => orderHaltChain s
  | .homeChain => orderHomeChain s
  | .resetChainTrip => orderResetChainTrip s
  | .setChainGeometry g => orderSetChainGeometry g s
  | .setLanding n f => orderSetLanding n f s
  | .setChainTiming t => orderSetChainTiming t s
  | .readClearance p => orderReadClearance p s
  | .dropShutter n => orderDropShutter n s
  | .forceDrop n => orderForceDrop n s
  | .raiseShutter n => orderRaiseShutter n s
  | .clearShutterFault n => orderClearShutterFault n s
  | .setShutter n f => orderSetShutter n f s
  | .readShutter n => orderReadShutter n s
  | .setSupplyGroup g c t => orderSetSupplyGroup g c t s
  | .readSupply p => orderReadSupply p s
  | .setFloorState f c => orderSetFloorState f c s
  | .setFloor f z a b => orderSetFloor f z a b s
  | .readFloor f p => orderReadFloor f p s
  | .setPattern n l => orderSetPattern n l s
  | .sound p z r => orderSound tag p z r s
  | .readSounder p => orderReadSounder p s
  | .placeCall st b => orderPlaceCall st b s
  | .cancelCall n => orderCancelCall n s
  | .setStation n f => orderSetStation n f s
  | .loadDutyList t st l => orderLoadDutyList t st l s
  | .setTeam t p => orderSetTeam t p s
  | .setStaff m p => orderSetStaff m p s
  | .setDuty m b => orderSetDuty m b s
  | .setCallTiming f => orderSetCallTiming f s
  | .readCalls p => orderReadCalls p s
  | .setTime t d => orderSetTime t d s
  | .setCue n f => orderSetCue n f s
  | .readClock p => orderReadClock p s
  | .startClosing => orderStartClosing s
  | .startOpening => orderStartOpening s
  | .skipFloor => orderSkipFloor s
  | .abortProgramme => orderAbortProgramme s
  | .setProgramme f => orderSetProgramme f s
  | .readProgramme => orderReadProgramme s
  | .acknowledgeFire => orderAcknowledgeFire s
  | .silence => orderSilence s
  | .resetFire => orderResetFire s
  | .setFireZone z f => orderSetFireZone z f s
  | .setDetectorInput n f => orderSetDetectorInput n f s
  | .setFireResponse f => orderSetFireResponse f s
  | .readFire p => orderReadFire p s
  | .setNode a k => orderSetNode a k s
  | .readNode a => orderReadNode a s

/-- The twelve blocks, and none for an enquiry that no block's record answers for alone. -/
inductive Block where
  | chn | sht | sup | flr | snd | cal | clk | prg | fir | flp | lnk
  deriving DecidableEq, Repr

/-- The block that owns an order. -/
def Order.owner : Order → Block
  | .readStatus | .commitConfiguration | .serviceReset => .lnk
  | .runChain | .stopChain _ | .haltChain | .homeChain | .resetChainTrip | .setChainGeometry _ | .setLanding _ _
  | .setChainTiming _ | .readClearance _ => .chn
  | .dropShutter _ | .forceDrop _ | .raiseShutter _ | .clearShutterFault _ | .setShutter _ _ | .readShutter _ => .sht
  | .setSupplyGroup _ _ _ | .readSupply _ => .sup
  | .setFloorState _ _ | .setFloor _ _ _ _ | .readFloor _ _ => .flr
  | .setPattern _ _ | .sound _ _ _ | .readSounder _ => .snd
  | .placeCall _ _ | .cancelCall _ | .setStation _ _ | .loadDutyList _ _ _ | .setTeam _ _ | .setStaff _ _
  | .setDuty _ _ | .setCallTiming _ | .readCalls _ => .cal
  | .setTime _ _ | .setCue _ _ | .readClock _ => .clk
  | .startClosing | .startOpening | .skipFloor | .abortProgramme | .setProgramme _ | .readProgramme => .prg
  | .acknowledgeFire | .silence | .resetFire | .setFireZone _ _ | .setDetectorInput _ _ | .setFireResponse _
  | .readFire _ => .fir
  | .setNode _ _ | .readNode _ => .flp

/-- An event kept to the record of a block. -/
def Block.own (b : Block) (f : State → State) (s : State) : State :=
  match b with
  | .chn => ownChn f s
  | .sht => ownSht f s
  | .sup => ownSup f s
  | .flr => ownFlr f s
  | .snd => ownSnd f s
  | .cal => ownCal f s
  | .clk => ownClk f s
  | .prg => ownPrg f s
  | .fir => ownFir f s
  | .flp => ownFlp f s
  | .lnk => ownLnk f s

/-- The order's rule has it answered first and the rest follow: LOAD DUTY LIST, whose unassigned pass comes after its DONE
(R115). -/
def Order.answersFirst : Order → Bool
  | .loadDutyList _ _ _ => true
  | _ => false

/-- A request handed to its owner, whose result goes back to the link; the next request is then processed (R184). The answer
follows what the order hands on, but for an order answered first (log entry 65). -/
def serve (kind tag : Nat) (o : Order) (s : State) : State :=
  let answer := Msg.lnk (.answer kind tag (serveOrder tag o s).2)
  let t := o.owner.own (fun s => (serveOrder tag o s).1) s
  { t with agenda := (if o.answersFirst then answer :: t.agenda else t.agenda ++ [answer]) ++ [.lnk .process] }

end Sys2Proof.Machine
end

