-- ==== Sys2Proof/Machine/Handle.lean ====
section
/-! DEFINITION. How a command is taken whole: its event is taken by the block it reaches, and then each event and request
handed on, with all that follows from it, before the next (log entry 4). -/

namespace Sys2Proof.Machine

/-- An event or request handed on, taken by its block. -/
def handle (m : Msg) (s : State) : State :=
  match m with
  | .chn m => ownChn (chainTake m) s
  | .clr => { s with clr := { table := s.chn.config.storedTable } }
  | .sht m => ownSht (shutterTake m) s
  | .sup m => ownSup (supplyTake m) s
  | .flr m => ownFlr (floorTake m) s
  | .snd m => ownSnd (soundTake m) s
  | .cal m => ownCal (callTake m) s
  | .clk m => ownClk (clockTake m) s
  | .prg m => ownPrg (programmeTake m) s
  | .fir m => ownFir (fireTake m) s
  | .lnk m => ownLnk (linkTake m) s
  | .serve kind tag o => serve kind tag o s

/-- The first of the agenda is taken; what it hands on goes before the rest. -/
def handleFirst (m : Msg) (rest : List Msg) (s : State) : State :=
  let t := handle m { s with agenda := [] }
  { t with agenda := t.agenda ++ rest }

/-- The ROOM report that a fall of the sounder queue from 24 has made due (R102). R102 has it made once the event that freed
the place has been taken whole, and does not say what that is where one command frees places by several events handed on;
the model takes the whole command for it and tells ROOM once, after everything else of the command, however often the queue
fell from 24 (log entry 83). -/
def tellRoom (s : State) : State := (s.onSnd fun u => { u with roomDue := false }).post [.cal .room]

/-- The agenda is worked off, at most `fuel` turns of it. -/
def drain : Nat → State → Host.Outcome State Fault Refusal
  | 0, _ => .fault .neverSettles
  | fuel + 1, s =>
    match s.agenda with
    | m :: rest => drain fuel (handleFirst m rest s)
    | [] => if s.snd.roomDue then drain fuel (tellRoom s) else .next s

/-- Everything that follows from what the agenda holds. -/
def settle (s : State) : Host.Outcome State Fault Refusal := drain Config.cascadeBound s

/-- An event from outside the blocks reaches one of them. -/
def takeEvent (b : Block) (f : State → State) (s : State) : Host.Outcome State Fault Refusal := settle (b.own f s)

/-- An order or enquiry arrives as a good frame (R184). -/
def takeOrder (tag : Nat) (o : Order) (s : State) : Host.Outcome State Fault Refusal :=
  settle (ownLnk (linkArrive o.kind tag (some o)) s)

/-- A quiet part: nothing handed on is still to be taken. Every command begins and ends so. -/
def State.quiet (s : State) : Bool := s.agenda.isEmpty && !s.snd.roomDue

end Sys2Proof.Machine
end

