-- ==== Sys2Proof/Machine/CallCommands.lean ====
section
/-! DEFINITION. CAL, the call dispatcher (chapter 7): its orders and the expiries of its timers. Each
command has a meaning of its own; what it does is said by the block's operations. -/

namespace Sys2Proof.Machine

/-- The order PLACE CALL arrives as a good frame (R119, R184). -/
def execPlaceCall (tag station button : Nat) (s : State) : Host.Outcome State Fault Refusal :=
  takeOrder tag (.placeCall station button) s

/-- The order CANCEL CALL arrives as a good frame (R118, R184). -/
def execCancelCall (tag call : Nat) (s : State) : Host.Outcome State Fault Refusal :=
  takeOrder tag (.cancelCall call) s

/-- The order SET STATION arrives as a good frame (R113, R184). -/
def execSetStation (tag station : Nat) (fields : Option StationFields) (s : State) :
    Host.Outcome State Fault Refusal :=
  takeOrder tag (.setStation station fields) s

/-- The order LOAD DUTY LIST arrives as a good frame (R115, R184). -/
def execLoadDutyList (tag team start : Nat) (entries : List Nat) (s : State) : Host.Outcome State Fault Refusal :=
  takeOrder tag (.loadDutyList team start entries) s

/-- The order SET TEAM arrives as a good frame (R115, R184). -/
def execSetTeam (tag team pattern : Nat) (s : State) : Host.Outcome State Fault Refusal :=
  takeOrder tag (.setTeam team pattern) s

/-- The order SET STAFF arrives as a good frame (R116, R184). -/
def execSetStaff (tag member pattern : Nat) (s : State) : Host.Outcome State Fault Refusal :=
  takeOrder tag (.setStaff member pattern) s

/-- The order SET DUTY arrives as a good frame (R116, R184). -/
def execSetDuty (tag member : Nat) (onDuty : Bool) (s : State) : Host.Outcome State Fault Refusal :=
  takeOrder tag (.setDuty member onDuty) s

/-- The order SET CALL TIMING arrives as a good frame (R117, R184). -/
def execSetCallTiming (tag : Nat) (fields : CallTimingFields) (s : State) : Host.Outcome State Fault Refusal :=
  takeOrder tag (.setCallTiming fields) s

/-- The enquiry READ CALLS arrives as a good frame (R130, R184). -/
def execReadCalls (tag part : Nat) (s : State) : Host.Outcome State Fault Refusal :=
  takeOrder tag (.readCalls part) s

/-- URGENT_WINDOW_EXPIRY (R120). -/
def execUrgentWindowExpiry (station button : Nat) (s : State) : Host.Outcome State Fault Refusal :=
  takeEvent .cal (callWindowExpiry station button) s

/-- ROUND_TIMER_EXPIRY (R124). -/
def execRoundTimerExpiry (call : Nat) (s : State) : Host.Outcome State Fault Refusal :=
  takeEvent .cal (callRoundExpiry call) s

end Sys2Proof.Machine
end

