-- ==== Sys2Proof/Machine/ChainCommands.lean ====
section
/-! DEFINITION. CHN, the chain supervisor (chapters 1 and 2): its orders and the events of the paternoster drive. Each
command has a meaning of its own; what it does is said by the block's operations. -/

namespace Sys2Proof.Machine

/-- The order RUN CHAIN arrives as a good frame (R9, R184). -/
def execRunChain (tag : Nat) (s : State) : Host.Outcome State Fault Refusal :=
  takeOrder tag .runChain s

/-- The order STOP CHAIN arrives as a good frame (R11, R12, R184). -/
def execStopChain (tag landings : Nat) (s : State) : Host.Outcome State Fault Refusal :=
  takeOrder tag (.stopChain landings) s

/-- The order HALT CHAIN arrives as a good frame (R18, R184). -/
def execHaltChain (tag : Nat) (s : State) : Host.Outcome State Fault Refusal :=
  takeOrder tag .haltChain s

/-- The order HOME CHAIN arrives as a good frame (R19, R184). -/
def execHomeChain (tag : Nat) (s : State) : Host.Outcome State Fault Refusal :=
  takeOrder tag .homeChain s

/-- The order RESET CHAIN TRIP arrives as a good frame (R23, R184). -/
def execResetChainTrip (tag : Nat) (s : State) : Host.Outcome State Fault Refusal :=
  takeOrder tag .resetChainTrip s

/-- The order SET CHAIN GEOMETRY arrives as a good frame (R24, R40, R184). -/
def execSetChainGeometry (tag : Nat) (fields : GeometryFields) (s : State) : Host.Outcome State Fault Refusal :=
  takeOrder tag (.setChainGeometry fields) s

/-- The order SET LANDING arrives as a good frame (R24, R40, R184). -/
def execSetLanding (tag landing : Nat) (fields : Option LandingFields) (s : State) :
    Host.Outcome State Fault Refusal :=
  takeOrder tag (.setLanding landing fields) s

/-- The order SET CHAIN TIMING arrives as a good frame (R24, R40, R184). -/
def execSetChainTiming (tag : Nat) (fields : TimingFields) (s : State) : Host.Outcome State Fault Refusal :=
  takeOrder tag (.setChainTiming fields) s

/-- The enquiry READ CLEARANCE arrives as a good frame (R41, R184). -/
def execReadClearance (tag part : Nat) (s : State) : Host.Outcome State Fault Refusal :=
  takeOrder tag (.readClearance part) s

/-- ENCODER_COUNT (R2, R13, R15, R17). -/
def execEncoderCount (forward : Bool) (s : State) : Host.Outcome State Fault Refusal :=
  takeEvent .chn (chainCount forward) s

/-- INDEX_MARK (R3, R19). -/
def execIndexMark (s : State) : Host.Outcome State Fault Refusal :=
  takeEvent .chn chainIndex s

/-- CAR_TAG_STROBE (R4). -/
def execCarTagStrobe (carTag : Tag2) (s : State) : Host.Outcome State Fault Refusal :=
  takeEvent .chn (chainTag carTag) s

/-- WINDOW_END (R5, R9, R13, R15, R18). -/
def execWindowEnd (s : State) : Host.Outcome State Fault Refusal :=
  takeEvent .chn chainWindow s

/-- RUNUP_TIMEOUT (R9). -/
def execRunupTimeout (s : State) : Host.Outcome State Fault Refusal :=
  takeEvent .chn chainRunupTimeout s

/-- HOMING_TIMEOUT (R19). -/
def execHomingTimeout (s : State) : Host.Outcome State Fault Refusal :=
  takeEvent .chn chainHomingTimeout s

/-- SAFETY_CHAIN_OPEN (R22). -/
def execSafetyChainOpen (s : State) : Host.Outcome State Fault Refusal :=
  takeEvent .chn chainSafetyOpen s

/-- SAFETY_CHAIN_CLOSE (R7). -/
def execSafetyChainClose (s : State) : Host.Outcome State Fault Refusal :=
  takeEvent .chn chainSafetyClose s

/-- INSPECTION_KEY_ON (R20). -/
def execInspectionKeyOn (s : State) : Host.Outcome State Fault Refusal :=
  takeEvent .chn chainKeyOn s

/-- INSPECTION_KEY_OFF (R20). -/
def execInspectionKeyOff (s : State) : Host.Outcome State Fault Refusal :=
  takeEvent .chn chainKeyOff s

/-- INSPECTION_BUTTON_PRESS (R20). -/
def execInspectionButtonPress (up : Bool) (s : State) : Host.Outcome State Fault Refusal :=
  takeEvent .chn (chainButtonPress up) s

/-- INSPECTION_BUTTON_RELEASE (R20). -/
def execInspectionButtonRelease (up : Bool) (s : State) : Host.Outcome State Fault Refusal :=
  takeEvent .chn (chainButtonRelease up) s

end Sys2Proof.Machine
end

