-- ==== Sys2Proof/Machine/ClockCommands.lean ====
section
/-! DEFINITION. CLK, the store clock (chapter 8): its orders, the second, the reservation moment and the slot of a cue. Each
command has a meaning of its own; what it does is said by the block's operations. -/

namespace Sys2Proof.Machine

/-- The order SET TIME arrives as a good frame (R132, R184). -/
def execSetTime (tag time day : Nat) (s : State) : Host.Outcome State Fault Refusal :=
  takeOrder tag (.setTime time day) s

/-- The order SET CUE arrives as a good frame (R133, R139, R184). -/
def execSetCue (tag cue : Nat) (fields : CueFields) (s : State) : Host.Outcome State Fault Refusal :=
  takeOrder tag (.setCue cue fields) s

/-- The enquiry READ CLOCK arrives as a good frame (R140, R184). -/
def execReadClock (tag part : Nat) (s : State) : Host.Outcome State Fault Refusal :=
  takeOrder tag (.readClock part) s

/-- CLOCK_SECOND (R132). -/
def execClockSecond (s : State) : Host.Outcome State Fault Refusal :=
  takeEvent .clk clockSecond s

/-- CUE_RESERVATION_DUE (R135). -/
def execCueReservationDue (cue : Nat) (s : State) : Host.Outcome State Fault Refusal :=
  takeEvent .clk (cueDue cue) s

/-- CUE_SLOT (R106, R136). -/
def execCueSlot (cue : Nat) (s : State) : Host.Outcome State Fault Refusal :=
  takeEvent .clk (cueSlot cue) (ownSnd (soundLeadOut cue) s)

end Sys2Proof.Machine
end

