-- ==== Sys2Proof/Machine/FireCommands.lean ====
section
/-! DEFINITION. FIR, the fire response unit (chapter 10): its orders and the expiries of its timers. Each
command has a meaning of its own; what it does is said by the block's operations. -/

namespace Sys2Proof.Machine

/-- The order ACKNOWLEDGE FIRE arrives as a good frame (R165, R184). -/
def execAcknowledgeFire (tag : Nat) (s : State) : Host.Outcome State Fault Refusal :=
  takeOrder tag .acknowledgeFire s

/-- The order SILENCE arrives as a good frame (R166, R184). -/
def execSilence (tag : Nat) (s : State) : Host.Outcome State Fault Refusal :=
  takeOrder tag .silence s

/-- The order RESET FIRE arrives as a good frame (R167, R184). -/
def execResetFire (tag : Nat) (s : State) : Host.Outcome State Fault Refusal :=
  takeOrder tag .resetFire s

/-- The order SET FIRE ZONE arrives as a good frame (R169, R184). -/
def execSetFireZone (tag zone floors : Nat) (s : State) : Host.Outcome State Fault Refusal :=
  takeOrder tag (.setFireZone zone floors) s

/-- The order SET DETECTOR INPUT arrives as a good frame (R169, R184). -/
def execSetDetectorInput (tag input : Nat) (fields : Option DetectorFields) (s : State) :
    Host.Outcome State Fault Refusal :=
  takeOrder tag (.setDetectorInput input fields) s

/-- The order SET FIRE RESPONSE arrives as a good frame (R169, R184). -/
def execSetFireResponse (tag : Nat) (fields : FireFields) (s : State) : Host.Outcome State Fault Refusal :=
  takeOrder tag (.setFireResponse fields) s

/-- The enquiry READ FIRE arrives as a good frame (R170, R184). -/
def execReadFire (tag part : Nat) (s : State) : Host.Outcome State Fault Refusal :=
  takeOrder tag (.readFire part) s

/-- CONFIRM_TIMER_EXPIRY (R160). -/
def execConfirmTimerExpiry (zone : Nat) (s : State) : Host.Outcome State Fault Refusal :=
  takeEvent .fir (fireConfirmExpiry zone) s

/-- DELAY_TIMER_EXPIRY (R164). -/
def execDelayTimerExpiry (s : State) : Host.Outcome State Fault Refusal :=
  takeEvent .fir fireDelayExpiry s

/-- ACK_TIMER_EXPIRY (R165). -/
def execAckTimerExpiry (s : State) : Host.Outcome State Fault Refusal :=
  takeEvent .fir fireAckExpiry s

/-- PULSE_TIMER_EXPIRY (R165). -/
def execPulseTimerExpiry (s : State) : Host.Outcome State Fault Refusal :=
  takeEvent .fir firePulseExpiry s

end Sys2Proof.Machine
end

