-- ==== Sys2Proof/Machine/FloorCommands.lean ====
section
/-! DEFINITION. FLR, the floor table (chapter 5): its orders. Each
command has a meaning of its own; what it does is said by the block's operations. -/

namespace Sys2Proof.Machine

/-- The order SET FLOOR STATE arrives as a good frame (R89, R184). -/
def execSetFloorState (tag floor state : Nat) (s : State) : Host.Outcome State Fault Refusal :=
  takeOrder tag (.setFloorState floor state) s

/-- The order SET FLOOR arrives as a good frame (R90, R184). -/
def execSetFloor (tag floor zones sweepTeam wardenTeam : Nat) (s : State) : Host.Outcome State Fault Refusal :=
  takeOrder tag (.setFloor floor zones sweepTeam wardenTeam) s

/-- The enquiry READ FLOOR arrives as a good frame (R91, R184). -/
def execReadFloor (tag floor part : Nat) (s : State) : Host.Outcome State Fault Refusal :=
  takeOrder tag (.readFloor floor part) s

end Sys2Proof.Machine
end

