-- ==== Sys2Proof/Machine/LinkCommands.lean ====
section
/-! DEFINITION. LNK, the service link (chapter 12): the commands of the receive line, the transmitter, the store and the reset input. Each
command has a meaning of its own; what it does is said by the block's operations. -/

namespace Sys2Proof.Machine

/-- FULL_RESET (R188, R191). -/
def execFullReset (s : State) : Host.Outcome State Fault Refusal :=
  settle (fullReset s)

/-- RECEIVE_BYTE (R183, R184). -/
def execReceiveByte (byte : Byte) (framingError : Bool) (s : State) : Host.Outcome State Fault Refusal :=
  takeEvent .lnk (linkReceive byte framingError) s

/-- RECEIVE_GAP (R183). -/
def execReceiveGap (s : State) : Host.Outcome State Fault Refusal :=
  takeEvent .lnk linkGap s

/-- BREAK (R187). -/
def execLineBreak (s : State) : Host.Outcome State Fault Refusal :=
  takeEvent .lnk linkBreak s

/-- FRAME_SENT (R186). -/
def execFrameSent (s : State) : Host.Outcome State Fault Refusal :=
  takeEvent .lnk linkSend s

/-- COMMIT_WRITE_END (R188). -/
def execCommitWriteEnd (good : Bool) (s : State) : Host.Outcome State Fault Refusal :=
  takeEvent .lnk (storeWriteEnd good) s

/-- The enquiry READ STATUS arrives as a good frame (R190, R184). -/
def execReadStatus (tag : Nat) (s : State) : Host.Outcome State Fault Refusal :=
  takeOrder tag .readStatus s

/-- The order COMMIT CONFIGURATION arrives as a good frame (R188, R184). -/
def execCommitConfiguration (tag : Nat) (s : State) : Host.Outcome State Fault Refusal :=
  takeOrder tag .commitConfiguration s

/-- The order SERVICE RESET arrives as a good frame (R189, R184). -/
def execServiceReset (tag : Nat) (s : State) : Host.Outcome State Fault Refusal :=
  takeOrder tag .serviceReset s

end Sys2Proof.Machine
end

