-- ==== Sys2Proof/Machine/LoopCommands.lean ====
section
/-! DEFINITION. FLP, the field loop master (chapter 11): its orders and the events of the field loop. Each
command has a meaning of its own; what it does is said by the block's operations. -/

namespace Sys2Proof.Machine

/-- The order SET NODE arrives as a good frame (R180, R184). -/
def execSetNode (tag address kind : Nat) (s : State) : Host.Outcome State Fault Refusal :=
  takeOrder tag (.setNode address kind) s

/-- The enquiry READ NODE arrives as a good frame (R181, R184). -/
def execReadNode (tag address : Nat) (s : State) : Host.Outcome State Fault Refusal :=
  takeOrder tag (.readNode address) s

/-- POLL_SLOT (R174). -/
def execPollSlot (s : State) : Host.Outcome State Fault Refusal :=
  takeEvent .flp loopSlot s

/-- POLL_REPLY (R175, R177). -/
def execPollReply (address input0 input1 : Byte) (last : ReplyEnd) (s : State) : Host.Outcome State Fault Refusal :=
  takeEvent .flp (loopReply address input0 input1 last) s

/-- POLL_MISSED (R176). -/
def execPollMissed (s : State) : Host.Outcome State Fault Refusal :=
  takeEvent .flp loopMissed s

end Sys2Proof.Machine
end

