-- ==== Sys2Proof/Machine/ProgrammeCommands.lean ====
section
/-! DEFINITION. PRG, the programme unit (chapter 9): its orders and the expiries of its timers. Each
command has a meaning of its own; what it does is said by the block's operations. -/

namespace Sys2Proof.Machine

/-- The order START CLOSING arrives as a good frame (R144, R146, R184). -/
def execStartClosing (tag : Nat) (s : State) : Host.Outcome State Fault Refusal :=
  takeOrder tag .startClosing s

/-- The order START OPENING arrives as a good frame (R153, R184). -/
def execStartOpening (tag : Nat) (s : State) : Host.Outcome State Fault Refusal :=
  takeOrder tag .startOpening s

/-- The order SKIP FLOOR arrives as a good frame (R148, R184). -/
def execSkipFloor (tag : Nat) (s : State) : Host.Outcome State Fault Refusal :=
  takeOrder tag .skipFloor s

/-- The order ABORT PROGRAMME arrives as a good frame (R156, R184). -/
def execAbortProgramme (tag : Nat) (s : State) : Host.Outcome State Fault Refusal :=
  takeOrder tag .abortProgramme s

/-- The order SET PROGRAMME arrives as a good frame (R142, R184). -/
def execSetProgramme (tag : Nat) (fields : ProgrammeFields) (s : State) : Host.Outcome State Fault Refusal :=
  takeOrder tag (.setProgramme fields) s

/-- The enquiry READ PROGRAMME arrives as a good frame (R157, R184). -/
def execReadProgramme (tag : Nat) (s : State) : Host.Outcome State Fault Refusal :=
  takeOrder tag .readProgramme s

/-- STEP_DEADLINE_EXPIRY (R146). -/
def execStepDeadlineExpiry (s : State) : Host.Outcome State Fault Refusal :=
  takeEvent .prg programmeDeadlineExpiry s

/-- SWEEP_TIMEOUT (R147). -/
def execSweepTimeout (s : State) : Host.Outcome State Fault Refusal :=
  takeEvent .prg programmeSweepTimeout s

/-- PLACING_RETRY_EXPIRY (R147). -/
def execPlacingRetryExpiry (s : State) : Host.Outcome State Fault Refusal :=
  takeEvent .prg programmePlacingRetry s

/-- DWELL_EXPIRY (R150). -/
def execDwellExpiry (s : State) : Host.Outcome State Fault Refusal :=
  takeEvent .prg programmeDwellExpiry s

end Sys2Proof.Machine
end

