-- ==== Sys2Proof/Machine/ShutterCommands.lean ====
section
/-! DEFINITION. SHT, the shutter controller (chapter 3): its orders and the expiries of its timers. Each
command has a meaning of its own; what it does is said by the block's operations. -/

namespace Sys2Proof.Machine

/-- The order DROP SHUTTER arrives as a good frame (R46, R184). -/
def execDropShutter (tag shutter : Nat) (s : State) : Host.Outcome State Fault Refusal :=
  takeOrder tag (.dropShutter shutter) s

/-- The order FORCE DROP arrives as a good frame (R48, R184). -/
def execForceDrop (tag shutter : Nat) (s : State) : Host.Outcome State Fault Refusal :=
  takeOrder tag (.forceDrop shutter) s

/-- The order RAISE SHUTTER arrives as a good frame (R53, R184). -/
def execRaiseShutter (tag shutter : Nat) (s : State) : Host.Outcome State Fault Refusal :=
  takeOrder tag (.raiseShutter shutter) s

/-- The order CLEAR SHUTTER FAULT arrives as a good frame (R61, R184). -/
def execClearShutterFault (tag shutter : Nat) (s : State) : Host.Outcome State Fault Refusal :=
  takeOrder tag (.clearShutterFault shutter) s

/-- The order SET SHUTTER arrives as a good frame (R64, R184). -/
def execSetShutter (tag shutter : Nat) (fields : Option ShutterFields) (s : State) :
    Host.Outcome State Fault Refusal :=
  takeOrder tag (.setShutter shutter fields) s

/-- The enquiry READ SHUTTER arrives as a good frame (R65, R184). -/
def execReadShutter (tag shutter : Nat) (s : State) : Host.Outcome State Fault Refusal :=
  takeOrder tag (.readShutter shutter) s

/-- WARNING_TIMER_EXPIRY (R49). -/
def execWarningTimerExpiry (shutter : Nat) (s : State) : Host.Outcome State Fault Refusal :=
  takeEvent .sht (shutterWarningExpiry shutter) s

/-- DESCENT_TIMEOUT (R50). -/
def execDescentTimeout (shutter : Nat) (s : State) : Host.Outcome State Fault Refusal :=
  takeEvent .sht (shutterDescentTimeout shutter) s

/-- CLEAR_TIMER_EXPIRY (R51). -/
def execClearTimerExpiry (shutter : Nat) (s : State) : Host.Outcome State Fault Refusal :=
  takeEvent .sht (shutterClearExpiry shutter) s

/-- HOLD_TIMER_EXPIRY (R51, R52). -/
def execHoldTimerExpiry (shutter : Nat) (s : State) : Host.Outcome State Fault Refusal :=
  takeEvent .sht (shutterHoldExpiry shutter) s

/-- RAISE_TIMEOUT (R54). -/
def execRaiseTimeout (shutter : Nat) (s : State) : Host.Outcome State Fault Refusal :=
  takeEvent .sht (shutterRaiseTimeout shutter) s

end Sys2Proof.Machine
end

