-- ==== Sys2Proof/Machine/SounderCommands.lean ====
section
/-! DEFINITION. SND, the sounder line controller (chapter 6): its orders and the ends of elements and soundings. Each
command has a meaning of its own; what it does is said by the block's operations. -/

namespace Sys2Proof.Machine

/-- The order SET PATTERN arrives as a good frame (R94, R184). -/
def execSetPattern (tag pattern : Nat) (elements : List ElementFields) (s : State) :
    Host.Outcome State Fault Refusal :=
  takeOrder tag (.setPattern pattern elements) s

/-- The order SOUND arrives as a good frame (R109, R184). -/
def execSound (tag pattern zones repeats : Nat) (s : State) : Host.Outcome State Fault Refusal :=
  takeOrder tag (.sound pattern zones repeats) s

/-- The enquiry READ SOUNDER arrives as a good frame (R110, R184). -/
def execReadSounder (tag part : Nat) (s : State) : Host.Outcome State Fault Refusal :=
  takeOrder tag (.readSounder part) s

/-- PATTERN_ELEMENT_END (R96). -/
def execPatternElementEnd (stamp : Nat) (s : State) : Host.Outcome State Fault Refusal :=
  takeEvent .snd (soundElementEnd stamp) s

/-- SOUNDING_END (R97). -/
def execSoundingEnd (stamp : Nat) (s : State) : Host.Outcome State Fault Refusal :=
  takeEvent .snd (soundEnd stamp) s

end Sys2Proof.Machine
end

