-- ==== Sys2Proof/Machine/SupplyCommands.lean ====
section
/-! DEFINITION. SUP, the supply admission unit (chapter 4): its orders, the settle and restart timers and the dip input. Each
command has a meaning of its own; what it does is said by the block's operations. -/

namespace Sys2Proof.Machine

/-- The order SET SUPPLY GROUP arrives as a good frame (R75, R184). -/
def execSetSupplyGroup (tag group capacity settle : Nat) (s : State) : Host.Outcome State Fault Refusal :=
  takeOrder tag (.setSupplyGroup group capacity settle) s

/-- The enquiry READ SUPPLY arrives as a good frame (R76, R184). -/
def execReadSupply (tag part : Nat) (s : State) : Host.Outcome State Fault Refusal :=
  takeOrder tag (.readSupply part) s

/-- SETTLE_EXPIRY (R69, R70). -/
def execSettleExpiry (group : Nat) (owner : MoveOwner) (s : State) : Host.Outcome State Fault Refusal :=
  takeEvent .sup (supplySettleExpiry group owner) s

/-- MAINS_DIP_ASSERTED (R72). -/
def execMainsDipAsserted (s : State) : Host.Outcome State Fault Refusal :=
  takeEvent .sup supplyDipped s

/-- MAINS_DIP_RELEASED (R73). -/
def execMainsDipReleased (s : State) : Host.Outcome State Fault Refusal :=
  takeEvent .sup supplyDipReleased s

/-- RESTART_TIMER_EXPIRY (R73). -/
def execRestartTimerExpiry (s : State) : Host.Outcome State Fault Refusal :=
  takeEvent .sup supplyRestartExpiry s

end Sys2Proof.Machine
end

