-- ==== Sys2Proof/Machine/Dispatch.lean ====
section
/-! DEFINITION. One arm per command: its meaning. -/

namespace Sys2Proof.Machine

def exec (i : Instr) (s : State) : Host.Outcome State Fault Refusal :=
  match i with
  | .fullReset => Sys2Proof.Machine.execFullReset s
  | .receiveByte byte framingError => Sys2Proof.Machine.execReceiveByte byte framingError s
  | .receiveGap => Sys2Proof.Machine.execReceiveGap s
  | .lineBreak => Sys2Proof.Machine.execLineBreak s
  | .frameSent => Sys2Proof.Machine.execFrameSent s
  | .commitWriteEnd good => Sys2Proof.Machine.execCommitWriteEnd good s
  | .readStatus tag => Sys2Proof.Machine.execReadStatus tag s
  | .commitConfiguration tag => Sys2Proof.Machine.execCommitConfiguration tag s
  | .serviceReset tag => Sys2Proof.Machine.execServiceReset tag s
  | .runChain tag => Sys2Proof.Machine.execRunChain tag s
  | .stopChain tag landings => Sys2Proof.Machine.execStopChain tag landings s
  | .haltChain tag => Sys2Proof.Machine.execHaltChain tag s
  | .homeChain tag => Sys2Proof.Machine.execHomeChain tag s
  | .resetChainTrip tag => Sys2Proof.Machine.execResetChainTrip tag s
  | .setChainGeometry tag fields => Sys2Proof.Machine.execSetChainGeometry tag fields s
  | .setLanding tag landing fields => Sys2Proof.Machine.execSetLanding tag landing fields s
  | .setChainTiming tag fields => Sys2Proof.Machine.execSetChainTiming tag fields s
  | .readClearance tag part => Sys2Proof.Machine.execReadClearance tag part s
  | .dropShutter tag shutter => Sys2Proof.Machine.execDropShutter tag shutter s
  | .forceDrop tag shutter => Sys2Proof.Machine.execForceDrop tag shutter s
  | .raiseShutter tag shutter => Sys2Proof.Machine.execRaiseShutter tag shutter s
  | .clearShutterFault tag shutter => Sys2Proof.Machine.execClearShutterFault tag shutter s
  | .setShutter tag shutter fields => Sys2Proof.Machine.execSetShutter tag shutter fields s
  | .readShutter tag shutter => Sys2Proof.Machine.execReadShutter tag shutter s
  | .setSupplyGroup tag group capacity settle => Sys2Proof.Machine.execSetSupplyGroup tag group capacity settle s
  | .readSupply tag part => Sys2Proof.Machine.execReadSupply tag part s
  | .setFloorState tag floor state => Sys2Proof.Machine.execSetFloorState tag floor state s
  | .setFloor tag floor zones sweepTeam wardenTeam => Sys2Proof.Machine.execSetFloor tag floor zones sweepTeam wardenTeam s
  | .readFloor tag floor part => Sys2Proof.Machine.execReadFloor tag floor part s
  | .setPattern tag pattern elements => Sys2Proof.Machine.execSetPattern tag pattern elements s
  | .sound tag pattern zones repeats => Sys2Proof.Machine.execSound tag pattern zones repeats s
  | .readSounder tag part => Sys2Proof.Machine.execReadSounder tag part s
  | .placeCall tag station button => Sys2Proof.Machine.execPlaceCall tag station button s
  | .cancelCall tag call => Sys2Proof.Machine.execCancelCall tag call s
  | .setStation tag station fields => Sys2Proof.Machine.execSetStation tag station fields s
  | .loadDutyList tag team start entries => Sys2Proof.Machine.execLoadDutyList tag team start entries s
  | .setTeam tag team pattern => Sys2Proof.Machine.execSetTeam tag team pattern s
  | .setStaff tag member pattern => Sys2Proof.Machine.execSetStaff tag member pattern s
  | .setDuty tag member onDuty => Sys2Proof.Machine.execSetDuty tag member onDuty s
  | .setCallTiming tag fields => Sys2Proof.Machine.execSetCallTiming tag fields s
  | .readCalls tag part => Sys2Proof.Machine.execReadCalls tag part s
  | .setTime tag time day => Sys2Proof.Machine.execSetTime tag time day s
  | .setCue tag cue fields => Sys2Proof.Machine.execSetCue tag cue fields s
  | .readClock tag part => Sys2Proof.Machine.execReadClock tag part s
  | .startClosing tag => Sys2Proof.Machine.execStartClosing tag s
  | .startOpening tag => Sys2Proof.Machine.execStartOpening tag s
  | .skipFloor tag => Sys2Proof.Machine.execSkipFloor tag s
  | .abortProgramme tag => Sys2Proof.Machine.execAbortProgramme tag s
  | .setProgramme tag fields => Sys2Proof.Machine.execSetProgramme tag fields s
  | .readProgramme tag => Sys2Proof.Machine.execReadProgramme tag s
  | .acknowledgeFire tag => Sys2Proof.Machine.execAcknowledgeFire tag s
  | .silence tag => Sys2Proof.Machine.execSilence tag s
  | .resetFire tag => Sys2Proof.Machine.execResetFire tag s
  | .setFireZone tag zone floors => Sys2Proof.Machine.execSetFireZone tag zone floors s
  | .setDetectorInput tag input fields => Sys2Proof.Machine.execSetDetectorInput tag input fields s
  | .setFireResponse tag fields => Sys2Proof.Machine.execSetFireResponse tag fields s
  | .readFire tag part => Sys2Proof.Machine.execReadFire tag part s
  | .setNode tag address kind => Sys2Proof.Machine.execSetNode tag address kind s
  | .readNode tag address => Sys2Proof.Machine.execReadNode tag address s
  | .encoderCount forward => Sys2Proof.Machine.execEncoderCount forward s
  | .indexMark => Sys2Proof.Machine.execIndexMark s
  | .carTagStrobe carTag => Sys2Proof.Machine.execCarTagStrobe carTag s
  | .windowEnd => Sys2Proof.Machine.execWindowEnd s
  | .runupTimeout => Sys2Proof.Machine.execRunupTimeout s
  | .homingTimeout => Sys2Proof.Machine.execHomingTimeout s
  | .safetyChainOpen => Sys2Proof.Machine.execSafetyChainOpen s
  | .safetyChainClose => Sys2Proof.Machine.execSafetyChainClose s
  | .inspectionKeyOn => Sys2Proof.Machine.execInspectionKeyOn s
  | .inspectionKeyOff => Sys2Proof.Machine.execInspectionKeyOff s
  | .inspectionButtonPress up => Sys2Proof.Machine.execInspectionButtonPress up s
  | .inspectionButtonRelease up => Sys2Proof.Machine.execInspectionButtonRelease up s
  | .settleExpiry group owner => Sys2Proof.Machine.execSettleExpiry group owner s
  | .mainsDipAsserted => Sys2Proof.Machine.execMainsDipAsserted s
  | .mainsDipReleased => Sys2Proof.Machine.execMainsDipReleased s
  | .restartTimerExpiry => Sys2Proof.Machine.execRestartTimerExpiry s
  | .pollSlot => Sys2Proof.Machine.execPollSlot s
  | .pollReply address input0 input1 last => Sys2Proof.Machine.execPollReply address input0 input1 last s
  | .pollMissed => Sys2Proof.Machine.execPollMissed s
  | .warningTimerExpiry shutter => Sys2Proof.Machine.execWarningTimerExpiry shutter s
  | .descentTimeout shutter => Sys2Proof.Machine.execDescentTimeout shutter s
  | .clearTimerExpiry shutter => Sys2Proof.Machine.execClearTimerExpiry shutter s
  | .holdTimerExpiry shutter => Sys2Proof.Machine.execHoldTimerExpiry shutter s
  | .raiseTimeout shutter => Sys2Proof.Machine.execRaiseTimeout shutter s
  | .urgentWindowExpiry station button => Sys2Proof.Machine.execUrgentWindowExpiry station button s
  | .roundTimerExpiry call => Sys2Proof.Machine.execRoundTimerExpiry call s
  | .patternElementEnd stamp => Sys2Proof.Machine.execPatternElementEnd stamp s
  | .soundingEnd stamp => Sys2Proof.Machine.execSoundingEnd stamp s
  | .clockSecond => Sys2Proof.Machine.execClockSecond s
  | .cueReservationDue cue => Sys2Proof.Machine.execCueReservationDue cue s
  | .cueSlot cue => Sys2Proof.Machine.execCueSlot cue s
  | .stepDeadlineExpiry => Sys2Proof.Machine.execStepDeadlineExpiry s
  | .sweepTimeout => Sys2Proof.Machine.execSweepTimeout s
  | .placingRetryExpiry => Sys2Proof.Machine.execPlacingRetryExpiry s
  | .dwellExpiry => Sys2Proof.Machine.execDwellExpiry s
  | .confirmTimerExpiry zone => Sys2Proof.Machine.execConfirmTimerExpiry zone s
  | .delayTimerExpiry => Sys2Proof.Machine.execDelayTimerExpiry s
  | .ackTimerExpiry => Sys2Proof.Machine.execAckTimerExpiry s
  | .pulseTimerExpiry => Sys2Proof.Machine.execPulseTimerExpiry s

end Sys2Proof.Machine
end

