-- ==== Sys2Proof/Machine/Tick.lean ====
section
/-! DEFINITION. What the time base does while no command waits: 50 ms pass, and the commands that fall due join the
queue (log entry 9). -/

namespace Sys2Proof.Machine

/-! ### 50 ms pass for each block -/

def Shutter.tick (r : Shutter) : Shutter :=
  { r with warningTimer := r.warningTimer.tick, descentTimer := r.descentTimer.tick, raiseTimer := r.raiseTimer.tick
           clearTimer := r.clearTimer.tick, holdTimer := r.holdTimer.tick }

def Move.tick (m : Move) : Move :=
  match m.phase with
  | .settling n => { m with phase := .settling (n - 1) }
  | .running | .paused => m

def Supply.tick (u : Supply) : Supply :=
  { u with restartTimer := u.restartTimer.tick
           groups := u.groups.map fun g => { g with moves := g.moves.map Move.tick } }

def Sounder.tick (u : Sounder) : Sounder :=
  { u with playing := u.playing.map fun p => { p with left := p.left - 1, elementLeft := p.elementLeft - 1 }
           reservations := u.reservations.map fun r => { r with lead := r.lead - 1 } }

def Calls.tick (c : Calls) : Calls :=
  { c with calls := c.calls.map fun r => { r with roundTimer := r.roundTimer.tick, age := r.age + 1 }
           stations := c.stations.map fun o => o.map fun st => { st with window := st.window.map Timer.tick } }

def Programme.tick (p : Programme) : Programme :=
  { p with deadline := p.deadline.tick, placingRetry := p.placingRetry.tick }

def Fire.tick (f : Fire) : Fire :=
  { f with delayTimer := f.delayTimer.tick, ackTimer := f.ackTimer.tick, pulseTimer := f.pulseTimer.tick
           zones := f.zones.map fun z => { z with confirmTimer := z.confirmTimer.tick } }

/-! ### What falls due in the 50 ms -/

/-- The numbers of a table's present records whose timer comes to 0 now. -/
def dueIn {α : Type} (table : List (Option α)) (timer : α → Timer) : List Nat :=
  presentWhere table fun r => (timer r).dueNow

def Chain.due (c : Chain) : List Instr :=
  (if c.runupTimer.dueNow then [.runupTimeout] else []) ++ if c.homingTimer.dueNow then [.homingTimeout] else []

def Shutters.due (t : Shutters) : List Instr :=
  (dueIn t.table Shutter.warningTimer).map .warningTimerExpiry ++
    (dueIn t.table Shutter.clearTimer).map .clearTimerExpiry ++ (dueIn t.table Shutter.holdTimer).map .holdTimerExpiry ++
    (dueIn t.table Shutter.descentTimer).map .descentTimeout ++ (dueIn t.table Shutter.raiseTimer).map .raiseTimeout

/-- The owners in a group whose settle time comes to 0 now. -/
def Group.due (g : Group) : List MoveOwner :=
  (g.moves.filter fun m => m.phase == .settling 1).map (·.owner)

def Supply.due (u : Supply) : List Instr :=
  ((List.range u.groups.length).flatMap fun g =>
    ((u.group? g).elim [] Group.due).map fun o => Instr.settleExpiry g o) ++
    if u.restartTimer.dueNow then [.restartTimerExpiry] else []

/-- A finite sounding ends as its time runs out; an element of any other sounding ends as its length has passed. -/
def Playing.due (p : Playing) : List Instr :=
  if !p.sounding.cls.isFire && p.left == 1 then [.soundingEnd p.sounding.stamp]
  else if p.elementLeft = 1 then [.patternElementEnd p.sounding.stamp] else []

def Calls.due (c : Calls) : List Instr :=
  (c.calls.filter fun r => r.roundTimer.dueNow).map (fun r => .roundTimerExpiry r.number) ++
    (List.range c.stations.length).flatMap fun n =>
      (c.station? n).elim [] fun st => (numbersWhere st.window Timer.dueNow).map fun b => .urgentWindowExpiry n b

/-- The step deadline's expiry, by the step that runs on it (R146, R147, R150). -/
def Programme.due (p : Programme) : List Instr :=
  let expiry : Instr := if p.step = some .sweep then .sweepTimeout
    else if p.step = some .dwell then .dwellExpiry else .stepDeadlineExpiry
  (if p.deadline.dueNow then [expiry] else []) ++ if p.placingRetry.dueNow then [.placingRetryExpiry] else []

def Fire.due (f : Fire) : List Instr :=
  (numbersWhere f.zones fun z => z.confirmTimer.dueNow).map .confirmTimerExpiry ++
    (if f.delayTimer.dueNow then [.delayTimerExpiry] else []) ++ (if f.ackTimer.dueNow then [.ackTimerExpiry] else []) ++
    if f.pulseTimer.dueNow then [.pulseTimerExpiry] else []

/-- The second, and the cues whose lead it brings to the horizon (R132, R135). -/
def Clock.due (c : Clock) : List Instr :=
  .clockSecond ::
    (numbersWhere c.cues fun q => c.isSet && q.phase == .waiting && q.lead == Config.horizon + 1).map .cueReservationDue

/-- The cues whose reservation comes to its slot now. -/
def Sounder.slots (u : Sounder) : List Instr := (u.reservations.filter fun r => r.lead == 1).map fun r => .cueSlot r.cue

/-- The transmitter has a frame to end: the longest frame lasts less than 50 ms. -/
def Link.due (k : Link) : List Instr := if k.sending.isSome then [.frameSent] else []

/-- Everything that falls due in the 50 ms, in the order it is taken (log entry 9): ends of soundings before slots. -/
def State.due (s : State) : List Instr :=
  (if s.ticks % 2 = 1 then [.windowEnd] else []) ++ s.chn.due ++ s.sht.due ++ s.sup.due ++
    s.snd.playing.flatMap Playing.due ++ s.cal.due ++ s.prg.due ++ s.fir.due ++
    (if s.ticks % Config.ticksPerSecond = Config.ticksPerSecond - 1 then s.clk.due else []) ++ s.snd.slots ++ s.lnk.due

/-- 50 ms pass with no command waiting. -/
def tick (s : State) : State :=
  { s with
    chn := { s.chn with runupTimer := s.chn.runupTimer.tick, homingTimer := s.chn.homingTimer.tick }
    sht := { table := s.sht.table.map fun o => o.map Shutter.tick }
    sup := s.sup.tick
    snd := s.snd.tick
    cal := s.cal.tick
    prg := s.prg.tick
    fir := s.fir.tick
    ticks := (s.ticks + 1) % Config.ticksPerSecond
    pending := s.pending ++ s.due }

end Sys2Proof.Machine
end

