-- ==== Sys2Proof/Safety.lean ====
section
/-! DEFINITION. The terms claims use: when the part is ready for an order, what an answer or a notice adds, the bounds of
the tables, and the states in which no curtain moves across a moving chain. -/

namespace Sys2Proof.Machine

/-! ### Ready for an order -/

/-- The part is ready for an order: nothing is still to be taken, no request waits, and the answer list has room (R184,
R185). -/
def State.ready (s : State) : Bool := s.quiet && s.lnk.requests.isEmpty && s.lnk.hasRoom

/-- The part is ready for a configuration order: no commit is being written either (R188). -/
def State.configReady (s : State) : Bool := s.ready && s.lnk.writing.isNone

/-- `s` with the answer to one order at the end of the answer list (R185); an idle transmitter takes it up at once
(R186). -/
def State.answered (s : State) (tag : Nat) (o : Order) (r : Result) : State :=
  s.onLnk fun k => Link.start { k with answers := k.answers ++ [⟨o.kind, tag, r⟩] }

/-- `s` with one notice taken by the service link at this moment, and taken up at once by an idle transmitter (R186). -/
def State.noticed (s : State) (b : NoticeBody) : State := linkNotice b s

/-! ### Conditions under which an event disturbs no other block -/

/-- No fire condition, and no landing held. -/
def State.peaceful (s : State) : Bool := s.fir.condition == .normal && s.fir.held.isEmpty

/-- No programme runs. -/
def State.idleProgramme (s : State) : Bool := s.prg.kind == .none

/-- Every group has a settle time above 0, so that a move that ends keeps its slot for a time (R70). -/
def Supply.settles (u : Supply) : Bool := u.groups.all fun g => decide (0 < g.config.settle)

/-- The chain waits in no queue. -/
def Supply.withoutChain (u : Supply) : Bool := u.groups.all fun g => g.queue.all fun q => q.owner != .chain

/-- The floor waits for no shutter: it is neither SECURING nor OPENING (R80). -/
def Floors.waitsFor (t : Floors) (f : Nat) : Bool := t.isIn f .securing || t.isIn f .opening

/-- No sounding waits and none is in progress. -/
def Sounder.silent (u : Sounder) : Bool := u.queue.isEmpty && u.playing.isEmpty

/-! ### Bounds -/

/-- The buffers of the service link hold no more than their places, and the notice count is a byte (R184, R185, R186). -/
def Link.bounded (k : Link) : Bool :=
  decide (k.requests.length ≤ Config.requestPlaces) && decide (k.answers.length ≤ Config.answerPlaces) &&
    decide (k.notices.length ≤ Config.noticePlaces) && decide (k.count < 256)

/-- Every group's queue has at most 16 requests and its set no more moves than its capacity (R67, R69). -/
def Supply.bounded (u : Supply) : Bool :=
  u.groups.all fun g =>
    decide (g.queue.length ≤ Config.moveQueuePlaces) && decide (g.moves.length ≤ g.config.capacity)

/-- At most 24 soundings queue and at most 16 reservations stand (R101, R106). -/
def Sounder.bounded (u : Sounder) : Bool :=
  decide (u.queue.length ≤ Config.sounderPlaces) && decide (u.reservations.length ≤ Config.reservationPlaces)

/-- At most 32 calls are open (R118). -/
def Calls.bounded (c : Calls) : Bool := decide (c.calls.length ≤ Config.callPlaces)

/-- Every table of varying length keeps to its places. -/
def State.bounded (s : State) : Bool := s.lnk.bounded && s.sup.bounded && s.snd.bounded && s.cal.bounded

/-! ### The chain and the landing shutters -/

/-- A shutter state in which the curtain is on its way, or about to be (R62). -/
def ShutterState.onTheWay : ShutterState → Bool
  | .warning | .descending | .arrested | .raising => true
  | _ => false

/-- While the chain is in a moving state, no landing shutter is in WARNING, DESCENDING, ARRESTED or RAISING (R62). -/
def State.landingSafe (s : State) : Bool :=
  !s.chn.state.moving || s.sht.table.all fun o => o.all fun r => !r.isLanding || !r.state.onTheWay

/-! ### The sounder zones -/

/-- No two soundings in progress hold a zone in common (R96). -/
def Sounder.zonesApart (u : Sounder) : Prop :=
  u.playing.Pairwise fun p q => ∀ z, z ∈ p.sounding.zones → z ∉ q.sounding.zones

/-! ### Results several statements share -/

/-- The chain in a state, its run-up and homing timers stopped and the reverse contactor off (R6, R9, R15). -/
def Chain.into (c : Chain) (st : ChainState) : Chain :=
  { c with state := st, runupTimer := .stopped, homingTimer := .stopped, reverse := false }

/-- A trip of a chain not yet TRIPPED: the record, no plan, the end of an active move, and the notice (R22). -/
def State.tripped (cause : TripCause) (s : State) : State :=
  let record : TripRecord :=
    { causes := [cause], first := cause, position := if s.chn.known then some s.chn.x else none, state := s.chn.state }
  { s with
    chn := { s.chn.into .tripped with plan := none, trip := some record }
    sup := if s.chn.state.moving then (supplyEnded .chain s).sup else s.sup }.noticed (.chainTripped record)

/-- Conditions under which a change of the chain's state disturbs no other block: no programme, no fire condition, and
settle times above 0. -/
def State.alone (s : State) : Bool := s.idleProgramme && s.peaceful && s.sup.settles

/-- A request of the chain joins the head of its group's queue (R68). -/
def Supply.chainQueued (u : Supply) (g : Nat) (kind : ChainMove) : Supply :=
  { u with groups := u.groups.modify g fun r => { r with queue := ⟨.chain, .chain kind⟩ :: r.queue } }

/-- A move is admitted to a group whose queue was empty (R69). -/
def Supply.withMove (u : Supply) (g : Nat) (owner : MoveOwner) (kind : MoveKind) : Supply :=
  { u with groups := u.groups.modify g fun r => { r with moves := r.moves ++ [⟨owner, kind, .running⟩] }
           order := u.order ++ [owner] }

/-- The group has a place in its queue, and a request that joins it waits: the supply is not STEADY or no slot is free
(R68, R69). -/
def Supply.holds (u : Supply) (g : Nat) : Bool :=
  (u.groups[g]?).any fun r =>
    decide (r.queue.length < 16) && (u.mode != .steady || decide (r.config.capacity ≤ r.moves.length))

/-- A request of the group is admitted at once: the supply is STEADY, nothing queues, and a slot is free (R69). -/
def Supply.admits (u : Supply) (g : Nat) : Bool :=
  (u.groups[g]?).any fun r => u.mode == .steady && r.queue.isEmpty && decide (r.moves.length < r.config.capacity)

/-- The owner waits in no queue but, if at all, that of group `g` (R71). -/
def Supply.waitsOnlyIn (u : Supply) (owner : MoveOwner) (g : Nat) : Bool :=
  (List.range u.groups.length).all fun k =>
    k == g || (u.groups[k]?).all fun r => r.queue.all fun q => q.owner != owner

/-- The owner's request is taken out of the queue of group `g` (R71). -/
def Supply.withdrawn (u : Supply) (owner : MoveOwner) (g : Nat) : Supply :=
  { u with groups := u.groups.modify g fun r => { r with queue := r.queue.filter fun q => q.owner != owner } }

/-- A shutter record with every timer stopped and the paused and edge-ignored marks clear, in a state (R42). -/
def Shutter.resting (r : Shutter) (st : ShutterState) : Shutter :=
  { r with state := st, warningTimer := .stopped, descentTimer := .stopped, raiseTimer := .stopped
           clearTimer := .stopped, holdTimer := .stopped, paused := false, edgeIgnored := false }

/-- The held-still state of a position, and the forced mark that OPEN and PART_OPEN clear (R42, R46, R53). -/
def Shutter.held (r : Shutter) : Shutter :=
  let st := if r.position = .top then .opened else if r.position = .bottom then .closed else .partOpen
  { r.resting st with forced := r.forced && st == .closed }

/-- A sounding in progress from its first element (R96). -/
def Sounder.begun (u : Sounder) (x : Sounding) : Playing :=
  { sounding := x, left := x.duration, pass := 0, element := 0
    elementLeft := (((u.patterns[x.pattern]?).getD [])[0]?.map (·.length)).getD 0 }

/-- No sounding in progress holds a zone of the set (R96, R103). -/
def Sounder.free (u : Sounder) (zones : List Nat) : Bool :=
  u.playing.all fun p => p.sounding.zones.all fun z => !zones.contains z

/-- EVACUATE sounds alone on every zone, in ascending zone order (R98). -/
def Sounder.evacuated (u : Sounder) (pattern : Nat) : Sounder :=
  { u with
    playing := (List.range 8).map fun z =>
      u.begun { cls := .evacuate, pattern := pattern, zones := [z], repeats := none, origin := .fire
                stamp := u.nextStamp + z, duration := 0 }
    nextStamp := u.nextStamp + 8 }

/-- The sounding of a CUE that arrives now (R95). -/
def Sounder.cue (u : Sounder) (pattern : Nat) (zones : List Nat) (repeats : Nat) (origin : SoundOrigin) : Sounding :=
  { cls := .cue, pattern := pattern, zones := zones, repeats := some repeats, origin := origin, stamp := u.nextStamp
    duration := patternDuration ((u.patterns[pattern]?).getD []) * repeats }

/-- A CUE arrives at an empty queue: it starts where its zones are free, else it waits (R102, R103). -/
def Sounder.arrived (u : Sounder) (x : Sounding) : Sounder :=
  if u.free x.zones then { u with playing := u.playing ++ [u.begun x], nextStamp := u.nextStamp + 1 }
  else { u with queue := [x], nextStamp := u.nextStamp + 1 }

/-- A call's round that arrives at an empty queue with its zones free and no reservation: it starts at once, and its team
moves to the back of the team order list (R103, R104). -/
def Sounder.rung (u : Sounder) (cls : SoundClass) (pattern : Nat) (zones : List Nat) (repeats call team : Nat) : Sounder :=
  { u with
    playing := u.playing ++ [u.begun { u.cue pattern zones repeats (.call call team) with cls := cls }]
    teamOrder := (u.teamOrder.filter fun t => t != team) ++ u.teamOrder.filter fun t => t == team
    nextStamp := u.nextStamp + 1 }

/-- The `k`-th entry of the team's ring from the pointer is the member, the first who is free (R121). -/
def Calls.firstFree (c : Calls) (t : Team) (k member : Nat) : Bool :=
  let entry (j : Nat) : Option Nat := t.ring[(t.pointer + j) % t.ring.length]?
  decide (k < t.ring.length) && entry k == some member && c.isFree member &&
    (List.range k).all fun j => (entry j).all fun m => !c.isFree m

/-- The bytes of a frame arrive one by one, without a framing error (R183). -/
def feed : List Byte → State → Host.Outcome State Fault Refusal
  | [], s => .next s
  | b :: l, s =>
    match exec (.receiveByte b false) s with
    | .next t => feed l t
    | .fault f => .fault f
    | .refused r => .refused r

end Sys2Proof.Machine
end

