-- ==== Sys2Proof/WellFormed.lean ====
section
/-! DEFINITION. Well-formed commands: the fields of an order fit the bytes section 12.7 gives them and its body fits a
frame, and an event names an item that exists. -/

namespace Sys2Proof

open Machine

/-- Every field of a layout fits its width. -/
def fieldsFit (l : List (Nat × Nat)) : Bool := l.all fun p => decide (p.2 < 256 ^ p.1)

/-- The bytes a layout takes. -/
def layoutBytes (l : List (Nat × Nat)) : Nat := (l.map (·.1)).sum

/-- The order can stand in a frame: a body of at most 120 bytes (R183). -/
def Machine.Order.wellFormed (o : Order) : Bool := fieldsFit o.layout && decide (layoutBytes o.layout ≤ 120)

/-- The order or enquiry a command carries, with its tag; none for an event. -/
def Instr.order? : Instr → Option (Nat × Order)
  | .readStatus tag => some (tag, .readStatus)
  | .commitConfiguration tag => some (tag, .commitConfiguration)
  | .serviceReset tag => some (tag, .serviceReset)
  | .runChain tag => some (tag, .runChain)
  | .stopChain tag landings => some (tag, .stopChain landings)
  | .haltChain tag => some (tag, .haltChain)
  | .homeChain tag => some (tag, .homeChain)
  | .resetChainTrip tag => some (tag, .resetChainTrip)
  | .setChainGeometry tag fields => some (tag, .setChainGeometry fields)
  | .setLanding tag landing fields => some (tag, .setLanding landing fields)
  | .setChainTiming tag fields => some (tag, .setChainTiming fields)
  | .readClearance tag part => some (tag, .readClearance part)
  | .dropShutter tag shutter => some (tag, .dropShutter shutter)
  | .forceDrop tag shutter => some (tag, .forceDrop shutter)
  | .raiseShutter tag shutter => some (tag, .raiseShutter shutter)
  | .clearShutterFault tag shutter => some (tag, .clearShutterFault shutter)
  | .setShutter tag shutter fields => some (tag, .setShutter shutter fields)
  | .readShutter tag shutter => some (tag, .readShutter shutter)
  | .setSupplyGroup tag group capacity settle => some (tag, .setSupplyGroup group capacity settle)
  | .readSupply tag part => some (tag, .readSupply part)
  | .setFloorState tag floor state => some (tag, .setFloorState floor state)
  | .setFloor tag floor zones sweepTeam wardenTeam => some (tag, .setFloor floor zones sweepTeam wardenTeam)
  | .readFloor tag floor part => some (tag, .readFloor floor part)
  | .setPattern tag pattern elements => some (tag, .setPattern pattern elements)
  | .sound tag pattern zones repeats => some (tag, .sound pattern zones repeats)
  | .readSounder tag part => some (tag, .readSounder part)
  | .placeCall tag station button => some (tag, .placeCall station button)
  | .cancelCall tag call => some (tag, .cancelCall call)
  | .setStation tag station fields => some (tag, .setStation station fields)
  | .loadDutyList tag team start entries => some (tag, .loadDutyList team start entries)
  | .setTeam tag team pattern => some (tag, .setTeam team pattern)
  | .setStaff tag member pattern => some (tag, .setStaff member pattern)
  | .setDuty tag member onDuty => some (tag, .setDuty member onDuty)
  | .setCallTiming tag fields => some (tag, .setCallTiming fields)
  | .readCalls tag part => some (tag, .readCalls part)
  | .setTime tag time day => some (tag, .setTime time day)
  | .setCue tag cue fields => some (tag, .setCue cue fields)
  | .readClock tag part => some (tag, .readClock part)
  | .startClosing tag => some (tag, .startClosing)
  | .startOpening tag => some (tag, .startOpening)
  | .skipFloor tag => some (tag, .skipFloor)
  | .abortProgramme tag => some (tag, .abortProgramme)
  | .setProgramme tag fields => some (tag, .setProgramme fields)
  | .readProgramme tag => some (tag, .readProgramme)
  | .acknowledgeFire tag => some (tag, .acknowledgeFire)
  | .silence tag => some (tag, .silence)
  | .resetFire tag => some (tag, .resetFire)
  | .setFireZone tag zone floors => some (tag, .setFireZone zone floors)
  | .setDetectorInput tag input fields => some (tag, .setDetectorInput input fields)
  | .setFireResponse tag fields => some (tag, .setFireResponse fields)
  | .readFire tag part => some (tag, .readFire part)
  | .setNode tag address kind => some (tag, .setNode address kind)
  | .readNode tag address => some (tag, .readNode address)
  | .fullReset | .receiveByte _ _ | .receiveGap | .lineBreak | .frameSent | .commitWriteEnd _ | .encoderCount _
  | .indexMark | .carTagStrobe _ | .windowEnd | .runupTimeout | .homingTimeout | .safetyChainOpen
  | .safetyChainClose | .inspectionKeyOn | .inspectionKeyOff | .inspectionButtonPress _
  | .inspectionButtonRelease _ | .settleExpiry _ _ | .mainsDipAsserted | .mainsDipReleased | .restartTimerExpiry
  | .pollSlot | .pollReply _ _ _ _ | .pollMissed | .warningTimerExpiry _ | .descentTimeout _ | .clearTimerExpiry _
  | .holdTimerExpiry _ | .raiseTimeout _ | .urgentWindowExpiry _ _ | .roundTimerExpiry _ | .patternElementEnd _
  | .soundingEnd _ | .clockSecond | .cueReservationDue _ | .cueSlot _ | .stepDeadlineExpiry | .sweepTimeout
  | .placingRetryExpiry | .dwellExpiry | .confirmTimerExpiry _ | .delayTimerExpiry | .ackTimerExpiry
  | .pulseTimerExpiry => none

/-- The owner of a supply move exists (R67). -/
def MoveOwner.wellFormed : MoveOwner → Bool
  | .shutter n => decide (n ≤ 47)
  | .chain => true

/-- The item an event names exists. -/
def Instr.eventWellFormed : Instr → Bool
  | .settleExpiry g o => decide (g ≤ 7) && o.wellFormed
  | .warningTimerExpiry n | .descentTimeout n | .clearTimerExpiry n | .holdTimerExpiry n | .raiseTimeout n =>
    decide (n ≤ 47)
  | .urgentWindowExpiry st b => decide (st ≤ 23) && decide (b ≤ 3)
  | .roundTimerExpiry n => decide (1 ≤ n) && decide (n ≤ 65535)
  | .cueReservationDue n | .cueSlot n => decide (n ≤ 23)
  | .confirmTimerExpiry z => decide (z ≤ 7)
  | _ => true

/-- A well-formed command. -/
def Instr.wellFormed (i : Instr) : Bool :=
  match i.order? with
  | some (tag, o) => decide (tag < 256) && o.wellFormed
  | none => i.eventWellFormed

end Sys2Proof
end

