-- ==== Sys2Proof/Certificates/Slice0/Obligations.lean ====
section
/-! DEFINITION. The statements for the provers. An order's statement is about a part that is ready for it (`State.ready`,
`State.configReady`); `State.answered` adds its answer and nothing else, so that each equation is the order's whole effect
and its frame. -/

open Sys2Proof Sys2Proof.Machine

/-! ### The queue, the tick and reset -/

/-- A step with a command at the front of the queue is that command's effect with the rest of the queue. How a command
is taken is the model's choice (log entry 4). -/
def Obligations.StepTakesQueueFront : Prop :=
  ∀ (c : Instr) (rest : List Instr) (s : State), step { s with pending := c :: rest } = exec c { s with pending := rest }

/-- On an empty queue 50 ms pass, and nothing else: the phase moves on by one of the twenty of a second, every running
timer of the part falls by one unit, a call's age rises by one, and what falls due joins the queue: a timer's expiry as
its timer comes to 0, a cue's slot as its lead does, the end of the frame being sent, and a window of 100 ms in every
second one (the model's choice, log entry 9). That leads of reservations fall so is log entry 23, and that timers count
units of 50 ms is log entry 42. -/
def Obligations.EmptyQueueTicks : Prop :=
  ∀ s : State, s.pending = [] →
    step s = .next { s with
      chn := { s.chn with runupTimer := s.chn.runupTimer.tick, homingTimer := s.chn.homingTimer.tick }
      sht := { table := s.sht.table.map fun o => o.map fun r =>
        { r with
          warningTimer := r.warningTimer.tick, descentTimer := r.descentTimer.tick, raiseTimer := r.raiseTimer.tick
          clearTimer := r.clearTimer.tick, holdTimer := r.holdTimer.tick } }
      sup := { s.sup with
        restartTimer := s.sup.restartTimer.tick
        groups := s.sup.groups.map fun g => { g with moves := g.moves.map fun (m : Move) =>
          { m with phase := match m.phase with
            | .settling n => .settling (n - 1)
            | p => p } } }
      snd := { s.snd with
        playing := s.snd.playing.map fun p => { p with left := p.left - 1, elementLeft := p.elementLeft - 1 }
        reservations := s.snd.reservations.map fun r => { r with lead := r.lead - 1 } }
      cal := { s.cal with
        calls := s.cal.calls.map fun r => { r with roundTimer := r.roundTimer.tick, age := r.age + 1 }
        stations := s.cal.stations.map fun o => o.map fun st => { st with window := st.window.map Timer.tick } }
      prg := { s.prg with deadline := s.prg.deadline.tick, placingRetry := s.prg.placingRetry.tick }
      fir := { s.fir with
        delayTimer := s.fir.delayTimer.tick, ackTimer := s.fir.ackTimer.tick, pulseTimer := s.fir.pulseTimer.tick
        zones := s.fir.zones.map fun z => { z with confirmTimer := z.confirmTimer.tick } }
      ticks := (s.ticks + 1) % 20
      pending := s.due } ∧
    (s.ticks % 2 = 1 → .windowEnd ∈ s.due) ∧ (s.ticks % 20 = 19 → .clockSecond ∈ s.due) ∧
    (s.chn.runupTimer = .running 1 → .runupTimeout ∈ s.due) ∧ (s.chn.homingTimer = .running 1 → .homingTimeout ∈ s.due) ∧
    (∀ n, ∀ r ∈ s.sht.get? n,
      (r.warningTimer = .running 1 → .warningTimerExpiry n ∈ s.due) ∧
      (r.descentTimer = .running 1 → .descentTimeout n ∈ s.due) ∧ (r.raiseTimer = .running 1 → .raiseTimeout n ∈ s.due) ∧
      (r.clearTimer = .running 1 → .clearTimerExpiry n ∈ s.due) ∧
      (r.holdTimer = .running 1 → .holdTimerExpiry n ∈ s.due)) ∧
    (∀ g, ∀ r ∈ s.sup.groups[g]?, ∀ m ∈ r.moves, m.phase = .settling 1 → .settleExpiry g m.owner ∈ s.due) ∧
    (s.sup.restartTimer = .running 1 → .restartTimerExpiry ∈ s.due) ∧
    (∀ p ∈ s.snd.playing,
      (p.sounding.cls.isFire = false → p.left = 1 → .soundingEnd p.sounding.stamp ∈ s.due) ∧
      (p.sounding.cls.isFire = true ∨ p.left ≠ 1 → p.elementLeft = 1 → .patternElementEnd p.sounding.stamp ∈ s.due)) ∧
    (∀ r ∈ s.cal.calls, r.roundTimer = .running 1 → .roundTimerExpiry r.number ∈ s.due) ∧
    (∀ n b, ∀ st ∈ s.cal.station? n, st.window[b]? = some (.running 1) → .urgentWindowExpiry n b ∈ s.due) ∧
    (∀ n, ∀ q ∈ s.clk.cues[n]?, s.ticks % 20 = 19 → s.clk.isSet = true → q.phase = .waiting → q.lead = 301 →
      .cueReservationDue n ∈ s.due) ∧
    (s.prg.deadline = .running 1 →
      (if s.prg.step = some .sweep then .sweepTimeout
        else if s.prg.step = some .dwell then .dwellExpiry else .stepDeadlineExpiry) ∈ s.due) ∧
    (s.prg.placingRetry = .running 1 → .placingRetryExpiry ∈ s.due) ∧
    (∀ z, ∀ r ∈ s.fir.zones[z]?, r.confirmTimer = .running 1 → .confirmTimerExpiry z ∈ s.due) ∧
    (s.fir.delayTimer = .running 1 → .delayTimerExpiry ∈ s.due) ∧ (s.fir.ackTimer = .running 1 → .ackTimerExpiry ∈ s.due) ∧
    (s.fir.pulseTimer = .running 1 → .pulseTimerExpiry ∈ s.due) ∧
    (∀ r ∈ s.snd.reservations, r.lead = 1 → .cueSlot r.cue ∈ s.due) ∧ (s.lnk.sending ≠ none → .frameSent ∈ s.due)

/-- No command changes the command queue, and every command leaves the part quiet: whatever one block handed to another
has been taken within it. That a command and all it hands on is taken whole is the model's choice (log entry 4). -/
def Obligations.CommandsSettle : Prop :=
  ∀ (c : Instr) (s t : State), exec c s = .next t → t.pending = s.pending ∧ t.quiet = true

/-- The configuration is valid at reset, as a store image is checked, and the stored gap table is that of the
configuration held; every step of a quiet part keeps both, and leaves it quiet. That an image without a clear gap is not
valid is the model's reading (log entry 76). -/
def Obligations.ConfigurationStaysValid : Prop :=
  State.reset.image.valid = true ∧ State.reset.clr.table = State.reset.chn.config.storedTable ∧
  ∀ s t : State, s.quiet = true → step s = .next t →
    t.quiet = true ∧ (s.image.valid = true → t.image.valid = true) ∧
    (s.clr.table = s.chn.config.storedTable → t.clr.table = t.chn.config.storedTable)

/-- What the blocks' reset sections give for a full reset with no valid store; and the invariants that every step keeps
hold at reset. That the store holds no valid image is the model's choice (log entry 2). -/
def Obligations.ResetState : Prop :=
  (let s := State.reset
  s.chn.state = .halted ∧ s.chn.x = 0 ∧ s.chn.known = false ∧ s.chn.lastCar = none ∧ s.chn.stallRun = 0 ∧
    s.chn.creepCount = 0 ∧ s.chn.request = none ∧ s.chn.plan = none ∧ s.chn.park = none ∧ s.chn.trip = none ∧
    s.chn.clearance = [] ∧ s.chn.rest = 0 ∧ s.chn.config.geometry = none ∧ s.chn.config.timing = none ∧
    s.clr.table = [] ∧ s.sht.table = List.replicate 48 none ∧
    (s.sup.groups.length = 8 ∧ s.sup.groups.all fun g => g.config == ⟨1, 0⟩ && g.moves.isEmpty && g.queue.isEmpty) ∧
    s.sup.order = [] ∧ s.sup.mode = .steady ∧
    (s.flr.table.length = 8 ∧
      s.flr.table.all fun f => f.state == .shut && f.faulted == 0 && f.confirmation == none && f.config == ⟨[], 0, 0⟩) ∧
    s.snd.playing = [] ∧ s.snd.queue = [] ∧ s.snd.reservations = [] ∧ s.snd.teamOrder = List.range 12 ∧
    (s.snd.patterns = List.replicate 32 [⟨some 0, 1⟩]) ∧ s.cal.calls = [] ∧ s.cal.nextNumber = 1 ∧
    s.cal.stations = List.replicate 24 none ∧ s.cal.timing = ⟨2, 3, 60, 1⟩ ∧ s.clk.isSet = false ∧ s.clk.time = 0 ∧
    s.clk.day = 0 ∧ (s.clk.cues.length = 24 ∧ s.clk.cues.all fun q => q.phase == .idle && q.occurrence == none) ∧
    s.prg.kind = .none ∧ s.prg.settings = ⟨0, 0, 0, 0, 0, 60, 60, 60, 60, 120, 0⟩ ∧ s.prg.last = none ∧
    s.fir.condition = .normal ∧ s.fir.brigade = false ∧ s.fir.pulses = 0 ∧ s.fir.held = [] ∧
    s.fir.settings = ⟨0, 0, 0, 0, 120⟩ ∧ (s.fir.zones.all fun z => z.floors.isEmpty && z.state == .normal) ∧
    s.flp.nodes = List.replicate 64 none ∧ s.flp.ordinary = none ∧ s.flp.motion = none ∧ s.flp.phase = 1 ∧
    s.lnk.assembler = .hunt ∧ s.lnk.requests = [] ∧ s.lnk.answers = [] ∧ s.lnk.sending = none ∧ s.lnk.notices = [] ∧
    s.lnk.lost = true ∧ s.lnk.count = 0 ∧ s.lnk.storeValid = false ∧ s.lnk.writing = none) ∧
  (State.reset.bounded = true ∧ State.reset.landingSafe = true ∧
  State.reset.snd.zonesApart ∧ State.reset.quiet = true ∧ State.reset.lnk.wantsToSend = false)

/-- FULL RESET with the safety chain closed, the key off and the dip input released leaves the part exactly as the load
of its store gives it: the image where it is valid, and otherwise the values of a store that is not valid, with the
inputs, the queue and the store as they were. An open safety chain trips the chain at once, a key that is on puts a
configured chain in INSPECTION_IDLE, and an asserted dip input makes the supply DIPPED with a SUPPLY_DIP of 0 moves.
That the command queue and the direct inputs stand as they were, that the fields without a reset value of their own take
those of State.reset, and that the counter of free positions is kept, are the model's choices (log entries 1, 11 and
40); that an image without a clear gap is not valid is its reading (log entry 76). -/
def Obligations.FullResetLoads : Prop :=
  ∀ s : State,
    let t := loaded (s.lnk.loadable.getD State.reset.image) s
    (s.chn.safetyClosed = true → s.chn.keyOn = false → s.sup.dip = false →
      (exec .fullReset s = .next t) ∧
      (s.lnk.loadable = none →
        exec .fullReset s = .next { State.reset with
          chn := { State.reset.chn with upHeld := s.chn.upHeld, downHeld := s.chn.downHeld, openUses := s.chn.openUses }
          lnk := { State.reset.lnk with store := s.lnk.storeAtReset }
          pending := s.pending })) ∧
    (t.lnk.storeValid = s.lnk.loadable.isSome) ∧ (s.lnk.writing ≠ none → s.lnk.loadable = none) ∧
    (s.chn.safetyClosed = false → s.sup.dip = false → exec .fullReset s = .next (t.tripped .safetyChain)) ∧
    (s.chn.safetyClosed = true → s.chn.keyOn = true → s.sup.dip = false →
      exec .fullReset s = .next
        (t.onChn fun c => { c with state := if c.config.configured then .inspectionIdle else .halted })) ∧
    (s.chn.safetyClosed = true → s.chn.keyOn = false → s.sup.dip = true →
      exec .fullReset s = .next ((t.onSup fun u => { u with mode := .dipped }).noticed (.supplyDip 0)))

/-! ### Bounds and laws that every step keeps -/

/-- No step of a quiet part takes a buffer, a queue or a list past its places, or a group's moves past its capacity; and no
step leaves an idle transmitter with something waiting. -/
def Obligations.StepsKeepBounds : Prop :=
  ∀ s t : State, s.quiet = true → step s = .next t →
    (s.bounded = true → t.bounded = true) ∧ (s.lnk.wantsToSend = false → t.lnk.wantsToSend = false)

/-- No step of a quiet part brings a landing shutter to WARNING, DESCENDING, ARRESTED or RAISING while the chain is in a
moving state, or the chain to a moving state while one of them is. -/
def Obligations.StepsKeepLandingsSafe : Prop :=
  ∀ s t : State, s.quiet = true → s.landingSafe = true → step s = .next t → t.landingSafe = true

/-- No step of a quiet part has two soundings hold one zone. -/
def Obligations.StepsKeepZonesApart : Prop :=
  ∀ s t : State, s.quiet = true → s.snd.zonesApart → step s = .next t → t.snd.zonesApart

/-- The team order list holds the twelve teams once each at reset, and one message alone changes it: the start of a
call-class sounding, whose team moves to the back. FULL RESET, a command and no message, sets the list anew (R112) and
is not spoken of here. -/
def Obligations.TeamOrderMovesAtCallStart : Prop :=
  State.reset.snd.teamOrder = List.range 12 ∧
  ∀ (m : Msg) (s : State),
    (handle m s).snd.teamOrder =
      match m, s.snd.queue.find? s.snd.canStart with
      | .snd .startPass, some x =>
        match x.cls.isCall, x.origin with
        | true, .call _ team => (s.snd.teamOrder.filter (· != team)) ++ s.snd.teamOrder.filter (· == team)
        | _, _ => s.snd.teamOrder
      | _, _ => s.snd.teamOrder

/-! ### Gaps, plans, acceptance -/

/-- A gap table is right: each entry is a maximal run of clear residues, its centre is clear of every landing by at least
h + 1 + floor((w − 1)/2), every clear residue lies in an entry, and the entries stand in rising order of their first
residue, no more than one for each landing, at most one of them wrapping. -/
def Obligations.GapTableRight : Prop :=
  ∀ (pitch h : Nat) (positions : List Nat), 0 < pitch → positions ≠ [] →
    let table := gapTable pitch h positions
    (table.map (·.first)).Pairwise (· < ·) ∧ table.length ≤ positions.length ∧
    (table.filter fun g => decide (pitch < g.first + g.width)).length ≤ 1 ∧
    (∀ g ∈ table, g.first < pitch ∧ 0 < g.width ∧ g.width < pitch ∧
      (∀ k, k < g.width → residueClear pitch h positions ((g.first + k) % pitch) = true) ∧
      residueClear pitch h positions ((g.first + (pitch - 1)) % pitch) = false ∧
      residueClear pitch h positions ((g.first + g.width) % pitch) = false ∧
      g.centre = (g.first + (g.width - 1) / 2) % pitch ∧
      ∀ p ∈ positions, h + 1 + (g.width - 1) / 2 ≤ circDist pitch g.centre p) ∧
    ∀ r, r < pitch → residueClear pitch h positions r = true →
      ∃ g ∈ table, ∃ k, k < g.width ∧ r = (g.first + k) % pitch

/-- A stop plan's advance is at least the stopping distance and less than it plus one pitch, its brake point is the way
beyond the stopping distance, and its target lies clear of every landing of the set by more than the planning band. A
plan with b = 0 brakes as it is made, and a set without a present landing amounts to b = 0 and d = S. The chain is
configured and its configuration valid, which every step keeps (`ConfigurationStaysValid`). -/
def Obligations.PlanReachesClearTarget : Prop :=
  ∀ (c : ChainConfig) (set : List Nat) (x0 stopping : Nat), c.configured = true → c.valid = true →
    let p := makePlan c c.storedTable set x0 stopping
    stopping ≤ p.advanceTo ∧ p.advanceTo < stopping + c.pitch ∧ p.advanceTo = stopping + p.brakeAt ∧
      p.target = (x0 + p.advanceTo) % c.loopLength ∧ (p.braked = true ↔ p.brakeAt = 0) ∧
      (c.positions set = [] → p.brakeAt = 0 ∧ p.advanceTo = stopping) ∧
      ∀ l ∈ set, ∀ position, c.position? l = some position → c.planningBand < circDist c.pitch p.target position

/-- The acceptance test. -/
def Obligations.AcceptanceTest : Prop :=
  ∀ (c : ChainConfig) (x : Nat) (set : List Nat),
    (accepts c x set = true ↔
      ∀ l ∈ set, ∀ position, c.position? l = some position → c.acceptanceBand < circDist c.pitch x position) ∧
    (∀ l, l ∈ foulingLandings c x set ↔
      l ∈ set ∧ ∃ position, c.position? l = some position ∧ circDist c.pitch x position ≤ c.acceptanceBand) ∧
    (set.Pairwise (· < ·) → (foulingLandings c x set).Pairwise (· < ·)) ∧ accepts c x [] = true

/-- The closing order and the opening order of floors from each street floor. -/
def Obligations.FloorOrders : Prop :=
  ∀ street : Nat, street ≤ 7 →
    (closingOrder street).Perm (List.range 8) ∧ (closingOrder street).getLast? = some street ∧
    (openingOrder street).Perm (List.range 8) ∧ (openingOrder street).head? = some street ∧
    (∀ a b, street < b → b < a → a ≤ 7 → [a, b].Sublist (closingOrder street) ∧ [b, a].Sublist (openingOrder street)) ∧
    (∀ a b, street < a → a ≤ 7 → b < street →
      [a, b].Sublist (closingOrder street) ∧ [a, b].Sublist (openingOrder street)) ∧
    ∀ a b, a < b → b < street → [a, b].Sublist (closingOrder street) ∧ [b, a].Sublist (openingOrder street)

/-! ### Configuration orders -/

/-- SET SUPPLY GROUP: its ranges, its state check, and its whole effect; and the values a group holds without a stored
configuration. -/
def Obligations.SetSupplyGroup : Prop :=
  (∀ (s : State) (tag g capacity settle : Nat), s.configReady = true →
    let o : Order := .setSupplyGroup g capacity settle
    let inRange := g ≤ 7 ∧ 1 ≤ capacity ∧ capacity ≤ 4
    let idle := ∀ r ∈ s.sup.groups[g]?, r.moves = [] ∧ r.queue = []
    (¬inRange → idle → exec (.setSupplyGroup tag g capacity settle) s = .next (s.answered tag o (.declined .outOfRange []))) ∧
    (inRange → ¬idle → exec (.setSupplyGroup tag g capacity settle) s = .next (s.answered tag o (.declined .wrongState []))) ∧
    (inRange → idle → exec (.setSupplyGroup tag g capacity settle) s = .next
      ((s.onSup fun u => { u with
        groups := u.groups.modify g fun r => { r with config := ⟨capacity, min settle 10⟩ } }).answered tag o
          (.done (decide (10 < settle)) [])))) ∧
  ∀ g < 8, (State.reset.sup.groups[g]?).map (·.config) = some ⟨1, 0⟩

/-- SET TEAM, SET STAFF and SET CALL TIMING change the record named and nothing else; LOAD DUTY LIST while no call is
UNASSIGNED keeps the ring up to the start index, the entries follow, and the pointer is 0; SET DUTY changes the flag
alone for a member without a call; SET STATION makes a station fresh, its marks clear and its windows stopped, or
absent. -/
def Obligations.CallTableOrders : Prop :=
  ((∀ (s : State) (tag team pattern : Nat), s.configReady = true → team ≤ 11 → pattern ≤ 31 →
    exec (.setTeam tag team pattern) s = .next
      ((s.onCal fun c => { c with teams := c.teams.modify team fun t => { t with pattern := pattern } }).answered
        tag (.setTeam team pattern) (.done false []))) ∧
  (∀ (s : State) (tag member pattern : Nat), s.configReady = true → member ≤ 63 → pattern ≤ 31 →
    exec (.setStaff tag member pattern) s = .next
      ((s.onCal fun c => { c with staff := c.staff.modify member fun m => { m with pattern := pattern } }).answered
        tag (.setStaff member pattern) (.done false []))) ∧
  ∀ (s : State) (tag repeats rounds interval escalations : Nat), s.configReady = true →
    let f : CallTimingFields := ⟨repeats, rounds, interval, escalations⟩
    let g : CallTimingFields := ⟨max 1 (min repeats 4), max 1 (min rounds 5), max 20 (min interval 300), min escalations 2⟩
    exec (.setCallTiming tag f) s = .next
      ((s.onCal fun c => { c with timing := g }).answered tag (.setCallTiming f) (.done (decide (g ≠ f)) []))) ∧
  ((∀ (s : State) (tag team start : Nat) (entries : List Nat), s.configReady = true →
    ∀ t ∈ s.cal.teams[team]?, start ≤ t.ring.length → start + entries.length ≤ 16 → (∀ e ∈ entries, e ≤ 63) →
    (∀ r ∈ s.cal.calls, r.phase ≠ .unassigned) →
    exec (.loadDutyList tag team start entries) s = .next
      ((s.onCal fun c => { c with
        teams := c.teams.set team { t with ring := t.ring.take start ++ entries, pointer := 0 } }).answered tag
        (.loadDutyList team start entries) (.done false []))) ∧
  ∀ (s : State) (tag member : Nat) (onDuty : Bool), s.configReady = true → ∀ m ∈ s.cal.staff[member]?,
    (∀ r ∈ s.cal.calls, r.phase ≠ .unassigned) → (onDuty = false → m.assigned = none) →
    exec (.setDuty tag member onDuty) s = .next
      ((s.onCal fun c => { c with staff := c.staff.set member { m with onDuty := onDuty } }).answered
        tag (.setDuty member onDuty) (.done false []))) ∧
  (∀ (s : State) (tag station : Nat) (fields : Option StationFields), s.configReady = true → station ≤ 23 →
    (∀ f ∈ fields, f.config.inRange = true ∧ s.flp.isKind f.node .station = true ∧
      ∀ k < s.cal.stations.length, ∀ r ∈ s.cal.station? k, r.config.node = f.node → k = station) →
    (∀ r ∈ s.cal.calls, r.ofStation station = false) →
    exec (.setStation tag station fields) s = .next
      ((s.onCal fun c => { c with stations := c.stations.set station (fields.map fun f =>
          { config := f.config, spent := [false, false, false, false], openCall := [none, none, none, none]
            window := [.stopped, .stopped, .stopped, .stopped] }) }).answered
        tag (.setStation station fields) (.done false [])))

/-- SET PATTERN replaces a pattern that no sounding names, its lengths brought to 1 to 40 units. SOUND at an empty
queue: a CUE of 1 to 4 repeats for the zones given starts where they are free and waits otherwise. The end of a pattern
element begins the next of the list, the first of the next pass, or the first again for an endless sounding. The end of
a SOUND order's sounding frees its zones with SOUND_ENDED; a stamp no sounding has ends nothing. That the range checks
come before IN_USE for SET PATTERN and before QUEUE_FULL for SOUND is the model's choice (log entry 22), and so is that
the tone of a rest may have any value (log entry 81); that the TAKEN of SOUND carries CLAMPED in the answer, and not in
its frame, is its reading (log entry 21). -/
def Obligations.Soundings : Prop :=
  (∀ (s : State) (tag pattern : Nat) (elements : List ElementFields), s.configReady = true → pattern ≤ 31 →
    elements ≠ [] → elements.length ≤ 16 → (∀ e ∈ elements, e.kind = 1 ∨ e.kind = 0 ∧ e.tone ≤ 3) →
    exec (.setPattern tag pattern elements) s = .next
      (if (∃ p ∈ s.snd.playing, p.sounding.pattern = pattern) ∨ ∃ x ∈ s.snd.queue, x.pattern = pattern then
        s.answered tag (.setPattern pattern elements) (.declined .inUse [])
      else
        (s.onSnd fun u => { u with patterns := u.patterns.set pattern (elements.map fun e =>
            { tone := if e.kind = 0 then some e.tone else none, length := max 1 (min e.length 40) }) }).answered
          tag (.setPattern pattern elements)
          (.done (elements.any fun e => decide (e.length < 1 ∨ 40 < e.length)) []))) ∧
  (∀ (s : State) (tag pattern zones repeats : Nat), s.ready = true →
    let set := (List.range 8).filter fun z => zones.testBit z
    (31 < pattern ∨ 255 < zones ∨ zones = 0 →
      exec (.sound tag pattern zones repeats) s = .next
        (s.answered tag (.sound pattern zones repeats) (.declined .outOfRange []))) ∧
    (pattern ≤ 31 → 0 < zones → zones < 256 → s.snd.queue = [] →
      exec (.sound tag pattern zones repeats) s = .next
        ((s.onSnd fun u => u.arrived (u.cue pattern set (max 1 (min repeats 4)) (.sound tag))).answered tag
          (.sound pattern zones repeats) (.taken (decide (max 1 (min repeats 4) ≠ repeats)))))) ∧
  (∀ (s : State) (stamp : Nat), s.quiet = true →
    exec (.patternElementEnd stamp) s = .next (s.onSnd fun u => { u with
      playing := u.playing.map fun p =>
        let elements := (u.patterns[p.sounding.pattern]?).getD []
        let at' (pass element : Nat) : Playing :=
          { p with pass := pass, element := element, elementLeft := (elements[element]?.map (·.length)).getD 0 }
        if p.sounding.stamp ≠ stamp then p
        else if p.element + 1 < elements.length then at' p.pass (p.element + 1)
        else if p.sounding.repeats = none then at' 0 0
        else if ∃ n ∈ p.sounding.repeats, p.pass + 1 < n then at' (p.pass + 1) 0
        else p })) ∧
  ((∀ (s : State) (before after : List Playing) (p : Playing) (tag : Nat), s.quiet = true → s.snd.queue = [] →
    s.snd.playing = before ++ p :: after → p.sounding.origin = .sound tag → p.sounding.cls = .cue →
    (∀ q ∈ before ++ after, q.sounding.stamp ≠ p.sounding.stamp) →
    exec (.soundingEnd p.sounding.stamp) s = .next
      ((s.onSnd fun u => { u with playing := before ++ after }).noticed (.soundEnded tag))) ∧
  ∀ (s : State) (stamp : Nat), s.quiet = true → (∀ p ∈ s.snd.playing, p.sounding.stamp ≠ stamp) →
    exec (.soundingEnd stamp) s = .next s)

/-- SET FLOOR and SET PROGRAMME: the ranges, the orders that a programme or a fire bars, and the whole effect. The order
of the checks is the model's choice where the spec gives none (log entry 22). -/
def Obligations.FloorAndProgrammeSettings : Prop :=
  (∀ (s : State) (tag f zones sweepTeam wardenTeam : Nat), s.configReady = true → f ≤ 7 → zones < 256 →
    sweepTeam ≤ 11 → wardenTeam ≤ 11 →
    exec (.setFloor tag f zones sweepTeam wardenTeam) s = .next
      (if s.prg.kind ≠ .none then s.answered tag (.setFloor f zones sweepTeam wardenTeam) (.declined .busy [])
      else if s.fir.condition ≠ .normal then
        s.answered tag (.setFloor f zones sweepTeam wardenTeam) (.declined .fireLock [])
      else
        (s.onFlr fun t => { t with table := t.table.modify f fun r =>
            { r with config := ⟨(List.range 8).filter fun z => zones.testBit z, sweepTeam, wardenTeam⟩ } }).answered
          tag (.setFloor f zones sweepTeam wardenTeam) (.done false []))) ∧
  ∀ (s : State) (tag : Nat) (f : ProgrammeFields), s.configReady = true → f.inRange = true →
    exec (.setProgramme tag f) s = .next
      (if s.prg.kind ≠ .none then s.answered tag (.setProgramme f) (.declined .busy [])
      else (s.onPrg fun p => { p with settings := f.clamped }).answered tag (.setProgramme f)
        (.done (decide (f.clamped ≠ f)) [])) ∧
      60 ≤ f.clamped.gap1 ∧ f.clamped.gap1 ≤ 1800 ∧ 60 ≤ f.clamped.gap2 ∧ f.clamped.gap2 ≤ 1800 ∧
      60 ≤ f.clamped.finalGap ∧ f.clamped.finalGap ≤ 900 ∧ 60 ≤ f.clamped.sweepRound ∧ f.clamped.sweepRound ≤ 600 ∧
      120 ≤ f.clamped.sweepTimeout ∧ f.clamped.sweepTimeout ≤ 1800 ∧ f.clamped.dwell ≤ 120

/-- SET FIRE ZONE and SET FIRE RESPONSE: the fire lock, the floors of other zones, and the whole effect. SET DETECTOR
INPUT in NORMAL: an input made present on an ABSENT node is in NORMAL and changes no zone. The order of the checks is
the model's choice where the spec gives none (log entry 22). -/
def Obligations.FireSettings : Prop :=
  ((∀ (s : State) (tag zone floors : Nat), s.configReady = true → zone ≤ 7 → floors < 256 →
    exec (.setFireZone tag zone floors) s = .next
      (if s.fir.condition ≠ .normal then s.answered tag (.setFireZone zone floors) (.declined .fireLock [])
      else if (List.range s.fir.zones.length).any fun z =>
          z != zone && (s.fir.zones[z]?).any fun r => r.floors.any fun f => decide (f < 8) && floors.testBit f then
        s.answered tag (.setFireZone zone floors) (.declined .inUse [])
      else
        (s.onFir fun u => { u with zones := u.zones.modify zone fun r =>
            { r with floors := (List.range 8).filter fun f => floors.testBit f } }).answered
          tag (.setFireZone zone floors) (.done false []))) ∧
  ∀ (s : State) (tag evacuate alert confirm delay acknowledge : Nat), s.configReady = true → evacuate ≤ 31 → alert ≤ 31 →
    let f : FireFields := ⟨evacuate, alert, confirm, delay, acknowledge⟩
    let g : FireFields := ⟨evacuate, alert, min confirm 10, min delay 600, max 30 (min acknowledge 300)⟩
    exec (.setFireResponse tag f) s = .next
      (if s.fir.condition ≠ .normal then s.answered tag (.setFireResponse f) (.declined .fireLock [])
      else (s.onFir fun u => { u with settings := g }).answered tag (.setFireResponse f) (.done (decide (g ≠ f)) []))) ∧
  ((∀ (s : State) (tag input : Nat) (f : DetectorFields), s.configReady = true → s.fir.condition = .normal →
    input ≤ 63 → s.fir.input? input = none → input < s.fir.inputs.length → f.slot ≤ 3 → f.zone ≤ 7 → f.kind ≤ 1 →
    (∃ node ∈ s.flp.node? f.node, node.kind = .detector ∧ node.state = .absent) →
    (∀ k < s.fir.inputs.length, ∀ d ∈ s.fir.input? k, d.config.node = f.node → d.config.slot ≠ f.slot) →
    exec (.setDetectorInput tag input (some f)) s = .next
      ((s.onFir fun u => { u with
        inputs := u.inputs.set input (some ⟨⟨f.node, f.slot, f.zone, f.kind == 1⟩, .normal⟩) }).answered tag
        (.setDetectorInput input (some f)) (.done false []))) ∧
  ∀ (s : State) (tag input : Nat), s.configReady = true → s.fir.condition = .normal → input ≤ 63 →
    s.fir.input? input = none →
    exec (.setDetectorInput tag input none) s = .next (s.answered tag (.setDetectorInput input none) (.done false [])))

/-- SET NODE, by its three checks in order: out of range, already so, in use; and otherwise a fresh ABSENT record, or
none. The kind codes are the model's (log entry 16). -/
def Obligations.SetNode : Prop :=
  ∀ (s : State) (tag address code : Nat), s.configReady = true → s.flp.polled ≠ some address →
    exec (.setNode tag address code) s = .next
      (match decide (1 ≤ address ∧ address ≤ 64), nodeKindOf code with
      | true, some kind =>
        if (s.flp.node? address).map (·.kind) = kind then s.answered tag (.setNode address code) (.done false [])
        else if (s.flp.node? address).isSome ∧ nodeNamed s address = true then
          s.answered tag (.setNode address code) (.declined .inUse [])
        else
          (s.onFlp fun f => { f with nodes := f.nodes.set (address - 1) (kind.map fun k => ⟨k, .absent, 0, none⟩) }).answered
            tag (.setNode address code) (.done false [])
      | _, _ => s.answered tag (.setNode address code) (.declined .outOfRange []))

/-- SET TIME while every cue is disabled and no sounding waits: the clock stands at the time given and runs, the
reservation list is empty and every cue is IDLE. SET CUE on an unset clock: the cue is IDLE with its new configuration.
The 24 cues are part of a valid configuration (`ConfigurationStaysValid`). -/
def Obligations.ClockOrders : Prop :=
  (∀ (s : State) (tag time day : Nat), s.ready = true → time ≤ 86399 → day ≤ 6 → s.snd.queue = [] →
    s.clk.cues.length = 24 →
    (∀ q ∈ s.clk.cues, q.config.enabled = false ∧ q.phase ≠ .sounding) →
    exec (.setTime tag time day) s = .next
      (((s.onSnd fun u => { u with reservations := [] }).onClk fun c =>
        { time := time, day := day, isSet := true
          cues := c.cues.map fun q => { q with phase := .idle, occurrence := none, lead := 0, retries := 0 } }).answered
        tag (.setTime time day) (.done false []))) ∧
  (∀ (s : State) (tag cue : Nat) (f : CueFields), s.configReady = true → cue ≤ 23 → f.inRange = true →
    ∀ q ∈ s.clk.cues[cue]?, q.phase ≠ .sounding → s.clk.isSet = false →
    (∀ r ∈ s.snd.reservations, r.cue ≠ cue) →
    exec (.setCue tag cue f) s = .next
      ((s.onClk fun c => { c with cues := (c.cues.set cue
          { config := f.config, phase := .idle, occurrence := none, lead := 0, retries := 0 }) }).answered
        tag (.setCue cue f) (.done f.clamps [])) ∧
      1 ≤ f.config.repeats ∧ f.config.repeats ≤ 4 ∧ 60 ≤ f.config.retryInterval ∧ f.config.retryInterval ≤ 240 ∧
      f.config.retryLimit ≤ 3)

/-- The three chain configuration orders with the key off, no landing held, and a configuration that keeps a clear gap.
Each leaves the stored gap table of the configuration it gives; a geometry or a landing makes the position UNKNOWN, with
the park record, the last car and the plan gone, and a timing set keeps it. That the rest position keeps its number at a
geometry order is the model's choice (log entry 77). -/
def Obligations.ChainConfigurationOrders : Prop :=
  (∀ (s : State) (tag : Nat) (g : GeometryFields), s.configReady = true → s.chn.configurable = true →
    s.chn.keyOn = false → s.fir.held = [] → g.inRange = true → s.chn.x < g.cars * g.pitch →
    (∀ o ∈ s.chn.config.landings, ∀ l ∈ o, l.position < g.cars * g.pitch) →
    let config := { s.chn.config with geometry := some g }
    config.hasClearGap = true →
    exec (.setChainGeometry tag g) s = .next
      (({ s with clr := { table := config.storedTable } }.onChn fun c =>
        { c with config := config, known := false, lastCar := none, plan := none, park := none }).answered
        tag (.setChainGeometry g) (.done false []))) ∧
  (∀ (s : State) (tag n : Nat) (f : LandingFields), s.configReady = true → s.chn.configurable = true →
    s.chn.keyOn = false → s.fir.held = [] → s.chn.config.geometry ≠ none → n ≤ 15 →
    f.inRange s.chn.config.loopLength = true → sideTaken s.chn.config.landings n f.landing = false →
    s.sht.namesLanding n = false →
    let config := { s.chn.config with landings := s.chn.config.landings.set n (some ⟨f.floor, f.side == 0, f.position⟩) }
    config.hasClearGap = true →
    exec (.setLanding tag n (some f)) s = .next
      (({ s with clr := { table := config.storedTable } }.onChn fun c =>
        { c with config := config, known := false, lastCar := none, plan := none, park := none }).answered
        tag (.setLanding n (some f)) (.done false []))) ∧
  (∀ (s : State) (tag n : Nat), s.configReady = true → s.chn.configurable = true → s.chn.keyOn = false →
    s.fir.held = [] → s.chn.config.geometry ≠ none → n ≤ 15 → s.sht.namesLanding n = false →
    let config := { s.chn.config with landings := s.chn.config.landings.set n none }
    config.hasClearGap = true →
    exec (.setLanding tag n none) s = .next
      (({ s with clr := { table := config.storedTable } }.onChn fun c =>
        { c with config := config, known := false, lastCar := none, plan := none, park := none }).answered
        tag (.setLanding n none) (.done false []))) ∧
  ∀ (s : State) (tag : Nat) (t : TimingFields), s.configReady = true → s.chn.configurable = true →
    s.chn.keyOn = false → s.clr.table = s.chn.config.storedTable → t.inRange = true →
    let config := { s.chn.config with timing := some { t with
      runup := max 1 (min t.runup 10), homing := max 60 (min t.homing 1200), brakeDelay := min t.brakeDelay 20 } }
    config.hasClearGap = true →
    exec (.setChainTiming tag t) s = .next
      (({ s with clr := { table := config.storedTable } }.onChn fun c => { c with config := config }).answered
        tag (.setChainTiming t) (.done (decide (config.timing ≠ some t)) []))

/-- SET SHUTTER while no programme runs, no floor waits for its shutters and no landing waits for clearance: the record
is UNSEEN with every timer stopped and every mark clear, its three times clamped, or it is absent. That the inputs of an
earlier record are forgotten is the model's choice (log entry 49). -/
def Obligations.SetShutter : Prop :=
  ∀ (s : State) (tag n : Nat) (fields : Option ShutterFields), s.configReady = true → n ≤ 47 → s.idleProgramme = true →
    s.chn.clearance = [] → (∀ f < 8, s.flr.waitsFor f = false) → s.flr.table.length = 8 →
    (∀ r ∈ s.sht.get? n, r.state.inUse = false) →
    (∀ f ∈ fields, shutterFieldsInRange f s = true ∧
      ∀ k < s.sht.table.length, ∀ r ∈ s.sht.get? k, r.config.node = f.node → r.config.slot = f.slot → k = n) →
    exec (.setShutter tag n fields) s = .next
      ((s.onSht fun t => { t with table := t.table.set n (fields.map fun f =>
          { config :=
              { floor := f.floor, kind := if f.kind = 0 then .hall else .landing f.landing, node := f.node
                slot := f.slot, group := f.group, warning := min f.warning 30, descent := max 5 (min f.descent 120)
                raise := max 10 (min f.raise 300) }
            state := .unseen, cause := none, observed := none, arrests := 0, forced := false, paused := false
            edgeIgnored := false, warningTimer := .stopped, descentTimer := .stopped, raiseTimer := .stopped
            clearTimer := .stopped, holdTimer := .stopped, inputs := none, faultCoil := false }) }).answered
        tag (.setShutter n fields) (.done (fields.any fun f =>
          decide (30 < f.warning ∨ f.descent < 5 ∨ 120 < f.descent ∨ f.raise < 10 ∨ 300 < f.raise)) []))

/-! ### Orders to the chain -/

/-- Orders to a chain not configured are declined. RUN CHAIN and HOME CHAIN with permission: a request that must wait
stands at the head of its group's queue, and one admitted at once starts the chain with its timer, the park record
cleared. -/
def Obligations.RunAndHomeChain : Prop :=
  (∀ (s : State) (tag mask : Nat), s.ready = true → s.chn.config.configured = false →
    exec (.runChain tag) s = .next (s.answered tag .runChain (.declined .notConfigured [])) ∧
    exec (.stopChain tag mask) s = .next (s.answered tag (.stopChain mask) (.declined .notConfigured [])) ∧
    exec (.haltChain tag) s = .next (s.answered tag .haltChain (.declined .notConfigured [])) ∧
    exec (.homeChain tag) s = .next (s.answered tag .homeChain (.declined .notConfigured [])) ∧
    exec (.resetChainTrip tag) s = .next (s.answered tag .resetChainTrip (.declined .notConfigured []))) ∧
  ((∀ (s : State) (tag : Nat), s.ready = true → s.chn.config.configured = true → s.fir.condition = .normal →
    (s.chn.state = .halted ∨ s.chn.state = .parked) → s.chn.request = none → s.chn.safetyClosed = true →
    s.sht.permit = true → s.chn.clearance = [] → s.sup.withoutChain = true →
    (s.sup.holds s.chn.group = true →
      exec (.runChain tag) s = .next
        ({ s with
            chn := { s.chn with request := some .start }
            sup := s.sup.chainQueued s.chn.group .start }.answered tag .runChain (.taken false))) ∧
    (s.sup.admits s.chn.group = true → s.alone = true →
      exec (.runChain tag) s = .next
        ({ s with
            chn := { s.chn.into .starting with
                     park := none, creepCount := 0, runupTimer := Timer.start s.chn.config.times.runup }
            sup := s.sup.withMove s.chn.group .chain (.chain .start) }.answered tag .runChain (.taken false)))) ∧
  ∀ (s : State) (tag : Nat), s.ready = true → s.chn.config.configured = true → s.chn.state = .halted →
    s.chn.request = none → s.sup.withoutChain = true →
    (s.sup.holds s.chn.group = true →
      exec (.homeChain tag) s = .next
        ({ s with
            chn := { s.chn with request := some .home }
            sup := s.sup.chainQueued s.chn.group .home }.answered tag .homeChain (.taken false))) ∧
    (s.sup.admits s.chn.group = true → s.alone = true → s.chn.safetyClosed = true → s.sht.permit = true →
      exec (.homeChain tag) s = .next
        ({ s with
            chn := { s.chn.into .homing with
                     park := none, creepCount := 0, homingTimer := Timer.start s.chn.config.times.homing }
            sup := s.sup.withMove s.chn.group .chain (.chain .home) }.answered tag .homeChain (.taken false))))

/-- STOP CHAIN in RUNNING with the position known: a planned stop for the set together with the clearance set, or, with both
empty, the brake. HALT CHAIN brakes every moving chain not yet in BRAKING. A chain at rest without a request is left as it
is by both. -/
def Obligations.StopAndHaltChain : Prop :=
  (∀ (s : State) (tag mask : Nat), s.ready = true → s.chn.config.configured = true → s.chn.state = .running →
    s.chn.known = true → s.chn.request = none → s.alone = true →
    (∀ k < 16, mask.testBit k = true → (s.chn.config.landings[k]?).join ≠ none) →
    let set := (List.range 16).filter fun k => mask.testBit k || s.chn.clearance.contains k
    exec (.stopChain tag mask) s = .next
      ((if set = [] then
          { s with chn := { s.chn.into .braking with plan := none }, sup := (supplyEnded .chain s).sup }
        else
          s.onChn fun c =>
            { c.into .stopping with
              plan := some (makePlan c.config s.clr.table set c.x
                (stoppingDistance (planningSpeed c.lastWindow) c.config.times.brakeDelay c.config.times.decel)) }).answered
        tag (.stopChain mask) (.taken false))) ∧
  (∀ (s : State) (tag : Nat), s.ready = true → s.chn.config.configured = true → s.chn.state.moving = true →
    s.chn.state ≠ .braking → s.alone = true →
    exec (.haltChain tag) s = .next
      ({ s with chn := { s.chn.into .braking with plan := none }, sup := (supplyEnded .chain s).sup }.answered
        tag .haltChain (.done false []))) ∧
  ∀ (s : State) (tag : Nat), s.ready = true → s.chn.config.configured = true → s.chn.request = none →
    ((s.chn.state = .tripped ∨ s.chn.state = .inspectionIdle ∨ s.chn.state = .halted ∨ s.chn.state = .parked ∨
        s.chn.state = .braking) →
      exec (.haltChain tag) s = .next (s.answered tag .haltChain (.done false []))) ∧
    ((s.chn.state = .halted ∨ s.chn.state = .parked ∨ s.chn.state = .braking) → s.chn.clearance = [] →
      exec (.stopChain tag 0) s = .next (s.answered tag (.stopChain 0) (.done false [])))

/-- RESET CHAIN TRIP: declined outside TRIPPED, with the chain not still, the safety chain open or a landing shutter in
FAULT; else, with the key off, HALTED with the trip and the park record cleared. -/
def Obligations.ResetChainTrip : Prop :=
  ∀ (s : State) (tag : Nat), s.ready = true → s.chn.config.configured = true →
    (s.chn.state ≠ .tripped ∨ s.chn.lastWindow ≠ some 0 ∨ s.chn.safetyClosed = false ∨
        (∃ k < s.sht.table.length, ∃ r ∈ s.sht.get? k, r.isLanding = true ∧ r.state = .fault) →
      exec (.resetChainTrip tag) s = .next (s.answered tag .resetChainTrip (.declined .wrongState []))) ∧
    (s.chn.state = .tripped → s.chn.lastWindow = some 0 → s.chn.safetyClosed = true → s.sht.landingFault = false →
      s.chn.keyOn = false → s.chn.clearance = [] → s.alone = true →
      exec (.resetChainTrip tag) s = .next
        (((s.onChn fun c => { c.into .halted with
            trip := none, park := none, creepCount := 0, rest := c.x }).noticed .tripCleared).answered
          tag .resetChainTrip (.done false [])))

/-! ### The drive's sensors -/

/-- An encoder count while the chain moves and does not creep, and at rest within the drift tolerance: one step of x around
the loop, the window count, the direction and the plan's advance, whose brake is called for at the brake point. A creep
that reaches its brake point ends its move and its timer. A PARKED chain that comes to foul a landing of its park record is
HALTED with PARK_LOST, the record gone and its rest position kept. -/
def Obligations.EncoderCount : Prop :=
  ∀ (s : State) (forward : Bool), s.quiet = true → 0 < s.chn.config.loopLength →
    let l := s.chn.config.loopLength
    let counted : Chain :=
      { s.chn with
        x := if forward then (s.chn.x + 1) % l else (s.chn.x + (l - 1)) % l
        windowCount := s.chn.windowCount + 1
        lastForward := forward
        plan := s.chn.plan.map fun p =>
          let advance := p.advance + (if forward then 1 else -1)
          { p with advance := advance, braked := p.braked || decide ((p.brakeAt : Int) ≤ advance) } }
    let near := circDist l counted.x s.chn.rest ≤ s.chn.config.times.drift
    (s.chn.state ≠ .parked → (s.chn.state = .creeping → s.chn.braked = counted.braked) →
      (s.chn.state = .halted → s.chn.config.configured = true → near) →
      exec (.encoderCount forward) s = .next { s with chn := counted }) ∧
    (s.chn.state = .creeping → s.chn.braked = false → counted.braked = true → s.sup.settles = true →
      exec (.encoderCount forward) s = .next
        { s with chn := { counted with homingTimer := .stopped }, sup := (supplyEnded .chain s).sup }) ∧
    (s.chn.state = .parked → s.chn.config.configured = true → near → ∀ p ∈ s.chn.park,
      let fouling := foulingLandings s.chn.config counted.x p.set
      (fouling = [] → exec (.encoderCount forward) s = .next { s with chn := counted }) ∧
      (fouling ≠ [] → s.chn.clearance = [] → s.alone = true →
        exec (.encoderCount forward) s = .next
          ({ s with chn := { counted.into .halted with park := none } }.noticed (.parkLost counted.x fouling))))

/-- An index correction outside HOMING sets x to 0 and moves the rest position, and the start and target of the plan,
with it. In PARKED the acceptance test is made again at 0: a chain still clear of its park record stays PARKED, and one
that fouls a landing of it, none waiting for clearance, is HALTED with PARK_LOST, the record gone and the moved rest
position kept. That the rest position moves in every state, where R3 names PARKED, is the model's reading of R17 (log
entry 67). -/
def Obligations.IndexCorrectionKeepsPlan : Prop :=
  ∀ s : State, s.quiet = true → s.chn.known = true →
    circDist s.chn.config.loopLength s.chn.x 0 ≤ (s.chn.config.geometry.map (·.indexTolerance)).getD 0 →
    let l := s.chn.config.loopLength
    let corrected : Chain :=
      { s.chn with
        x := 0
        rest := circMinus l s.chn.rest s.chn.x
        plan := s.chn.plan.map fun p =>
          { p with x0 := circMinus l p.x0 s.chn.x, target := circMinus l p.target s.chn.x } }
    (s.chn.state ≠ .homing → s.chn.state ≠ .parked → exec .indexMark s = .next { s with chn := corrected }) ∧
    (s.chn.state = .parked → ∀ p ∈ s.chn.park,
      let fouling := foulingLandings s.chn.config 0 p.set
      (fouling = [] → exec .indexMark s = .next { s with chn := corrected }) ∧
      (fouling ≠ [] → s.chn.clearance = [] → s.alone = true →
        exec .indexMark s = .next
          ({ s with chn := { corrected.into .halted with park := none } }.noticed (.parkLost 0 fouling))))

/-- The index mark in HOMING makes the position known at 0 and brakes the chain. The car tag strobe with a sill at the reader
records the one car nearest it at first, and later accepts the expected car by its number mod 4. With the position UNKNOWN,
outside HOMING, neither does anything. -/
def Obligations.IndexAndTagReader : Prop :=
  ((∀ s : State, s.quiet = true → s.chn.state = .homing → s.alone = true →
    exec .indexMark s = .next
      ({ s with
          chn := { s.chn.into .braking with x := 0, known := true, lastCar := none, plan := none }
          sup := (supplyEnded .chain s).sup }.noticed .chainHomed)) ∧
  ∀ s : State, s.quiet = true → s.chn.state ≠ .homing → s.chn.known = false → exec .indexMark s = .next s) ∧
  ((∀ (s : State) (carTag : Tag2), s.quiet = true → s.chn.known = true → ∀ g ∈ s.chn.config.geometry,
    circDist g.pitch s.chn.x g.tagReader ≤ g.tagTolerance →
    (∀ last ∈ s.chn.lastCar,
      let car := if s.chn.lastForward then (last + (g.cars - 1)) % g.cars else (last + 1) % g.cars
      car % 4 = carTag.toNat →
      exec (.carTagStrobe carTag) s = .next (s.onChn fun c => { c with lastCar := some car })) ∧
    (s.chn.lastCar = none → ∀ k < g.cars,
      (∀ j < g.cars, j ≠ k → circDist (g.cars * g.pitch) (s.chn.x + k * g.pitch) g.tagReader <
        circDist (g.cars * g.pitch) (s.chn.x + j * g.pitch) g.tagReader) →
      exec (.carTagStrobe carTag) s = .next (s.onChn fun c => { c with lastCar := some k }))) ∧
  ∀ (s : State) (carTag : Tag2), s.quiet = true → s.chn.known = false → exec (.carTagStrobe carTag) s = .next s)

/-- The end of a window, within the overspeed limit: at rest and in HOMING it is noted; in RUNNING the stall run is counted;
STARTING comes to RUNNING at the stall limit; a zero window ends BRAKING in HALTED, and a braked stop that is clear of its
set in PARKED. -/
def Obligations.WindowEnd : Prop :=
  ∀ s : State, s.quiet = true →
    (s.chn.config.configured = true → s.chn.windowCount ≤ s.chn.config.times.overspeedLimit) →
    let n := s.chn.windowCount
    let t := s.chn.config.times
    let noted : Chain := { s.chn with lastWindow := some n, windowCount := 0 }
    (s.chn.state.moving = false ∨ s.chn.state = .homing ∨ s.chn.state = .inspectionRun →
      exec .windowEnd s = .next { s with chn := noted }) ∧
    (s.chn.state = .running → t.stallLimit ≤ n → exec .windowEnd s = .next { s with chn := { noted with stallRun := 0 } }) ∧
    (s.chn.state = .running → n < t.stallLimit → s.chn.stallRun < 2 →
      exec .windowEnd s = .next { s with chn := { noted with stallRun := s.chn.stallRun + 1 } }) ∧
    (s.chn.state = .starting → n < t.stallLimit → exec .windowEnd s = .next { s with chn := noted }) ∧
    (s.chn.state = .starting → t.stallLimit ≤ n → s.alone = true →
      exec .windowEnd s = .next
        ({ s with chn := { noted.into .running with stallRun := 0 }, sup := (supplyEnded .chain s).sup }.noticed
          (.chainRunning (if s.chn.known then some s.chn.x else none)))) ∧
    (s.chn.state = .braking → n = 0 → s.chn.keyOn = false → s.chn.clearance = [] → s.alone = true →
      exec .windowEnd s = .next
        ({ s with chn := { noted.into .halted with rest := s.chn.x } }.noticed
          (.chainHalted (if s.chn.known then some s.chn.x else none) s.chn.known))) ∧
    (s.chn.state = .stopping → n = 0 → s.alone = true → ∀ p ∈ s.chn.plan, p.braked = true →
      (∀ k < s.sht.table.length, ∀ r ∈ s.sht.get? k, r.state ≠ .awaitClear) →
      let set := (List.range 16).filter fun k => p.set.contains k || p.late.contains k
      accepts s.chn.config s.chn.x set = true →
      exec .windowEnd s = .next
        ({ s with chn := { noted.into .parked with
                            park := some ⟨set, s.chn.x⟩, rest := s.chn.x, plan := none, creepCount := 0 } }.noticed
          (.chainParked set s.chn.x)))

/-- What trips a chain not yet TRIPPED: the run-up timeout, the homing timeout in HOMING and in CREEPING, an opened
safety chain in any state, an index mark too far from 0, a car tag away from a sill or of another car than expected, a
window above the overspeed limit, the third slow window of RUNNING, a second creep that ends foul of its set, a landing
shutter's entry to FAULT while the chain moves, and a chain that drifts too far in HALTED or PARKED, either way, which
clears its park record. In TRIPPED a further cause joins the record and the record is sent again. A timeout whose timer
does not run and a safety chain that is open already bring nothing. The further cause is the model's reading (log entry
25); that the stall run stands at an OVERSPEED is its choice (log entry 46); the order of the notices is log entry 24.
-/
def Obligations.Trips : Prop :=
  (∀ s : State, s.quiet = true → s.chn.state ≠ .tripped → s.chn.request = none → s.alone = true →
    let c := s.chn
    let l := c.config.loopLength
    let windowed (run : Nat) : State :=
      s.onChn fun c => { c with lastWindow := some c.windowCount, windowCount := 0, stallRun := run }
    let lost (cause : TripCause) : State :=
      (s.tripped cause).onChn fun c => { c with known := false, lastCar := none, park := none }
    (c.state = .starting → c.runupTimer.isRunning = true → exec .runupTimeout s = .next (s.tripped .runupTimeout)) ∧
    (c.state = .homing → c.homingTimer.isRunning = true → exec .homingTimeout s = .next (s.tripped .homingFailed)) ∧
    (c.state = .creeping → c.homingTimer.isRunning = true → exec .homingTimeout s = .next (s.tripped .parkFailed)) ∧
    (c.safetyClosed = true → exec .safetyChainOpen s = .next
      ((s.onChn fun c => { c with safetyClosed := false }).tripped .safetyChain)) ∧
    (c.known = true → c.state ≠ .homing →
      (c.config.geometry.map (·.indexTolerance)).getD 0 < circDist l c.x 0 →
      exec .indexMark s = .next (lost .indexError)) ∧
    (c.known = true → ∀ g ∈ c.config.geometry, ∀ carTag : Tag2,
      (g.tagTolerance < circDist g.pitch c.x g.tagReader ∨
        ∃ last ∈ c.lastCar,
          (if c.lastForward then (last + (g.cars - 1)) % g.cars else (last + 1) % g.cars) % 4 ≠ carTag.toNat) →
      exec (.carTagStrobe carTag) s = .next (lost .carSequence)) ∧
    (c.config.configured = true → c.config.times.overspeedLimit < c.windowCount →
      exec .windowEnd s = .next ((windowed c.stallRun).tripped .overspeed)) ∧
    (c.state = .running → c.windowCount < c.config.times.stallLimit →
      c.windowCount ≤ c.config.times.overspeedLimit → c.stallRun = 2 →
      exec .windowEnd s = .next ((windowed 3).tripped .stall)) ∧
    (c.state = .creeping → c.windowCount = 0 → c.creepCount ≠ 0 → ∀ p ∈ c.plan, p.braked = true →
      accepts c.config c.x ((List.range 16).filter fun k => p.set.contains k || p.late.contains k) = false →
      exec .windowEnd s = .next ((windowed c.stallRun).tripped .parkFailed)) ∧
    (c.state.moving = true → ∀ a ∈ s.flp.polled, ∀ node ∈ s.flp.node? a, node.kind = .shutter → node.state ≠ .lost →
      2 ≤ node.misses → ∀ n, ∀ r ∈ s.sht.get? n, r.config.node = a → r.isLanding = true → r.state = .opened →
      (∀ k < s.sht.table.length, ∀ q ∈ s.sht.get? k, q.config.node = a → k = n) → s.flr.waitsFor r.config.floor = false →
      exec .pollMissed s = .next
        (((({ s with
            flp := { s.flp with
              nodes := s.flp.nodes.set (a - 1) (some { node with misses := 3, state := .lost }), polled := none }
            sht := s.sht.set n (some
              { r.resting .fault with cause := some .nodeLost, observed := some r.position, faultCoil := true }) }.tripped
          .landingShutter).noticed (.shutterFault n .nodeLost r.position .opened)).noticed (.nodeLost a .shutter)))) ∧
    (c.state = .halted ∨ c.state = .parked → c.config.configured = true → 0 < l → ∀ forward : Bool,
      let x := if forward then (c.x + 1) % l else (c.x + (l - 1)) % l
      c.config.times.drift < circDist l x c.rest →
      exec (.encoderCount forward) s = .next
        (((s.onChn fun c => { c with x := x, windowCount := c.windowCount + 1, lastForward := forward }).tripped
          .brakeSlip).onChn fun c => { c with park := none }))) ∧
  (∀ s : State, s.quiet = true → s.chn.state = .tripped → ∀ r ∈ s.chn.trip,
    let further (cause : TripCause) : TripRecord :=
      { r with causes := if cause ∈ r.causes then r.causes else r.causes ++ [cause] }
    (s.chn.safetyClosed = true → exec .safetyChainOpen s = .next
      ((s.onChn fun c => { c with safetyClosed := false, trip := some (further .safetyChain) }).noticed
        (.chainTripped (further .safetyChain)))) ∧
    (s.chn.config.configured = true → s.chn.config.times.overspeedLimit < s.chn.windowCount →
      exec .windowEnd s = .next
        ((s.onChn fun c => { c with
            lastWindow := some c.windowCount, windowCount := 0, trip := some (further .overspeed) }).noticed
          (.chainTripped (further .overspeed))))) ∧
  ∀ s : State, s.quiet = true →
    (s.chn.state ≠ .starting ∨ s.chn.runupTimer.isRunning = false → exec .runupTimeout s = .next s) ∧
    (s.chn.homingTimer.isRunning = false → exec .homingTimeout s = .next s) ∧
    (s.chn.safetyClosed = false → exec .safetyChainOpen s = .next s)

/-- Stops that miss, and creeps. A braked stop that is still but foul of its set is HALTED with PARK_MISSED and asks for
a CREEP for that set: it waits at the head of the queue, or is refused by a full queue with MOVE_REFUSED and marked so.
A CREEP that is granted its slot runs on a plan with S = Cs for its creep set and the clearance set, its homing timer
started unless it brakes at once. A creep that halts clear of its set is PARKED, and the first that does not is missed
as a stop is, the creep count then 1. That the request and its pass stand between the notices of the halt and what it
reports to the other blocks, and that a refused creep is marked, are the model's readings (log entries 45 and 26); the
order of the notices is log entry 24. -/
def Obligations.CreepsAndParks : Prop :=
  (∀ s : State, s.quiet = true → s.chn.windowCount = 0 → s.alone = true → s.chn.request = none →
    s.sup.withoutChain = true → ∀ p ∈ s.chn.plan, p.braked = true →
    (∀ k < s.sht.table.length, ∀ r ∈ s.sht.get? k, r.state ≠ .awaitClear) →
    let set := (List.range 16).filter fun k => p.set.contains k || p.late.contains k
    let fouling := foulingLandings s.chn.config s.chn.x set
    let creeps := if s.chn.state = .creeping then 1 else s.chn.creepCount
    let rested : Chain := { s.chn.into .halted with
      lastWindow := some 0, windowCount := 0, plan := none, rest := s.chn.x, creepCount := creeps }
    (s.chn.state = .creeping → fouling = [] →
      exec .windowEnd s = .next
        ({ s with chn := { s.chn.into .parked with
            lastWindow := some 0, windowCount := 0, plan := none, rest := s.chn.x, creepCount := 0
            park := some ⟨set, s.chn.x⟩ } }.noticed (.chainParked set s.chn.x))) ∧
    (s.chn.state = .stopping ∨ (s.chn.state = .creeping ∧ s.chn.creepCount = 0) → fouling ≠ [] →
      (s.sup.holds s.chn.group = true →
        exec .windowEnd s = .next
          ({ s with
              chn := { rested with request := some .creep, creepSet := set, creepRefused := false }
              sup := s.sup.chainQueued s.chn.group .creep }.noticed (.parkMissed s.chn.x fouling creeps))) ∧
      (s.sup.full .chain s.chn.group = true →
        exec .windowEnd s = .next
          (({ s with chn := { rested with creepRefused := true } }.noticed
            (.parkMissed s.chn.x fouling creeps)).noticed (.moveRefused .creep))))) ∧
  ∀ (s : State) (owner : MoveOwner) (before after : List Move) (kind : MoveKind) (left : Nat), s.quiet = true →
    s.alone = true → s.sup.mode = .steady → s.chn.request = some .creep → s.chn.state = .halted ∨ s.chn.state = .parked →
    s.chn.safetyClosed = true → s.sht.permit = true → (∀ m ∈ before, m.owner ≠ owner) →
    let g := s.chn.group
    (∀ k ∈ s.sup.groups, ∀ m ∈ k.moves, m.owner = .chain → m.active = false) →
    ∀ r ∈ s.sup.groups[g]?, r.queue = [⟨.chain, .chain .creep⟩] →
    r.moves = before ++ ⟨owner, kind, .settling left⟩ :: after → before.length + after.length < r.config.capacity →
    let set := (List.range 16).filter fun k => s.chn.creepSet.contains k || s.chn.clearance.contains k
    let plan := makePlan s.chn.config s.clr.table set s.chn.x s.chn.config.times.creepStop
    let phase : MovePhase := if plan.braked then .settling (20 * r.config.settle) else .running
    exec (.settleExpiry g owner) s = .next
      { s with
        chn := { s.chn.into .creeping with
          request := none, creepSet := [], park := none, plan := some plan
          homingTimer := if plan.braked then .stopped else Timer.start s.chn.config.times.homing }
        sup := { s.sup with
          groups := s.sup.groups.set g { r with queue := [], moves := before ++ after ++ [⟨.chain, .chain .creep, phase⟩] }
          order := if plan.braked then s.sup.order.filter (· ≠ MoveOwner.chain) else s.sup.order ++ [.chain] } }

/-- STOP CHAIN with a set, out of RUNNING. In HALTED the clearance duty parks the chain where it stands clear of the set
and the clearance set, and otherwise asks for a CREEP; in PARKED the extension test enlarges the park record, or gives
it up for a CREEP; in STOPPING a new set makes a new plan for both sets before the brake point and joins the late set
after it; in CREEPING it joins the late set. The safety chain's closing takes the clearance duty up: a shutter that
waits for its landing begins its warning as the chain parks. The rest position after a failed extension test, the answer
of a STOP CHAIN that asks for a creep, and the moment at which the duty is taken up are the model's readings (log
entries 25, 26 and 27). -/
def Obligations.ClearanceDuty : Prop :=
  (∀ (s : State) (tag mask : Nat), s.ready = true → s.chn.config.configured = true → s.chn.known = true →
    s.alone = true → s.chn.request = none → s.sup.withoutChain = true →
    (∀ k < s.sht.table.length, ∀ r ∈ s.sht.get? k, r.state ≠ .awaitClear) →
    (∀ k < 16, mask.testBit k = true → (s.chn.config.landings[k]?).join ≠ none) →
    let set := (List.range 16).filter fun k => mask.testBit k || s.chn.clearance.contains k
    let o : Order := .stopChain mask
    let creep (c : Chain) (set : List Nat) : State :=
      { s with
        chn := { c with request := some .creep, creepSet := set, creepRefused := false }
        sup := s.sup.chainQueued s.chn.group .creep }
    set ≠ [] →
    (s.chn.state = .halted → accepts s.chn.config s.chn.x set = true →
      exec (.stopChain tag mask) s = .next
        ((({ s with chn := { s.chn.into .parked with
            park := some ⟨set, s.chn.x⟩, rest := s.chn.x, plan := none, creepCount := 0 } }.noticed
          (.chainParked set s.chn.x)).answered tag o (.done false [])))) ∧
    (s.chn.state = .halted → accepts s.chn.config s.chn.x set = false → s.sup.holds s.chn.group = true →
      exec (.stopChain tag mask) s = .next ((creep s.chn set).answered tag o (.taken false))) ∧
    (s.chn.state = .parked → ∀ p ∈ s.chn.park,
      let larger := (List.range 16).filter fun k => p.set.contains k || set.contains k
      (accepts s.chn.config s.chn.x (set.filter fun k => !p.set.contains k) = true →
        exec (.stopChain tag mask) s = .next
          (((s.onChn fun c => { c with park := some ⟨larger, p.position⟩ }).noticed
            (.chainParked larger p.position)).answered tag o (.done false []))) ∧
      (accepts s.chn.config s.chn.x (set.filter fun k => !p.set.contains k) = false → s.sup.holds s.chn.group = true →
        exec (.stopChain tag mask) s = .next
          ((creep { s.chn.into .halted with park := none, rest := s.chn.x } larger).answered tag o (.taken false)))) ∧
    (s.chn.state = .stopping → ∀ p ∈ s.chn.plan,
      exec (.stopChain tag mask) s = .next
        ((if p.braked then
            s.onChn fun c => { c with plan := some { p with
              late := (List.range 16).filter fun k => p.late.contains k || set.contains k } }
          else if set = p.set then s
          else
            s.onChn fun c => { c with plan := some (makePlan c.config s.clr.table
              ((List.range 16).filter fun k => p.set.contains k || set.contains k) c.x
              (stoppingDistance (planningSpeed c.lastWindow) c.config.times.brakeDelay c.config.times.decel)) }).answered
          tag o (.taken false))) ∧
    (s.chn.state = .creeping → ∀ p ∈ s.chn.plan,
      exec (.stopChain tag mask) s = .next
        ((s.onChn fun c => { c with plan := some { p with
            late := (List.range 16).filter fun k => p.late.contains k || set.contains k } }).answered
          tag o (.taken false)))) ∧
  ∀ s : State, s.quiet = true → s.alone = true → s.chn.state = .halted → s.chn.known = true → s.chn.request = none →
    s.chn.safetyClosed = false → s.sht.permit = true → s.sup.withoutChain = true →
    (accepts s.chn.config s.chn.x s.chn.clearance = false → s.sup.holds s.chn.group = true →
      exec .safetyChainClose s = .next
        { s with
          chn := { s.chn with
            safetyClosed := true, request := some .creep, creepSet := s.chn.clearance, creepRefused := false }
          sup := s.sup.chainQueued s.chn.group .creep }) ∧
    ∀ n l, ∀ r ∈ s.sht.get? n, r.landing? = some l → r.state = .awaitClear → r.config.warning ≠ 0 →
      (∀ k < s.sht.table.length, ∀ q ∈ s.sht.get? k, q.state = .awaitClear → k = n) → s.chn.clearance = [l] →
      accepts s.chn.config s.chn.x [l] = true →
      exec .safetyChainClose s = .next
        ({ s with
            chn := { s.chn.into .parked with
              safetyClosed := true, creepRefused := false, park := some ⟨[l], s.chn.x⟩, rest := s.chn.x, plan := none
              creepCount := 0, clearance := [] }
            sht := s.sht.set n (some
              { r.resting .warning with warningTimer := Timer.start r.config.warning }) }.noticed
          (.chainParked [l] s.chn.x))

/-- The inspection key of a configured chain turned on, and turned off in the inspection states; the inspection buttons,
one held or both, with the request queued, admitted or withdrawn; and the closing of the safety chain. -/
def Obligations.InspectionInputs : Prop :=
  ∀ s : State, s.quiet = true → s.alone = true →
    ((s.chn.state = .halted ∨ s.chn.state = .parked) → s.chn.config.configured = true → s.chn.keyOn = false →
      s.chn.request = none →
      exec .inspectionKeyOn s = .next
        (s.onChn fun c => { c.into .inspectionIdle with keyOn := true, park := none, creepCount := 0 })) ∧
    (s.chn.state = .starting ∨ s.chn.state = .running ∨ s.chn.state = .stopping ∨ s.chn.state = .creeping ∨
        s.chn.state = .homing → s.chn.config.configured = true → s.chn.keyOn = false → s.chn.request = none →
      exec .inspectionKeyOn s = .next
        { s with chn := { s.chn.into .braking with keyOn := true, plan := none }, sup := (supplyEnded .chain s).sup }) ∧
    (s.chn.state = .tripped ∨ s.chn.state = .braking → s.chn.config.configured = true → s.chn.keyOn = false →
      s.chn.request = none → exec .inspectionKeyOn s = .next (s.onChn fun c => { c with keyOn := true })) ∧
    (s.chn.state = .inspectionRun → s.chn.keyOn = true →
      exec .inspectionKeyOff s = .next
        { s with chn := { s.chn.into .braking with keyOn := false, plan := none }, sup := (supplyEnded .chain s).sup }) ∧
    (s.chn.request ≠ none → s.sup.waitsOnlyIn .chain s.chn.group = true →
      let quiet : Chain := { s.chn with request := none, creepSet := [] }
      let withdrawn (c : Chain) : State := { s with chn := c, sup := s.sup.withdrawn .chain s.chn.group }
      ((s.chn.state = .halted ∨ s.chn.state = .parked) → s.chn.config.configured = true → s.chn.keyOn = false →
        exec .inspectionKeyOn s = .next
          (withdrawn { quiet.into .inspectionIdle with keyOn := true, park := none, creepCount := 0 })) ∧
      (s.chn.state = .inspectionIdle → s.chn.keyOn = true → s.chn.clearance = [] →
        exec .inspectionKeyOff s = .next (withdrawn { quiet.into .halted with keyOn := false, rest := quiet.x })) ∧
      (s.chn.state = .inspectionIdle → s.chn.upHeld = true → s.chn.downHeld = false →
        exec (.inspectionButtonPress false) s = .next (withdrawn { quiet with downHeld := true })) ∧
      (s.chn.state = .inspectionIdle → s.chn.upHeld = false → s.chn.downHeld = true →
        exec (.inspectionButtonPress true) s = .next (withdrawn { quiet with upHeld := true })) ∧
      (s.chn.state = .inspectionIdle → s.chn.upHeld = true → s.chn.request = some .inspectUp →
        exec (.inspectionButtonRelease true) s = .next (withdrawn { quiet with upHeld := false })) ∧
      (s.chn.state = .inspectionIdle → s.chn.downHeld = true → s.chn.request = some .inspectDown →
        exec (.inspectionButtonRelease false) s = .next (withdrawn { quiet with downHeld := false }))) ∧
    (s.chn.state = .inspectionRun → s.chn.upHeld = true → s.chn.downHeld = false →
      exec (.inspectionButtonPress false) s = .next
        { s with chn := { s.chn.into .braking with downHeld := true, plan := none }
                 sup := (supplyEnded .chain s).sup }) ∧
    (s.chn.state = .inspectionRun → s.chn.upHeld = false → s.chn.downHeld = true →
      exec (.inspectionButtonPress true) s = .next
        { s with chn := { s.chn.into .braking with upHeld := true, plan := none }
                 sup := (supplyEnded .chain s).sup }) ∧
    (s.chn.state = .inspectionIdle → s.chn.keyOn = true → s.chn.request = none → s.chn.clearance = [] →
      exec .inspectionKeyOff s = .next (s.onChn fun c => { c.into .halted with keyOn := false, rest := c.x })) ∧
    (s.chn.state = .inspectionIdle → s.chn.upHeld = false → s.chn.downHeld = false → s.chn.request = none →
      s.sup.withoutChain = true → s.sup.holds s.chn.group = true →
      exec (.inspectionButtonPress true) s = .next
        { s with chn := { s.chn with upHeld := true, request := some .inspectUp }
                 sup := s.sup.chainQueued s.chn.group .inspect } ∧
      exec (.inspectionButtonPress false) s = .next
        { s with chn := { s.chn with downHeld := true, request := some .inspectDown }
                 sup := s.sup.chainQueued s.chn.group .inspect }) ∧
    (s.chn.state = .inspectionIdle → s.chn.upHeld = false → s.chn.downHeld = false → s.chn.request = none →
      s.chn.safetyClosed = true → s.sht.permit = true → s.sup.withoutChain = true → s.sup.admits s.chn.group = true →
      exec (.inspectionButtonPress true) s = .next
        { s with chn := { s.chn.into .inspectionRun with upHeld := true, reverse := false, park := none }
                 sup := s.sup.withMove s.chn.group .chain (.chain .inspect) } ∧
      exec (.inspectionButtonPress false) s = .next
        { s with chn := { s.chn.into .inspectionRun with downHeld := true, reverse := true, park := none }
                 sup := s.sup.withMove s.chn.group .chain (.chain .inspect) }) ∧
    (s.chn.state = .inspectionRun → s.chn.reverse = false → s.chn.upHeld = true →
      exec (.inspectionButtonRelease true) s = .next
        { s with chn := { s.chn.into .braking with upHeld := false, plan := none }
                 sup := (supplyEnded .chain s).sup }) ∧
    (s.chn.state = .inspectionRun → s.chn.reverse = true → s.chn.downHeld = true →
      exec (.inspectionButtonRelease false) s = .next
        { s with chn := { s.chn.into .braking with downHeld := false, plan := none }
                 sup := (supplyEnded .chain s).sup }) ∧
    (s.chn.state = .inspectionIdle → s.chn.upHeld = true → s.chn.request ≠ some .inspectUp →
      exec (.inspectionButtonRelease true) s = .next (s.onChn fun c => { c with upHeld := false })) ∧
    (s.chn.safetyClosed = false → (s.chn.state ≠ .halted ∨ s.chn.clearance = []) →
      exec .safetyChainClose s = .next (s.onChn fun c => { c with safetyClosed := true }))

/-! ### Orders to the shutters -/

/-- DROP SHUTTER, by the shutter's state: a shutter held up that needs no clearance warns, or descends where its warning
time is 0; one on its way down is left so; one that waits for a raise or is raised gives its request or its slot up and
falls, or is CLOSED at BOTTOM; and the declined states. That a shutter that waits for its raise or is raised reports
only the state it ends in is the model's reading (log entry 29). -/
def Obligations.DropShutter : Prop :=
  ∀ (s : State) (tag n : Nat), s.ready = true →
    (47 < n → exec (.dropShutter tag n) s = .next (s.answered tag (.dropShutter n) (.declined .outOfRange []))) ∧
    (n ≤ 47 → s.sht.get? n = none →
      exec (.dropShutter tag n) s = .next (s.answered tag (.dropShutter n) (.declined .notConfigured []))) ∧
    (n ≤ 47 → ∀ r ∈ s.sht.get? n,
      (r.state = .fault ∨ r.state = .unseen →
        exec (.dropShutter tag n) s = .next (s.answered tag (.dropShutter n) (.declined .wrongState []))) ∧
      (r.state = .closed → exec (.dropShutter tag n) s = .next (s.answered tag (.dropShutter n) (.done false []))) ∧
      (r.state = .awaitClear ∨ r.state = .warning ∨ r.state = .descending ∨ r.state = .arrested →
        exec (.dropShutter tag n) s = .next (s.answered tag (.dropShutter n) (.taken false))) ∧
      let falls : Shutter :=
        if r.config.warning = 0 then
          { r.resting .descending with arrests := 0, descentTimer := Timer.start r.config.descent }
        else { r.resting .warning with warningTimer := Timer.start r.config.warning }
      let answer (t : State) : Host.Outcome State Fault Refusal :=
        .next (t.answered tag (.dropShutter n) (.taken false))
      let ended (x : Shutter) : State := { s with sht := s.sht.set n (some x), sup := (supplyEnded (.shutter n) s).sup }
      let withdrawn (x : Shutter) : State :=
        { s with sht := s.sht.set n (some x), sup := s.sup.withdrawn (.shutter n) r.config.group }
      let queued : Bool := !s.chn.creepRefused && s.sup.waitsOnlyIn (.shutter n) r.config.group
      (r.state = .waitSupply → queued = true → r.position = .bottom → s.flr.waitsFor r.config.floor = false →
        exec (.dropShutter tag n) s = .next
          ((withdrawn (r.resting .closed)).answered tag (.dropShutter n) (.done false []))) ∧
      ((∀ l ∈ r.landing?, s.chn.state = .parked ∧ ∃ p ∈ s.chn.park, l ∈ p.set) →
        (r.state = .opened ∨ r.state = .partOpen →
          exec (.dropShutter tag n) s = answer (s.onSht fun t => t.set n (some falls))) ∧
        (r.state = .waitSupply → queued = true → r.position ≠ .bottom →
          exec (.dropShutter tag n) s = answer (withdrawn falls)) ∧
        (r.state = .raising → s.sup.settles = true → exec (.dropShutter tag n) s = answer (ended falls))) ∧
      (∀ l ∈ r.landing?, s.chn.state = .tripped ∨ s.chn.state = .inspectionIdle →
        s.fir.condition = .normal → s.fir.held = [] → s.chn.clearance.contains l = false →
        let joined (t : State) : State := t.onChn fun c =>
          { c with clearance := (List.range 16).filter fun k => c.clearance.contains k || k == l }
        (r.state = .opened ∨ r.state = .partOpen →
          exec (.dropShutter tag n) s = answer (joined (s.onSht fun t => t.set n (some (r.resting .awaitClear))))) ∧
        (r.state = .waitSupply → queued = true → r.position ≠ .bottom →
          exec (.dropShutter tag n) s = answer (joined (withdrawn (r.resting .awaitClear)))) ∧
        (r.state = .raising → s.sup.settles = true →
          exec (.dropShutter tag n) s = answer (joined (ended (r.resting .awaitClear))))))

/-- FORCE DROP takes only a landing shutter in AWAIT_CLEAR of a stationary chain; it warns, marked forced, and its
landing leaves the clearance set with the last of its shutters. CLEAR SHUTTER FAULT holds a hall shutter where its
limits show it, and is declined outside FAULT, for a node not PRESENT, for limits at BOTH and for a melted link. That
FORCE DROP is declined WRONG_STATE before it looks for CHAIN_MOVING is the model's choice (log entry 22). -/
def Obligations.ForceDropAndClearFault : Prop :=
  (∀ (s : State) (tag n : Nat), s.ready = true → n ≤ 47 → ∀ r ∈ s.sht.get? n,
    (r.isLanding = false ∨ r.state ≠ .awaitClear →
      exec (.forceDrop tag n) s = .next (s.answered tag (.forceDrop n) (.declined .wrongState []))) ∧
    (∀ l ∈ r.landing?, r.state = .awaitClear →
      (s.chn.stationary = false →
        exec (.forceDrop tag n) s = .next (s.answered tag (.forceDrop n) (.declined .chainMoving []))) ∧
      (s.chn.stationary = true → s.peaceful = true → r.config.warning ≠ 0 →
        exec (.forceDrop tag n) s = .next
          (((s.onSht fun t => t.set n (some
            { r.resting .warning with forced := true, warningTimer := Timer.start r.config.warning })).onChn fun c =>
            { c with clearance := if ∃ k < s.sht.table.length, k ≠ n ∧ ∃ q ∈ s.sht.get? k,
                                      q.landing? = some l ∧ q.state = .awaitClear
                                  then c.clearance else c.clearance.filter (· ≠ l) }).answered
            tag (.forceDrop n) (.taken false))))) ∧
  (∀ (s : State) (tag n : Nat), s.ready = true → n ≤ 47 → ∀ r ∈ s.sht.get? n,
    (r.state ≠ .fault ∨ s.flp.isPresent r.config.node = false ∨ r.position = .both ∨ r.melted = true →
      exec (.clearShutterFault tag n) s = .next (s.answered tag (.clearShutterFault n) (.declined .wrongState []))) ∧
    (r.state = .fault → s.flp.isPresent r.config.node = true → r.position ≠ .both → r.melted = false →
      r.isLanding = false → s.flr.isIn r.config.floor .fire = false → s.flr.waitsFor r.config.floor = false →
      exec (.clearShutterFault tag n) s = .next
        (((s.onSht fun t => t.set n (some
          { r.held with cause := none, observed := none, arrests := 0, faultCoil := false })).noticed
            (.faultCleared n r.held.state)).answered tag (.clearShutterFault n) (.done false []))))

/-- RAISE SHUTTER: a hall shutter that only warns is held where it is; one that stands CLOSED or PART_OPEN, with no fire
lock and no moving chain at a landing, asks for a supply slot and waits for it or is raised at once. That a shutter that
warns at BOTTOM returns to CLOSED, and that the request and its pass come before the reports of the entry to
WAIT_SUPPLY, are the model's readings (log entries 48 and 45). -/
def Obligations.RaiseShutter : Prop :=
  ∀ (s : State) (tag n : Nat), s.ready = true → n ≤ 47 → ∀ r ∈ s.sht.get? n,
    (fireLocked s.flr s.fir.condition r = true →
      exec (.raiseShutter tag n) s = .next (s.answered tag (.raiseShutter n) (.declined .fireLock []))) ∧
    (fireLocked s.flr s.fir.condition r = false →
      (r.state = .opened →
        exec (.raiseShutter tag n) s = .next (s.answered tag (.raiseShutter n) (.done false []))) ∧
      (r.state = .unseen ∨ r.state = .descending ∨ r.state = .arrested ∨ r.state = .waitSupply ∨ r.state = .raising ∨
          r.state = .fault →
        exec (.raiseShutter tag n) s = .next (s.answered tag (.raiseShutter n) (.declined .wrongState []))) ∧
      (r.state = .warning → r.isLanding = false → s.flr.waitsFor r.config.floor = false →
        exec (.raiseShutter tag n) s = .next
          ((s.onSht fun t => t.set n (some r.held)).answered tag (.raiseShutter n) (.done false []))) ∧
      (r.state = .closed ∨ r.state = .partOpen → r.isLanding = true → s.chn.state.moving = true →
        exec (.raiseShutter tag n) s = .next (s.answered tag (.raiseShutter n) (.declined .chainMoving []))) ∧
      (r.state = .closed ∨ r.state = .partOpen → (r.isLanding = true → s.chn.state.moving = false) →
        (∀ g ∈ s.sup.groups[r.config.group]?, ∀ q ∈ g.queue, q.owner ≠ .shutter n) →
        (s.sup.holds r.config.group = true →
          exec (.raiseShutter tag n) s = .next
            ({ s with
                sht := s.sht.set n (some (r.resting .waitSupply))
                sup := { s.sup with groups := (s.sup.groups.modify r.config.group fun g =>
                          { g with queue := g.queue ++ [(⟨.shutter n, .raise⟩ : MoveRequest)] }) } }.answered
              tag (.raiseShutter n) (.taken false))) ∧
        (s.sup.admits r.config.group = true → s.chn.creepRefused = false →
          exec (.raiseShutter tag n) s = .next
            ({ s with
                sht := s.sht.set n (some { r.resting .raising with raiseTimer := Timer.start r.config.raise })
                sup := s.sup.withMove r.config.group (.shutter n) .raise }.answered
              tag (.raiseShutter n) (.taken false)))))

/-! ### A shutter's timers -/

/-- The expiries of a shutter's timers, of a shutter whose floor does not wait for it: the descent begins after the
warning and goes on after an arrest; a hold of 60 s under a fire lock goes on with the edge ignored, and without one the
descent is given up with OBSTRUCTED, the shutter PART_OPEN where its group refuses the raise, WAIT_SUPPLY where it
queues, RAISING where it is admitted; and a descent or a raise that takes too long is a fault. That the observed
position of a fault may be BOTH, and that the request and its pass come before OBSTRUCTED, are the model's readings (log
entries 47 and 45). -/
def Obligations.ShutterTimers : Prop :=
  ∀ (s : State) (n : Nat), s.quiet = true → ∀ r ∈ s.sht.get? n,
    (r.state = .warning → r.warningTimer.isRunning = true →
      exec (.warningTimerExpiry n) s = .next (s.onSht fun t => t.set n (some
        { r.resting .descending with arrests := 0, descentTimer := Timer.start r.config.descent }))) ∧
    (r.state = .arrested → r.clearTimer.isRunning = true →
      exec (.clearTimerExpiry n) s = .next (s.onSht fun t => t.set n (some
        { r with state := .descending, clearTimer := .stopped, holdTimer := .stopped
                 descentTimer := r.descentTimer.resume }))) ∧
    (r.state = .arrested → r.holdTimer.isRunning = true → fireLocked s.flr s.fir.condition r = true →
      exec (.holdTimerExpiry n) s = .next ((s.onSht fun t => t.set n (some
        { r with state := .descending, clearTimer := .stopped, holdTimer := .stopped
                 descentTimer := r.descentTimer.resume, edgeIgnored := true })).noticed (.edgeOverridden n r.arrests))) ∧
    (r.state = .arrested → r.holdTimer.isRunning = true → fireLocked s.flr s.fir.condition r = false →
      s.flr.waitsFor r.config.floor = false → (r.isLanding = true → s.chn.state = .halted → s.chn.clearance = []) →
      (s.sup.full (.shutter n) r.config.group = true →
        exec (.holdTimerExpiry n) s = .next ((s.onSht fun t => t.set n (some
          { r.resting .partOpen with forced := false })).noticed (.obstructed n r.arrests true))) ∧
      ((∀ g ∈ s.sup.groups[r.config.group]?, ∀ q ∈ g.queue, q.owner ≠ .shutter n) →
        (s.sup.holds r.config.group = true →
          exec (.holdTimerExpiry n) s = .next ({ s with
            sht := s.sht.set n (some (r.resting .waitSupply))
            sup := { s.sup with groups := (s.sup.groups.modify r.config.group fun g =>
                      { g with queue := g.queue ++ [(⟨.shutter n, .raise⟩ : MoveRequest)] }) } }.noticed
              (.obstructed n r.arrests false))) ∧
        (s.sup.admits r.config.group = true → s.chn.creepRefused = false →
          (r.isLanding = true → s.chn.state.moving = false) →
          exec (.holdTimerExpiry n) s = .next ({ s with
            sht := s.sht.set n (some { r.resting .raising with raiseTimer := Timer.start r.config.raise })
            sup := s.sup.withMove r.config.group (.shutter n) .raise }.noticed (.obstructed n r.arrests false))))) ∧
    (r.state = .descending → r.descentTimer.isRunning = true → r.isLanding = false → s.flr.waitsFor r.config.floor = false →
      exec (.descentTimeout n) s = .next ((s.onSht fun t => t.set n (some
        { r.resting .fault with cause := some .descentTimeout, observed := some r.position, faultCoil := false })).noticed
          (.shutterFault n .descentTimeout r.position .descending))) ∧
    (r.state = .raising → r.raiseTimer.isRunning = true → r.isLanding = false → s.flr.waitsFor r.config.floor = false →
      s.sup.settles = true →
      exec (.raiseTimeout n) s = .next (({ s with
        sup := (supplyEnded (.shutter n) s).sup
        sht := s.sht.set n (some
          { r.resting .fault with
            cause := some .raiseTimeout, observed := some r.position, faultCoil := true }) }).noticed
          (.shutterFault n .raiseTimeout r.position .raising)))

/-! ### Supply -/

/-- A mains dip in STEADY or RESTORING pauses every running raise and no chain move, and tells the shutters; asserted
again in DIPPED, and released in STEADY or RESTORING, nothing happens beside the input. Each release from DIPPED waits
0.5 s. Then the oldest paused raise in admission order runs again and the timer starts anew; with none paused the supply
is STEADY. A settle time that runs out takes its move out of the group. Eight groups are part of a valid configuration
(`ConfigurationStaysValid`), and the list of admission order holds no more owners than eight groups of capacity 4 have
moves. That SUPPLY_DIP counts the moves this dip pauses is the model's reading (log entry 50). -/
def Obligations.MainsDip : Prop :=
  ((∀ s : State, s.quiet = true → s.sup.order.length ≤ 32 → s.sup.mode ≠ .dipped →
    exec .mainsDipAsserted s = .next (((s.onSup fun u =>
      { u with
        mode := .dipped, restartTimer := .stopped, dip := true
        groups := u.groups.map fun g => { g with moves := (g.moves.map fun m =>
          if m.kind = .raise ∧ m.phase = .running then { m with phase := .paused } else m) } }).onSht fun t =>
      { table := (t.table.mapIdx fun n o => o.map fun r =>
          if r.state = .raising ∧ r.paused = false ∧ MoveOwner.shutter n ∈ s.sup.toPause then
            { r with paused := true, raiseTimer := r.raiseTimer.freeze }
          else r) }).noticed (.supplyDip s.sup.toPause.length))) ∧
  (∀ s : State, s.quiet = true → s.sup.mode = .dipped →
    exec .mainsDipAsserted s = .next (s.onSup fun u => { u with dip := true }) ∧
    exec .mainsDipReleased s = .next
      (s.onSup fun u => { u with dip := false, mode := .restoring, restartTimer := .running 10 })) ∧
  ∀ s : State, s.quiet = true → s.sup.mode ≠ .dipped →
    exec .mainsDipReleased s = .next (s.onSup fun u => { u with dip := false })) ∧
  ((∀ s : State, s.quiet = true → s.sup.mode = .restoring → s.sup.restartTimer.isRunning = true →
    (∀ n, s.sup.oldestPaused = some (.shutter n) → ∀ r ∈ s.sht.get? n, r.state = .raising → r.paused = true →
      exec .restartTimerExpiry s = .next { s with
        sup := { s.sup with
          restartTimer := .running 10
          groups := s.sup.groups.map fun g => { g with moves := (g.moves.map fun (m : Move) =>
            if m.owner = .shutter n ∧ m.phase = .paused then { m with phase := .running } else m) } }
        sht := s.sht.set n (some { r with paused := false, raiseTimer := r.raiseTimer.resume }) }) ∧
    (s.sup.oldestPaused = none → s.sup.groups.length = 8 → (∀ g ∈ s.sup.groups, g.queue = []) →
      exec .restartTimerExpiry s = .next
        ((s.onSup fun u => { u with mode := .steady, restartTimer := .stopped }).noticed .supplyRestored))) ∧
  ∀ (s : State) (g : Nat) (owner : MoveOwner) (before after : List Move) (left : Nat) (kind : MoveKind), s.quiet = true →
    ∀ r ∈ s.sup.groups[g]?, r.queue = [] → r.moves = before ++ ⟨owner, kind, .settling left⟩ :: after →
    (∀ m ∈ before, m.owner ≠ owner) →
    exec (.settleExpiry g owner) s = .next
      (s.onSup fun u => { u with groups := u.groups.set g { r with moves := before ++ after } }))

/-- A slot that comes free admits the head of its group's queue: a raise starts with its timer, or, at a moving chain or
under a fire lock, is given up with RAISE_ABANDONED, the shutter held where its limits show it; a START starts the
chain, and a chain move without run permission is ABANDONED. A move given up leaves its slot without settle. A supply
that becomes STEADY admits a waiting raise in the same way. Eight groups are part of a valid configuration
(`ConfigurationStaysValid`). The order of the notices and of what they follow is the model's (log entries 24 and 80). -/
def Obligations.AdmissionAndAbandon : Prop :=
  (∀ (s : State) (g : Nat) (owner : MoveOwner) (before after : List Move) (left : Nat) (kind : MoveKind),
    s.quiet = true → s.sup.mode = .steady → (∀ m ∈ before, m.owner ≠ owner) → ∀ r ∈ s.sup.groups[g]?,
    r.moves = before ++ ⟨owner, kind, .settling left⟩ :: after → before.length + after.length < r.config.capacity →
    let left' (moves : List Move) : Supply :=
      { s.sup with groups := s.sup.groups.set g { r with queue := [], moves := before ++ after ++ moves } }
    (∀ n, ∀ q ∈ s.sht.get? n, r.queue = [⟨.shutter n, .raise⟩] → q.state = .waitSupply → s.chn.creepRefused = false →
      (fireLocked s.flr s.fir.condition q = false → (q.isLanding = true → s.chn.state.moving = false) →
        exec (.settleExpiry g owner) s = .next
          { s with
            sht := s.sht.set n (some { q.resting .raising with raiseTimer := Timer.start q.config.raise })
            sup := { left' [⟨.shutter n, .raise, .running⟩] with order := s.sup.order ++ [.shutter n] } }) ∧
      ((∀ k ∈ s.sup.groups, ∀ m ∈ k.moves, m.owner ≠ .shutter n) → s.flr.waitsFor q.config.floor = false →
        (q.isLanding = true → s.chn.state.moving = true → fireLocked s.flr s.fir.condition q = false →
          exec (.settleExpiry g owner) s = .next
            ({ s with
                sht := s.sht.set n (some q.held)
                sup := { left' [] with order := s.sup.order.filter (· ≠ MoveOwner.shutter n) } }.noticed
              (.raiseAbandoned n .chainMoving))) ∧
        (q.position = .bottom → fireLocked s.flr s.fir.condition q = true →
          exec (.settleExpiry g owner) s = .next
            ({ s with
                sht := s.sht.set n (some q.held)
                sup := { left' [] with order := s.sup.order.filter (· ≠ MoveOwner.shutter n) } }.noticed
              (.raiseAbandoned n .fireLock))))) ∧
    (∀ move, r.queue = [⟨.chain, .chain move⟩] → runPermission s.chn s.sht = false →
      (∀ k ∈ s.sup.groups, ∀ m ∈ k.moves, m.owner ≠ .chain) →
      exec (.settleExpiry g owner) s = .next
        ({ s with
            chn := { s.chn with request := none, creepSet := [] }
            sup := { left' [] with order := s.sup.order.filter (· ≠ MoveOwner.chain) } }.noticed (.abandoned move))) ∧
    (r.queue = [⟨.chain, .chain .start⟩] → s.alone = true → s.chn.state = .halted ∨ s.chn.state = .parked →
      s.chn.safetyClosed = true → s.sht.permit = true → s.chn.clearance = [] →
      exec (.settleExpiry g owner) s = .next
        { s with
          chn := { s.chn.into .starting with
            request := none, park := none, creepCount := 0, runupTimer := Timer.start s.chn.config.times.runup }
          sup := { left' [⟨.chain, .chain .start, .running⟩] with order := s.sup.order ++ [.chain] } })) ∧
  ∀ (s : State) (g n : Nat), s.quiet = true → s.sup.groups.length = 8 → s.sup.mode = .restoring →
    s.sup.restartTimer.isRunning = true →
    s.sup.oldestPaused = none → s.chn.creepRefused = false → ∀ r ∈ s.sup.groups[g]?, r.queue = [⟨.shutter n, .raise⟩] →
    r.moves.length < r.config.capacity → (∀ k < s.sup.groups.length, k ≠ g → ∀ q ∈ s.sup.groups[k]?, q.queue = []) →
    ∀ q ∈ s.sht.get? n, q.state = .waitSupply → fireLocked s.flr s.fir.condition q = false →
    (q.isLanding = true → s.chn.state.moving = false) →
    exec .restartTimerExpiry s = .next
      ({ s with
          sht := s.sht.set n (some { q.resting .raising with raiseTimer := Timer.start q.config.raise })
          sup := { s.sup with
            mode := .steady, restartTimer := .stopped, order := s.sup.order ++ [MoveOwner.shutter n]
            groups := s.sup.groups.set g
              { r with queue := [], moves := r.moves ++ [(⟨.shutter n, .raise, .running⟩ : Move)] } } }.noticed .supplyRestored)

/-! ### Floors and soundings -/

/-- SET FLOOR STATE with no call open, by its checks in order, and its whole effect. -/
def Obligations.SetFloorState : Prop :=
  ∀ (s : State) (tag f code : Nat), s.ready = true → s.cal.calls = [] →
    (s.flr.table[f]? = none ∨ (code ≠ 0 ∧ code ≠ 2) →
      exec (.setFloorState tag f code) s = .next (s.answered tag (.setFloorState f code) (.declined .outOfRange []))) ∧
    (code = 0 ∨ code = 2 → ∀ r ∈ s.flr.table[f]?,
      let wanted : FloorState := if code = 0 then .shut else .trading
      exec (.setFloorState tag f code) s = .next
        (if s.prg.kind ≠ .none then s.answered tag (.setFloorState f code) (.declined .busy [])
        else if r.state = .fire then s.answered tag (.setFloorState f code) (.declined .fireLock [])
        else if r.state = wanted then s.answered tag (.setFloorState f code) (.done false [])
        else if ∃ k < s.sht.table.length, ∃ q ∈ s.sht.get? k, q.config.floor = f ∧
            (if code = 2 then q.state ≠ .opened
             else q.state ≠ .closed ∧ ¬(q.state = .fault ∧ q.observed = some .bottom)) then
          s.answered tag (.setFloorState f code) (.declined .wrongState [])
        else
          ((s.onFlr fun t => { t with table := (t.table.set f
              { r with state := wanted, inStep := false
                       confirmation := if code = 2 then none else r.confirmation }) }).noticed
            (.floorState f r.state wanted .order none none none)).answered tag (.setFloorState f code) (.done false [])))

/-! ### Calls -/

/-- PLACE CALL: a NORMAL call opens, the mark that bars URGENT passes to it and its urgent window runs; it goes to the
first free member of the team's ring from the pointer and rings at once on free zones, or is UNASSIGNED with no member
free. A second press within the window makes it URGENT, unless the mark bars it; outside the window it is declined.
CANCEL CALL of a call without a sounding: it closes CANCELLED, its member and button released; a number no call has is
declined. That the dispatch and its notice come before CALL_OPENED, and that a barred second press is declined with
URGENT_REFUSED, are the model's readings (log entries 24 and 32). -/
def Obligations.CallOrders : Prop :=
  ((∀ (s : State) (tag station button team number : Nat), s.ready = true → button ≤ 3 → ∀ st ∈ s.cal.station? station,
    s.flp.isPresent st.config.node = true → (st.openCall[button]?).join = none →
    (st.config.buttons[button]?).join = some team →
    (∀ f ∈ s.flr.table[st.config.floor]?, f.state ≠ .securing ∧ f.state ≠ .shut ∧ f.state ≠ .fire) →
    (∀ t ∈ s.cal.teams[team]?, t.ring ≠ [] ∧ ∀ m ∈ t.ring, ∀ r ∈ s.cal.staff[m]?, r.onDuty = false ∨ r.assigned ≠ none) →
    s.cal.teams[team]? ≠ none → s.cal.calls.length < 32 → number = s.cal.number →
    (∀ r ∈ s.cal.calls, r.number ≠ number) →
    exec (.placeCall tag station button) s = .next
      ((((s.onCal fun c => { c with
          calls := c.calls ++ [
            { number := number, cls := .normal, origin := .button station button, team := team, member := none
              phase := .unassigned, roundTimer := .stopped, rounds := 0, escalations := 0
              barred := (st.spent[button]?).getD false, lampOnly := false, age := 0 }]
          nextNumber := if number < 65535 then number + 1 else 1
          stations := c.stations.set station (some { st with
            spent := st.spent.set button false, openCall := st.openCall.set button (some number)
            window := st.window.set button (.running 20) }) }).noticed (.callUnassigned number team)).noticed
        (.callOpened number .normal (.button station button) team)).answered tag (.placeCall station button)
        (.done false (field 2 number)))) ∧
  (∀ (s : State) (tag station button team number k member : Nat), s.ready = true → button ≤ 3 →
    ∀ st ∈ s.cal.station? station, s.flp.isPresent st.config.node = true → (st.openCall[button]?).join = none →
    (st.config.buttons[button]?).join = some team →
    (∀ f ∈ s.flr.table[st.config.floor]?, f.state ≠ .securing ∧ f.state ≠ .shut ∧ f.state ≠ .fire) →
    ∀ t ∈ s.cal.teams[team]?, ∀ m ∈ s.cal.staff[member]?, s.cal.firstFree t k member = true →
    s.cal.calls.length < 32 → number = s.cal.number → (∀ r ∈ s.cal.calls, r.number ≠ number) → s.snd.queue = [] →
    s.snd.reservations = [] → s.snd.free (s.flr.zones st.config.floor) = true →
    exec (.placeCall tag station button) s = .next
      (((((s.onCal fun c => { c with
          calls := c.calls ++ [
            { number := number, cls := .normal, origin := .button station button, team := team, member := some member
              phase := .sounding, roundTimer := .stopped, rounds := 0, escalations := 0
              barred := (st.spent[button]?).getD false, lampOnly := false, age := 0 }]
          nextNumber := if number < 65535 then number + 1 else 1
          staff := c.staff.set member { m with assigned := some number }
          teams := c.teams.set team { t with pointer := (t.pointer + k + 1) % t.ring.length }
          stations := c.stations.set station (some { st with
            spent := st.spent.set button false, openCall := st.openCall.set button (some number)
            window := st.window.set button (.running 20) }) }).onSnd fun u =>
          u.rung .callNormal m.pattern (s.flr.zones st.config.floor) s.cal.timing.repeats number team).noticed
        (.callAssigned number member)).noticed
        (.callOpened number .normal (.button station button) team)).answered tag (.placeCall station button)
        (.done false (field 2 number)))) ∧
  ∀ (s : State) (tag station button : Nat) (r : Call) (before after : List Call), s.ready = true → button ≤ 3 →
    ∀ st ∈ s.cal.station? station, s.flp.isPresent st.config.node = true → (st.openCall[button]?).join = some r.number →
    s.cal.calls = before ++ r :: after → (∀ x ∈ before ++ after, x.number ≠ r.number) → ∀ w ∈ st.window[button]?,
    let o : Order := .placeCall station button
    (w.isRunning = false →
      exec (.placeCall tag station button) s = .next (s.answered tag o (.declined .wrongState []))) ∧
    (w.isRunning = true →
      (r.cls ≠ .normal →
        exec (.placeCall tag station button) s = .next (s.answered tag o (.done false (field 2 r.number)))) ∧
      (r.cls = .normal → r.barred = true →
        exec (.placeCall tag station button) s = .next
          ((s.noticed (.urgentRefused r.number)).answered tag o (.declined .wrongState []))) ∧
      (r.cls = .normal → r.barred = false → r.phase = .awaitingAck ∨ r.phase = .unassigned →
        exec (.placeCall tag station button) s = .next
          (((s.onCal fun c => { c with calls := before ++ { r with cls := .urgent } :: after }).noticed
            (.callUrgent r.number)).answered tag o (.done false (field 2 r.number)))))) ∧
  ((∀ (s : State) (tag n : Nat), s.ready = true → (∀ r ∈ s.cal.calls, r.number ≠ n) →
    exec (.cancelCall tag n) s = .next (s.answered tag (.cancelCall n) (.declined .wrongState []))) ∧
  ∀ (s : State) (tag : Nat) (r : Call) (before after : List Call), s.ready = true → s.cal.calls = before ++ r :: after →
    (∀ x ∈ before ++ after, x.number ≠ r.number ∧ x.phase ≠ .unassigned) →
    (∀ x ∈ s.snd.queue, x.origin ≠ .call r.number r.team) →
    (∀ p ∈ s.snd.playing, p.sounding.origin ≠ .call r.number r.team) →
    exec (.cancelCall tag r.number) s = .next
      (((s.onCal fun c => { c with
          calls := before ++ after
          staff := match r.member with
            | some m => c.staff.modify m fun x => { x with assigned := none }
            | none => c.staff
          stations := match r.origin with
            | .button st b => c.stations.modify st (Option.map fun x =>
                { x with openCall := x.openCall.set b none, window := x.window.set b .stopped })
            | .floor _ => c.stations }).noticed (.callClosed r.number .cancelled)).answered tag (.cancelCall r.number)
        (.done false [])))

/-- The timers of the call dispatcher and the unassigned pass. A button's urgent window ends; the round timer of a call
with rounds left puts its next round in an empty queue, where a zone of its floor is held; with the member's rounds
spent the call escalates to the first free member, and with its escalations spent too it is abandoned, its member and
button released. A member who comes on duty is given the call that waits UNASSIGNED, without a second CALL_UNASSIGNED,
and so is one on duty whom LOAD DUTY LIST puts in the ring, once the order is answered. That CALL_ESCALATED comes before
the dispatch and CALL_CLOSED before CALL_ABANDONED is the model's reading (log entry 24), and so are which calls the
pass leaves out (log entry 31) and that SET DUTY is answered after it (log entry 65); that a call is abandoned with more
escalations done than the value is its reading too (log entry 73). -/
def Obligations.CallTimers : Prop :=
  (∀ (s : State) (station button : Nat), s.quiet = true → ∀ st ∈ s.cal.station? station,
    exec (.urgentWindowExpiry station button) s = .next
      (s.onCal fun c => { c with stations := c.stations.set station (some
        { st with window := st.window.set button .stopped }) })) ∧
  (∀ (s : State) (r : Call) (before after : List Call), s.quiet = true → s.cal.calls = before ++ r :: after →
    (∀ x ∈ before ++ after, x.number ≠ r.number) → r.phase = .awaitingAck → r.roundTimer.isRunning = true →
    (r.cls = .sweep ∨ r.cls = .warden ∨ r.rounds < s.cal.timing.rounds) → s.snd.queue = [] →
    s.snd.free (s.flr.zones (s.cal.floorOf r)) = false →
    exec (.roundTimerExpiry r.number) s = .next
      ((s.onCal fun c => { c with calls := before ++ { r with phase := .queued, roundTimer := .stopped } :: after }).onSnd
        fun u =>
          let pattern := if r.cls = .normal ∨ r.cls = .urgent then
              ((r.member.bind fun m => s.cal.staff[m]?).map (·.pattern)).getD 0
            else ((s.cal.teams[r.team]?).map (·.pattern)).getD 0
          { u with
            queue := [
              { u.cue pattern (s.flr.zones (s.cal.floorOf r)) s.cal.timing.repeats (.call r.number r.team) with
                cls := if r.cls = .normal then .callNormal else .callUrgent }]
            nextStamp := u.nextStamp + 1 })) ∧
  (∀ (s : State) (r : Call) (before after : List Call), s.quiet = true → s.cal.calls = before ++ r :: after →
    (∀ x ∈ before ++ after, x.number ≠ r.number ∧ x.phase ≠ .unassigned) → r.phase = .awaitingAck →
    r.roundTimer.isRunning = true → s.cal.timing.rounds ≤ r.rounds → ∀ m ∈ r.member,
    (r.cls = .normal → r.escalations < s.cal.timing.escalations → ∀ t ∈ s.cal.teams[r.team]?, ∀ x ∈ s.cal.staff[m]?,
      let released : Calls := { s.cal with staff := s.cal.staff.set m { x with assigned := none } }
      ∀ k member, released.firstFree t k member = true → ∀ y ∈ released.staff[member]?,
      s.snd.queue = [] → s.snd.reservations = [] → s.snd.free (s.flr.zones (s.cal.floorOf r)) = true →
      exec (.roundTimerExpiry r.number) s = .next
        ((((s.onCal fun c => { c with
            calls := before ++
              { r with member := some member, phase := .sounding, roundTimer := .stopped, rounds := 0
                       escalations := r.escalations + 1 } :: after
            staff := released.staff.set member { y with assigned := some r.number }
            teams := c.teams.set r.team { t with pointer := (t.pointer + k + 1) % t.ring.length } }).onSnd fun u =>
            u.rung .callNormal y.pattern (s.flr.zones (s.cal.floorOf r)) s.cal.timing.repeats r.number r.team).noticed
          (.callEscalated r.number m (r.escalations + 1))).noticed (.callAssigned r.number member))) ∧
    (r.cls = .normal ∨ r.cls = .urgent → s.cal.timing.escalations ≤ r.escalations →
      (∀ x ∈ s.snd.queue, x.origin ≠ .call r.number r.team) →
      (∀ p ∈ s.snd.playing, p.sounding.origin ≠ .call r.number r.team) →
      exec (.roundTimerExpiry r.number) s = .next
        (((s.onCal fun c => { c with
            calls := before ++ after
            staff := c.staff.modify m fun x => { x with assigned := none }
            stations := match r.origin with
              | .button st b => c.stations.modify st (Option.map fun x =>
                  { x with openCall := x.openCall.set b none, window := x.window.set b .stopped })
              | .floor _ => c.stations }).noticed (.callClosed r.number .abandoned)).noticed
          (.callAbandoned r.number r.team (some m))))) ∧
  ∀ (s : State) (tag member k : Nat) (r : Call) (before after : List Call), s.configReady = true →
    s.cal.calls = before ++ r :: after → (∀ x ∈ before ++ after, x.number ≠ r.number ∧ x.phase ≠ .unassigned) →
    r.phase = .unassigned → r.cls = .normal →
    (∀ f ∈ s.flr.table[s.cal.floorOf r]?, f.state ≠ .securing ∧ f.state ≠ .shut ∧ f.state ≠ .fire) →
    s.snd.queue = [] → s.snd.reservations = [] → s.snd.free (s.flr.zones (s.cal.floorOf r)) = true →
    ∀ m ∈ s.cal.staff[member]?, ∀ t ∈ s.cal.teams[r.team]?,
    let given (pointer : Nat) (ring : List Nat) : State :=
      (s.onCal fun c => { c with
        calls := before ++ { r with member := some member, phase := .sounding, roundTimer := .stopped } :: after
        staff := c.staff.set member { m with onDuty := true, assigned := some r.number }
        teams := c.teams.set r.team { t with ring := ring, pointer := pointer } }).onSnd fun u =>
        u.rung .callNormal m.pattern (s.flr.zones (s.cal.floorOf r)) s.cal.timing.repeats r.number r.team
    (m.onDuty = false →
      let present : Calls := { s.cal with staff := s.cal.staff.set member { m with onDuty := true } }
      present.firstFree t k member = true →
      exec (.setDuty tag member true) s = .next
        (((given ((t.pointer + k + 1) % t.ring.length) t.ring).noticed (.callAssigned r.number member)).answered tag
          (.setDuty member true) (.done false []))) ∧
    (m.onDuty = true → m.assigned = none → member ≤ 63 →
      exec (.loadDutyList tag r.team 0 [member]) s = .next
        (((given 0 [member]).answered tag (.loadDutyList r.team 0 [member]) (.done false [])).noticed
          (.callAssigned r.number member)))

/-! ### The store clock -/

/-- A second runs a set clock on, over midnight into the next day, and every WAITING cue's lead falls. At a lead of 300
s a cue is RESERVED with room in the list. At its slot it sounds with its zones free, and clashes into a retry
otherwise. Cue leads counted in seconds and in units of 50 ms, the rounding of a reservation's end and the order of the
list over midnight are the model's (log entries 23, 8 and 53). -/
def Obligations.ClockEvents : Prop :=
  (∀ s : State, s.quiet = true →
    exec .clockSecond s = .next
      (if s.clk.isSet = false then s
      else s.onClk fun c => { c with
        time := if c.time < 86399 then c.time + 1 else 0
        day := if c.time < 86399 then c.day else (c.day + 1) % 7
        cues := c.cues.map fun q => if q.phase = .waiting then { q with lead := q.lead - 1 } else q })) ∧
  (∀ (s : State) (n : Nat), s.quiet = true → ∀ q ∈ s.clk.cues[n]?, q.phase = .waiting → s.snd.playing = [] →
    s.snd.reservations.length < 16 → ∀ o ∈ q.occurrence,
    let length := patternDuration ((s.snd.patterns[q.config.pattern]?).getD []) * q.config.repeats
    exec (.cueReservationDue n) s = .next
      ((s.onClk fun c => { c with cues := c.cues.set n { q with phase := .reserved, lead := 0 } }).onSnd fun u =>
        { u with reservations := (insertBy reservationBefore
          { cue := n, start := o.time, finish := (o.time + Config.toSeconds length) % 86400, lead := 6000
            length := length, zones := q.config.zones } (u.reservations.filter fun r => r.cue ≠ n)) })) ∧
  (∀ (s : State) (n : Nat), s.quiet = true → ∀ q ∈ s.clk.cues[n]?, (q.phase = .reserved ∨ q.phase = .retrying) →
    (s.snd.free q.config.zones = true →
      exec (.cueSlot n) s = .next
        ((s.onClk fun c => { c with cues := c.cues.set n { q with phase := .sounding } }).onSnd fun u =>
          let x := u.cue q.config.pattern q.config.zones q.config.repeats (.scheduled n)
          { u with
            playing := u.playing ++ [u.begun x], nextStamp := u.nextStamp + 1
            reservations := u.reservations.map fun r => if r.cue = n then { r with lead := 0 } else r })) ∧
    (s.snd.free q.config.zones = false → q.retries < q.config.retryLimit → s.snd.queue = [] →
      (∀ p ∈ s.snd.playing, p.sounding.cls ≠ .callUrgent ∧ p.sounding.cls ≠ .callNormal) →
      ∀ r ∈ s.snd.reservations.find? fun r => r.cue == n,
      let start := (s.clk.time + q.config.retryInterval) % 86400
      exec (.cueSlot n) s = .next
        (((s.onClk fun c => { c with cues := c.cues.set n { q with phase := .retrying, retries := q.retries + 1 } }).onSnd
          fun u => { u with reservations := (insertBy reservationBefore
            { cue := n, start := start, finish := (start + Config.toSeconds r.length) % 86400
              lead := 20 * q.config.retryInterval, length := r.length, zones := r.zones }
            (u.reservations.filter fun r => r.cue ≠ n)) }).noticed (.cueClashed n (q.retries + 1) start))))

/-- The next occurrence at or after a moment is the earliest of the week ahead on a day of the mask at the cue's time.
SET CUE on a set clock makes an enabled cue WAITING for an occurrence more than 300 s ahead, RESERVED with its
reservation at one exactly 300 s ahead, and skips a nearer one for the next; it cuts a sounding cue short. A cue whose
reservation the full list refuses is skipped, one that clashes with no retry left is lost, and one that has sounded is
done; each then waits for the next occurrence, which lies after the moment one second past the one done. Leads, the
rounding of a reservation's end and the order of the list over midnight are the model's (log entries 23, 8 and 53), and
so is the order of what one event hands on (log entry 24). -/
def Obligations.CueOccurrences : Prop :=
  (∀ (config : CueConfig) (ref : Occurrence), ref.day < 7 → ref.time < 86400 → config.time < 86400 →
    (∀ d ∈ config.days, d < 7) →
    (nextOccurrence config ref = none ↔ config.days = []) ∧
    ∀ o d, nextOccurrence config ref = some (o, d) →
      o.day ∈ config.days ∧ o.time = config.time ∧ d < 604800 ∧
      o.inWeek = (ref.inWeek + d) % 604800 ∧
      ∀ e < d, ∀ day ∈ config.days, (ref.inWeek + e) % 604800 ≠ day * 86400 + config.time) ∧
  (∀ (s : State) (tag cue : Nat) (f : CueFields), s.configReady = true → cue ≤ 23 → f.inRange = true →
    s.clk.isSet = true → s.clk.day < 7 → s.clk.time < 86400 → ∀ q ∈ s.clk.cues[cue]?,
    let at' (phase : CuePhase) (o : Option Occurrence) (lead : Nat) : State :=
      s.onClk fun c => { c with cues := c.cues.set cue ⟨f.config, phase, o, lead, 0⟩ }
    let answer (t : State) : State := t.answered tag (.setCue cue f) (.done f.clamps [])
    (q.phase ≠ .sounding → (∀ r ∈ s.snd.reservations, r.cue ≠ cue) → f.config.enabled = true →
      ∀ o d, nextOccurrence f.config ⟨s.clk.day, s.clk.time⟩ = some (o, d) →
      (300 < d → exec (.setCue tag cue f) s = .next (answer (at' .waiting (some o) d))) ∧
      (d = 300 → s.snd.reservations.length < 16 → s.snd.playing = [] →
        let length := patternDuration ((s.snd.patterns[f.config.pattern]?).getD []) * f.config.repeats
        exec (.setCue tag cue f) s = .next
          (answer ((at' .reserved (some o) 0).onSnd fun u => { u with
            reservations := insertBy reservationBefore
              { cue := cue, start := o.time, finish := (o.time + Config.toSeconds length) % 86400, lead := 6000
                length := length, zones := f.config.zones } u.reservations }))) ∧
      (d < 300 → ∀ o' d', nextOccurrence f.config o.next = some (o', d') →
        exec (.setCue tag cue f) s = .next
          (answer ((at' .waiting (some o') (d + 1 + d')).noticed (.cueSkipped cue (some o) .horizon))))) ∧
    (q.phase = .sounding → f.config.enabled = false → s.snd.queue = [] → ∀ before after p,
      s.snd.playing = before ++ p :: after → p.sounding.cls = .cue → p.sounding.origin = .scheduled cue →
      (∀ x ∈ before ++ after, x.sounding.origin ≠ .scheduled cue) →
      exec (.setCue tag cue f) s = .next
        (answer (((at' .idle none 0).onSnd fun u => { u with
          playing := before ++ after
          reservations := u.reservations.filter fun r => r.cue ≠ cue }).noticed
            (.cueSkipped cue q.occurrence .cut))))) ∧
  ∀ (s : State) (n k : Nat), s.quiet = true → s.clk.isSet = true → s.snd.queue = [] → ∀ q ∈ s.clk.cues[n]?,
    q.config.enabled = true → q.config.days ≠ [] → ∀ o ∈ q.occurrence, ∀ o' d',
    nextOccurrence q.config o.next = some (o', d') → s.clk.day < 7 → s.clk.time < 86400 → o.day < 7 → o.time < 86400 →
    let now : Occurrence := ⟨s.clk.day, s.clk.time⟩
    let waits (lead : Nat) : State :=
      s.onClk fun c => { c with cues := c.cues.set n ⟨q.config, .waiting, some o', lead, 0⟩ }
    let removed (t : State) : State :=
      t.onSnd fun u => { u with reservations := u.reservations.filter fun r => r.cue ≠ n }
    (k ≤ 300 → (now.inWeek + k) % 604800 = o.inWeek → q.phase = .waiting → s.snd.reservations.length = 16 →
      (∀ r ∈ s.snd.reservations, r.cue ≠ n) →
      exec (.cueReservationDue n) s = .next ((waits (k + 1 + d')).noticed (.cueSkipped n (some o) .listFull))) ∧
    (k ≤ 1232 → (o.inWeek + k) % 604800 = now.inWeek →
      (q.phase = .reserved ∨ q.phase = .retrying → q.config.retryLimit ≤ q.retries →
        s.snd.free q.config.zones = false →
        exec (.cueSlot n) s = .next
          ((removed (waits (1 + d' - k))).noticed (.cueLost n (some o) (q.config.retryLimit + 1)))) ∧
      (q.phase = .sounding → ∀ before after p, s.snd.playing = before ++ p :: after → p.sounding.cls = .cue →
        p.sounding.origin = .scheduled n → (∀ x ∈ before ++ after, x.sounding.stamp ≠ p.sounding.stamp) →
        exec (.soundingEnd p.sounding.stamp) s = .next
          (((removed (waits (1 + d' - k))).onSnd fun u => { u with playing := before ++ after }).noticed
            (.cueSounded n q.retries))))

/-! ### Programmes -/

/-- START CLOSING on a silent line: every TRADING floor is CLOSING, in the closing order, and the first warning sounds.
START OPENING while the chain moves: the programme waits in CHAIN_STOP with the SHUT floors in the opening order, and
the chain brakes; with the chain at rest CHAIN_STOP ends at once and the first floor's shutters, CLOSED or PART_OPEN,
are raised: a single one with a free slot is RAISING, and any number without wait in WAIT_SUPPLY. SKIP FLOOR in SWEEP
with no call open, for a floor not all closed and with no shutter that waits for a raise or is raised: SWEPT by order
and SECURING at once, and each of its shutters that stands up, hall or clear of the parked chain, begins its drop. ABORT
PROGRAMME with no programme sounding: the record's running fields are none and the last outcome is written. Without a
programme SKIP FLOOR and ABORT PROGRAMME are declined. The lengths of tables are part of a valid configuration
(`ConfigurationStaysValid`). The order of the notices (log entry 24), of FLOOR_STATE and PROGRAMME_STEP (log entries 52
and 82), the declined list (log entry 43) and the floor in the abort answer and the last outcome (log entry 19) are the
model's readings and choices. -/
def Obligations.ProgrammeOrders : Prop :=
  (∀ (s : State) (tag : Nat), s.ready = true →
    let trading := (List.range s.flr.table.length).filter fun f => (s.flr.table[f]?).any fun r => r.state == .trading
    let floors := (closingOrder s.prg.settings.street).filter fun f => trading.contains f
    (s.prg.kind ≠ .none → exec (.startClosing tag) s = .next (s.answered tag .startClosing (.declined .busy []))) ∧
    (s.prg.kind = .none → s.fir.condition ≠ .normal →
      exec (.startClosing tag) s = .next (s.answered tag .startClosing (.declined .fireLock []))) ∧
    (s.prg.kind = .none → s.fir.condition = .normal → trading = [] →
      exec (.startClosing tag) s = .next (s.answered tag .startClosing (.declined .wrongState []))) ∧
    (s.prg.kind = .none → s.fir.condition = .normal → trading ≠ [] → s.snd.silent = true →
      s.flr.table.length = 8 →
      exec (.startClosing tag) s = .next
        (((trading.foldl (fun (u : State) f => u.noticed (.floorState f .trading .closing .programme none none none))
          (((s.onFlr fun u => { table := u.table.map fun r =>
              if r.state = .trading then { r with state := .closing, inStep := false, confirmation := none } else r }).onPrg
            fun p =>
              { settings := p.settings, kind := .closing, step := some .firstWarning, floors := floors
                cursor := some 0, sounding := some .started, deadline := .stopped, sweepCall := none
                placingRetry := .stopped
                chainWasRunning := decide (s.chn.state = .starting ∨ s.chn.state = .running)
                overdue := false, faulted := [], skipped := [], opened := [], last := none }).onSnd fun u =>
            u.arrived (u.cue s.prg.settings.firstPattern (s.flr.zoneUnion floors) 1
              (.programme .firstWarning)))).noticed (.programmeStarted .closing floors)).answered tag .startClosing
          (.taken false)))) ∧
  (∀ (s : State) (tag : Nat), s.ready = true →
    let shut := (List.range s.flr.table.length).filter fun f => (s.flr.table[f]?).any fun r => r.state == .shut
    let floors := (openingOrder s.prg.settings.street).filter fun f => shut.contains f
    (s.prg.kind = .none → s.fir.condition = .normal → shut = [] →
      exec (.startOpening tag) s = .next (s.answered tag .startOpening (.declined .wrongState []))) ∧
    let opening (step : ProgrammeStep) (cursor : Option Nat) : Programme :=
      { settings := s.prg.settings, kind := .opening, step := some step, floors := floors, cursor := cursor
        sounding := none, deadline := .stopped, sweepCall := none, placingRetry := .stopped, chainWasRunning := false
        overdue := false, faulted := [], skipped := [], opened := [], last := none }
    (s.alone = true → shut ≠ [] → s.chn.config.configured = true → s.chn.clearance = [] →
      (s.chn.state = .starting ∨ s.chn.state = .running ∨ s.chn.state = .stopping ∨ s.chn.state = .creeping ∨
        s.chn.state = .homing) →
      exec (.startOpening tag) s = .next
        (({ s with
            chn := { s.chn.into .braking with plan := none }
            sup := (supplyEnded .chain s).sup
            prg := opening .chainStop none }.noticed (.programmeStarted .opening floors)).answered tag .startOpening
          (.taken false))) ∧
    (s.prg.kind = .none → s.fir.condition = .normal → s.chn.state.moving = false → s.sht.table.length = 48 →
      ∀ f, floors.head? = some f → ∀ r ∈ s.flr.table[f]?,
      let ofFloor := (List.range s.sht.table.length).filter fun n => (s.sht.get? n).any fun q => q.config.floor == f
      let raised (sht : Shutters) (sup : Supply) : State :=
        (((({ s with
            prg := opening .raise (some 0), sht := sht, sup := sup
            flr := { table := s.flr.table.set f { r with state := .opening, inStep := false, faulted := 0 } } }.noticed
          (.programmeStarted .opening floors)).noticed (.programmeStep .opening .raise (some f))).noticed
          (.floorState f .shut .opening .programme none none none)).answered tag .startOpening (.taken false))
      (∀ n, ofFloor = [n] → ∀ q ∈ s.sht.get? n, q.state = .closed ∨ q.state = .partOpen →
        s.sup.admits q.config.group = true → s.chn.creepRefused = false →
        exec (.startOpening tag) s = .next
          (raised (s.sht.set n (some { q.resting .raising with raiseTimer := Timer.start q.config.raise }))
            (s.sup.withMove q.config.group (.shutter n) .raise))) ∧
      (ofFloor ≠ [] →
        (∀ n ∈ ofFloor, ∀ q ∈ s.sht.get? n, (q.state = .closed ∨ q.state = .partOpen) ∧
          q.config.group < s.sup.groups.length ∧ ∀ g ∈ s.sup.groups[q.config.group]?,
          (s.sup.mode ≠ .steady ∨ g.config.capacity ≤ g.moves.length) ∧ g.queue.length + ofFloor.length ≤ 16 ∧
          ∀ x ∈ g.queue, x.owner ≠ .shutter n) →
        exec (.startOpening tag) s = .next
          (raised
            { table := s.sht.table.map fun o => o.map fun q => if q.config.floor = f then q.resting .waitSupply else q }
            { s.sup with groups := s.sup.groups.mapIdx fun g r => { r with
                queue := r.queue ++ (ofFloor.filter fun n => (s.sht.get? n).any fun q => q.config.group == g).map fun n =>
                  (⟨.shutter n, .raise⟩ : MoveRequest) } })))) ∧
  ((∀ (s : State) (tag k f : Nat), s.ready = true → s.prg.kind = .closing → s.prg.step = some .sweep →
    s.prg.cursor = some k → s.prg.floors[k]? = some f → s.cal.calls = [] → ∀ r ∈ s.flr.table[f]?, r.state = .closing →
    s.sht.allClosed f = false → s.sht.table.length = 48 →
    (∀ n < s.sht.table.length, ∀ q ∈ s.sht.get? n, q.config.floor = f →
      q.state ≠ .waitSupply ∧ q.state ≠ .raising ∧
      (q.state = .opened ∨ q.state = .partOpen →
        ∀ l ∈ q.landing?, s.chn.state = .parked ∧ ∃ p ∈ s.chn.park, l ∈ p.set)) →
    let dropped (q : Shutter) : Shutter :=
      if q.config.floor = f ∧ (q.state = .opened ∨ q.state = .partOpen) then
        if q.config.warning = 0 then
          { q.resting .descending with arrests := 0, descentTimer := Timer.start q.config.descent }
        else { q.resting .warning with warningTimer := Timer.start q.config.warning }
      else q
    let declined := (List.range s.sht.table.length).filter fun n =>
      (s.sht.get? n).any fun q => q.config.floor == f && (q.state == .unseen || q.state == .fault)
    exec (.skipFloor tag) s = .next
      (((((((s.onFlr fun t => { t with table := (t.table.set f
          { r with state := .securing, inStep := false, confirmation := some .order, faulted := 0 }) }).onPrg fun p =>
          { p with step := some .secure, deadline := .stopped, placingRetry := .stopped, sweepCall := none }).onSht
          fun t => { table := t.table.map fun o => o.map dropped }).noticed
        (.floorState f .closing .swept .sweepSkipped none none none)).noticed
        (.programmeStep .closing .secure (some f))).noticed
        (.floorState f .swept .securing .programme none (some declined) none)).answered tag .skipFloor
        (.done false (field 1 f)))) ∧
  (∀ (s : State) (tag : Nat) (st : ProgrammeStep), s.ready = true → s.prg.kind ≠ .none → s.prg.step = some st →
    s.prg.sounding = none →
    let floor := s.prg.cursor.bind fun k => s.prg.floors[k]?
    exec (.abortProgramme tag) s = .next
      (((s.onPrg fun p => { p with
          kind := .none, step := none, cursor := none, deadline := .stopped, sweepCall := none
          placingRetry := .stopped, last := some ⟨.aborted, st, floor⟩ }).noticed
        (.programmeEnded s.prg.kind .aborted (some st) floor s.prg.faulted s.prg.skipped
          (if s.prg.kind = .opening then some s.prg.opened else none))).answered tag .abortProgramme
        (.done false (field 1 s.prg.kind.code ++ field 1 st.code ++ field? 1 floor)))) ∧
  ∀ (s : State) (tag : Nat), s.ready = true → s.prg.kind = .none →
    exec (.skipFloor tag) s = .next (s.answered tag .skipFloor (.declined .wrongState [])) ∧
    exec (.abortProgramme tag) s = .next (s.answered tag .abortProgramme (.declined .wrongState [])))

/-- The programme's timers. The end of a gap begins the next warning with its sounding, on a silent line; the sweep
deadline marks the sweep overdue; the placing retry, and the dwell for the next floor, find the SWEEP call open and go
on with it. That SWEEP_OVERDUE gives the configured sweep timeout is the model's reading (log entry 35), and so is the
place of PROGRAMME_STEP (log entry 82). -/
def Obligations.ProgrammeTimers : Prop :=
  ∀ s : State, s.quiet = true → s.prg.kind = .closing →
    (∀ st ∈ s.prg.step, st = .gap1 ∨ st = .gap2 → s.prg.deadline.isRunning = true → s.snd.silent = true →
      let next : ProgrammeStep := if st = .gap1 then .secondWarning else .finalBells
      let pattern := if st = .gap1 then s.prg.settings.secondPattern else s.prg.settings.finalPattern
      exec .stepDeadlineExpiry s = .next
        (((s.onPrg fun p => { p with
            step := some next, deadline := .stopped, placingRetry := .stopped, sounding := some .started }).onSnd fun u =>
            u.arrived (u.cue pattern (s.flr.zoneUnion s.prg.floors) 1 (.programme next))).noticed
          (.programmeStep .closing next (s.prg.cursor.bind fun k => s.prg.floors[k]?)))) ∧
    (s.prg.step = some .sweep → ∀ k ∈ s.prg.cursor, ∀ f ∈ s.prg.floors[k]?,
      (s.prg.deadline.isRunning = true →
        exec .sweepTimeout s = .next
          ((s.onPrg fun p => { p with overdue := true, deadline := .stopped }).noticed
            (.sweepOverdue f s.prg.sweepCall s.prg.settings.sweepTimeout))) ∧
      (s.prg.placingRetry.isRunning = true → (∀ r ∈ s.flr.table[f]?, r.state = .closing) → s.flr.table[f]? ≠ none →
        ∀ r ∈ s.cal.calls.find? fun r => r.cls == .sweep && r.origin == .floor f,
        exec .placingRetryExpiry s = .next
          (s.onPrg fun p => { p with sweepCall := some r.number, placingRetry := .stopped }))) ∧
    (s.prg.step = some .dwell → s.prg.deadline.isRunning = true → ∀ k ∈ s.prg.cursor, ∀ f ∈ s.prg.floors[k + 1]?,
      (∀ r ∈ s.flr.table[f]?, r.state = .closing) → s.flr.table[f]? ≠ none →
      ∀ r ∈ s.cal.calls.find? fun r => r.cls == .sweep && r.origin == .floor f,
      exec .dwellExpiry s = .next
        ((s.onPrg fun p => { p with
            step := some .sweep, cursor := some (k + 1), overdue := false, placingRetry := .stopped
            sweepCall := some r.number, deadline := .running (20 * p.settings.sweepTimeout) }).noticed
          (.programmeStep .closing .sweep (some f))))

/-! ### Fire -/

/-- A zone's alarm confirmed in NORMAL with no delay, in a part with no shutter and no call, a silent sounder line, no
programme and a chain at rest without landings: the zone's floor is in FIRE, EVACUATE sounds in every zone, a WARDEN
call with its lamp only stands for the floor, and the watchdog runs. CALL_OPENED for a WARDEN call (log entry 32) and
the order of the notices (log entries 24 and 52) are the model's readings. -/
def Obligations.ConfirmedAlarmEvacuates : Prop :=
  ∀ (s : State) (z f : Nat), s.quiet = true → ∀ zone ∈ s.fir.zones[z]?, zone.state = .confirming →
    zone.confirmTimer.isRunning = true → zone.floors = [f] → s.fir.condition = .normal → s.fir.settings.delay = 0 →
    s.fir.ackTimer.isRunning = false → ∀ floor ∈ s.flr.table[f]?,
    (∀ r ∈ s.flr.table, r.state ≠ .fire) → (∀ o ∈ s.sht.table, o = none) → s.cal.calls = [] → s.snd.silent = true →
    s.prg.kind = .none → s.chn.state = .halted → s.chn.config.allLandings = [] → s.chn.clearance = [] →
    exec (.confirmTimerExpiry z) s = .next
      (((({ s with
          fir := { s.fir with
            condition := .evacuating, ackTimer := Timer.start s.fir.settings.acknowledge, pulses := 0, held := []
            heldWait := false
            zones := s.fir.zones.set z { zone with state := .alarm, confirmTimer := .stopped } }
          flr := { table := s.flr.table.set f { floor with state := .fire, inStep := false } }
          snd := s.snd.evacuated s.fir.settings.evacuate
          cal := { s.cal with
            nextNumber := if s.cal.nextNumber < 65535 then s.cal.nextNumber + 1 else 1
            calls := [
              { number := s.cal.nextNumber, cls := .warden, origin := .floor f, team := floor.config.wardenTeam
                member := none, phase := .awaitingAck, roundTimer := .stopped, rounds := 0, escalations := 0
                barred := false, lampOnly := true, age := 0 }] } }.noticed
        (.floorState f floor.state .fire .fire none none none)).noticed (.fireCondition .normal .evacuating)).noticed
        (.callOpened s.cal.nextNumber .warden (.floor f) floor.config.wardenTeam)).noticed
        (.fireZone z [f] .evacuating))

/-- The end of the delay of ALERTING raises the condition to EVACUATING on every zone. The acknowledgement timer calls
the brigade for 5 s, counts the pulse and starts again; the pulse ends. The order of what one event hands on is the
model's reading (log entry 24). -/
def Obligations.FireTimers : Prop :=
  (∀ s : State, s.quiet = true → s.fir.condition = .alerting → s.fir.delayTimer.isRunning = true → s.cal.calls = [] →
    s.snd.queue = [] → (∀ p ∈ s.snd.playing, p.sounding.cls = .alert ∧ ∃ z < 8, z ∈ p.sounding.zones) →
    s.fir.held = (if s.chn.cannotPark then s.chn.clearance else []) →
    exec .delayTimerExpiry s = .next
      (((s.onFir fun r => { r with condition := .evacuating, delayTimer := .stopped }).onSnd fun u =>
        u.evacuated s.fir.settings.evacuate).noticed (.fireCondition .alerting .evacuating))) ∧
  (∀ s : State, s.quiet = true →
    (s.fir.ackTimer.isRunning = true →
      exec .ackTimerExpiry s = .next
        ((s.onFir fun r => { r with
            brigade := true, pulses := r.pulses + 1, pulseTimer := .running 100
            ackTimer := Timer.start r.settings.acknowledge }).noticed (.brigadeCalled (s.fir.pulses + 1)))) ∧
    (s.fir.pulseTimer.isRunning = true →
      exec .pulseTimerExpiry s = .next (s.onFir fun r => { r with brigade := false, pulseTimer := .stopped })) ∧
    (s.fir.ackTimer.isRunning = false → exec .ackTimerExpiry s = .next s) ∧
    (s.fir.pulseTimer.isRunning = false → exec .pulseTimerExpiry s = .next s))

/-- ACKNOWLEDGE FIRE, SILENCE and RESET FIRE: in NORMAL they are declined; an acknowledgement stops the timer; SILENCE
ends the fire soundings; RESET FIRE, with no input in ALARM, returns the part to NORMAL with its FIRE floors SHUT. Eight
floors are part of a valid configuration (`ConfigurationStaysValid`). The order of the notices is the model's reading
(log entry 24), and that RESET FIRE takes the floors in rising number is its choice (log entry 66). -/
def Obligations.FireOrders : Prop :=
  ∀ (s : State) (tag : Nat), s.ready = true →
    (s.fir.condition = .normal →
      exec (.acknowledgeFire tag) s = .next (s.answered tag .acknowledgeFire (.declined .wrongState [])) ∧
      exec (.silence tag) s = .next (s.answered tag .silence (.declined .wrongState [])) ∧
      exec (.resetFire tag) s = .next (s.answered tag .resetFire (.declined .wrongState []))) ∧
    (s.fir.condition ≠ .normal →
      exec (.acknowledgeFire tag) s = .next
        (if s.fir.ackTimer.isRunning then
          ((s.onFir fun r => { r with ackTimer := .stopped }).noticed .fireAcknowledged).answered tag .acknowledgeFire
            (.done false [])
        else s.answered tag .acknowledgeFire (.done false []))) ∧
    (s.fir.condition = .silenced → exec (.silence tag) s = .next (s.answered tag .silence (.done false []))) ∧
    (s.fir.condition = .alerting ∨ s.fir.condition = .evacuating → s.cal.calls = [] → s.snd.queue = [] →
      s.fir.held = (if s.chn.cannotPark then s.chn.clearance else []) →
      exec (.silence tag) s = .next
        ((((s.onFir fun r => { r with condition := .silenced, delayTimer := .stopped }).onSnd fun u =>
          { u with playing := u.playing.filter fun p => p.sounding.cls ≠ .evacuate ∧ p.sounding.cls ≠ .alert }).noticed
          (.fireCondition s.fir.condition .silenced)).answered tag .silence (.done false []))) ∧
    (s.fir.condition ≠ .normal → ∀ n < s.fir.inputs.length, (∀ k < n, ∀ d ∈ s.fir.input? k, d.state ≠ .alarm) →
      (∀ d ∈ s.fir.input? n, d.state = .alarm) → s.fir.input? n ≠ none →
      exec (.resetFire tag) s = .next (s.answered tag .resetFire (.declined .wrongState (field 1 n)))) ∧
    (s.fir.condition ≠ .normal → (∀ n < s.fir.inputs.length, ∀ d ∈ s.fir.input? n, d.state ≠ .alarm) →
      s.flr.table.length = 8 → s.cal.calls = [] → s.snd.queue = [] → s.fir.heldWait = false → s.prg.kind = .none →
      let faulty (z : Nat) : Bool := s.fir.inputs.any fun o => o.any fun d => d.config.zone == z && d.state == .fault
      let inFire := (List.range s.flr.table.length).filter fun f => (s.flr.table[f]?).any fun r => r.state == .fire
      let entering := (List.range s.fir.zones.length).filter fun z =>
        (s.fir.zones[z]?).any fun r => (r.state == .alarm || r.state == .confirming) && faulty z
      exec (.resetFire tag) s = .next
        ((((inFire.foldl (fun (u : State) f => u.noticed (.floorState f .fire .shut .fireReset none none none))
          (((s.onSnd fun u => { u with
              playing := u.playing.filter fun p => p.sounding.cls ≠ .evacuate ∧ p.sounding.cls ≠ .alert }).onFlr fun u =>
            { table := u.table.map fun r =>
                if r.state = .fire then { r with state := .shut, inStep := false } else r }).onFir fun u =>
            { u with
              condition := .normal, delayTimer := .stopped, ackTimer := .stopped, held := []
              zones := u.zones.mapIdx fun z r =>
                if r.state = .alarm ∨ r.state = .confirming then
                  { r with state := if faulty z then .fault else .normal, confirmTimer := .stopped }
                else r })).noticed (.fireCondition s.fir.condition .normal)).noticed (.fireReset entering)).answered
          tag .resetFire (.done false [])))

/-! ### The field loop -/

/-- POLL_SLOT: the motion cursor takes every third slot while its set is not empty, the ordinary cursor every other;
each goes to the lowest address of its set above the one it holds, or to the lowest of all, and the poll frame carries
the node's output image under its CRC-8. That a slot which comes while a poll is outstanding counts no miss for it, the
miss being the command POLL_MISSED, is the model's reading (log entry 34). -/
def Obligations.PollSlot : Prop :=
  ∀ s : State, s.quiet = true →
    let turn : Bool := s.flp.phase == 3 && !s.motionSet.isEmpty
    let set := if turn then s.motionSet else s.flp.configuredSet
    let held := (if turn then s.flp.motion else s.flp.ordinary).getD 0
    (set = [] → exec .pollSlot s = .next (s.onFlp fun u => { u with polled := none, phase := u.phase % 3 + 1 })) ∧
    ∀ a ∈ set,
      ((held < a ∧ ∀ b ∈ set, held < b → a ≤ b) ∨ ((∀ b ∈ set, b ≤ held) ∧ ∀ b ∈ set, a ≤ b)) →
      let body := [BitVec.ofNat 8 a, (s.outputImage a).byte0, (s.outputImage a).byte1]
      exec .pollSlot s = .next (s.onFlp fun u => { u with
        motion := if turn then some a else u.motion, ordinary := if turn then u.ordinary else some a
        polled := some a, phase := u.phase % 3 + 1, frame := body ++ [crc8 body] })

/-- A reply after its slot is not taken for the slot that runs. One within its slot that is for another address or has a
bad CRC-8 counts as a missed poll; a good one ends the slot and the misses, and its image is kept. A missed poll is
counted to 3, and the third in a row declares the node LOST. That POLL_REPLY says whether the reply came within its
slot, and that the miss of a bad reply is counted at the reply and not at the end of the slot, are the model's readings
(log entry 34). -/
def Obligations.PollOutcomes : Prop :=
  (∀ (s : State) (address in0 in1 crc : Byte), s.quiet = true →
    exec (.pollReply address in0 in1 ⟨crc, false⟩) s = .next s ∧
    (s.flp.polled = none → exec (.pollReply address in0 in1 ⟨crc, true⟩) s = .next s) ∧
    (s.flp.polled ≠ some address.toNat ∨ crc ≠ crc8 [address, in0, in1] →
      exec (.pollReply address in0 in1 ⟨crc, true⟩) s = exec .pollMissed s) ∧
    (s.flp.polled = some address.toNat → crc = crc8 [address, in0, in1] → ∀ n ∈ s.flp.node? address.toNat,
      let seen : State := s.onFlp fun f => { f with
        nodes := f.nodes.set (address.toNat - 1) (some { n with state := .present, misses := 0, image := some ⟨in0, in1⟩ })
        polled := none }
      (n.state = .present → n.image = some ⟨in0, in1⟩ →
        (∀ k < s.sht.table.length, ∀ r ∈ s.sht.get? k, r.config.node = address.toNat → r.state ≠ .unseen) →
        exec (.pollReply address in0 in1 ⟨crc, true⟩) s = .next seen) ∧
      (n.state = .present → n.kind = .station →
        (∀ k < 5, in0.getLsbD k = true → ∃ i ∈ n.image, i.byte0.getLsbD k = true) →
        exec (.pollReply address in0 in1 ⟨crc, true⟩) s = .next seen) ∧
      (n.state ≠ .present → n.kind = .station →
        exec (.pollReply address in0 in1 ⟨crc, true⟩) s = .next (seen.noticed (.nodeFound address.toNat .station n.state))))) ∧
  ((∀ s : State, s.quiet = true → s.flp.polled = none → exec .pollMissed s = .next s) ∧
  ∀ (s : State) (a : Nat), s.quiet = true → s.flp.polled = some a → ∀ n ∈ s.flp.node? a,
    (n.state = .lost ∨ n.misses < 2 →
      exec .pollMissed s = .next (s.onFlp fun f => { f with
        nodes := f.nodes.set (a - 1) (some { n with misses := min 3 (n.misses + 1) }), polled := none })) ∧
    (n.state ≠ .lost → 2 ≤ n.misses → nodeNamed s a = false →
      exec .pollMissed s = .next ((s.onFlp fun f => { f with
        nodes := f.nodes.set (a - 1) (some { n with misses := 3, state := .lost }), polled := none }).noticed
          (.nodeLost a n.kind))))

/-- A good reply hands a PRESENT node's changed inputs to a hall shutter, whose floor does not wait for it, in one
event. A curtain that leaves the top unordered, or a link that melts while it is held, is a fault; a descent ends at the
bottom, whatever the edge, and is arrested by the edge; the clear timer runs once the edge is clear; a raise ends at the
top, and its move with it; a fault's observed position follows. An UNSEEN shutter is placed by the image, changed or
not. The order of what one event hands on is the model's reading (log entry 24). -/
def Obligations.ShutterInputs : Prop :=
  ∀ (s : State) (address in0 in1 : Byte) (k : Nat), s.quiet = true →
    let a := address.toNat
    s.flp.polled = some a → ∀ node ∈ s.flp.node? a, node.state = .present → node.kind = .shutter →
    s.sht.at? a 0 = some k → s.sht.at? a 1 = none → ∀ old ∈ node.image, ∀ r ∈ s.sht.get? k,
    r.isLanding = false → s.flr.waitsFor r.config.floor = false →
    let o := inputsOf old.byte0
    let i := inputsOf in0
    let r' : Shutter := { r with inputs := some i }
    let seen (q : Shutter) : State :=
      { s with
        flp := { s.flp with
          nodes := s.flp.nodes.set (a - 1) (some { node with misses := 0, image := some ⟨in0, in1⟩ }), polled := none }
        sht := s.sht.set k (some q) }
    let reply := exec (.pollReply address in0 in1 ⟨crc8 [address, in0, in1], true⟩) s
    (r.inputs = some o →
      (r.state = .opened → o.position = .top → i.position = .between ∨ i.position = .bottom → i.link = o.link →
        reply = .next ((seen { r'.resting .fault with
            cause := some .uncommandedDrop, observed := some i.position, faultCoil := false }).noticed
          (.shutterFault k .uncommandedDrop i.position .opened))) ∧
      (r.state = .descending → o.position ≠ .bottom → i.position = .bottom → i.link = o.link →
        reply = .next ((seen (r'.resting .closed)).noticed (.shutterClosed k r.arrests r.forced))) ∧
      (r.state = .descending → i.position = o.position → i.link = o.link → o.edge = false → i.edge = true →
        r.edgeIgnored = false → r.arrests < 3 →
        reply = .next ((seen { r' with
            state := .arrested, arrests := r.arrests + 1, descentTimer := r.descentTimer.freeze
            holdTimer := .running 1200, clearTimer := .stopped }).noticed (.shutterArrested k (r.arrests + 1)))) ∧
      (r.state = .arrested → i.position = o.position → i.link = o.link → o.edge = true → i.edge = false →
        reply = .next (seen { r' with clearTimer := .running 40 })) ∧
      (r.state = .raising → o.position = .bottom ∨ o.position = .between → i.position = .top → i.link = o.link →
        s.sup.settles = true →
        reply = .next ({ seen { r'.resting .opened with forced := false } with
          sup := (supplyEnded (.shutter k) s).sup }.noticed (.shutterOpen k))) ∧
      (i.position = o.position → i.edge = o.edge → o.link = true → i.link = false →
        (r.state = .closed ∨ r.state = .descending ∨ r.state = .arrested ∨ r.state = .fault →
          reply = .next ((seen r').noticed (.linkMelted k r.state))) ∧
        (r.state = .opened ∨ r.state = .partOpen →
          reply = .next ((seen { r'.resting .fault with
              cause := some .linkMelted, observed := some i.position, faultCoil := false }).noticed
            (.shutterFault k .linkMelted i.position r.state)))) ∧
      (r.state = .fault → i.position ≠ o.position → i.link = o.link →
        reply = .next (seen { r' with observed := some i.position }))) ∧
    (r.state = .unseen → r.edge = i.edge ∨ r.inputs = none → i.position ≠ .both → i.link = true →
      s.flr.isIn r.config.floor .fire = false →
      let st : ShutterState :=
        if i.position = .top then .opened else if i.position = .bottom then .closed else .partOpen
      reply = .next ((seen { r'.resting st with arrests := 0, forced := false }).noticed (.shutterSeen k st)))

/-- A good reply hands a station's presses to the call dispatcher: an unused button's call is refused, the call of a
team with no member free opens UNASSIGNED, and an acknowledgement with no call for the station's floor answers the
station's oldest own call. A good reply hands a changed detector slot to the fire response unit: a heat alarm in a
NORMAL zone is confirmed first, and a fault puts the zone in FAULT. The third miss declares a station LOST, its own
calls closed and its windows stopped, a detector LOST, its input in FAULT, and a shutter node LOST, its hall shutter in
FAULT. That CALL_CLOSED comes before CALL_ANSWERED and that the consequences come before NODE_LOST (log entry 24), and
the rounding of the call's seconds (log entry 8), are the model's. -/
def Obligations.StationAndDetectorInputs : Prop :=
  (∀ (s : State) (address in0 in1 : Byte), s.quiet = true →
    let a := address.toNat
    s.flp.polled = some a → ∀ node ∈ s.flp.node? a, node.state = .present → ∀ old ∈ node.image,
    let seen : State := s.onFlp fun f => { f with
      nodes := f.nodes.set (a - 1) (some { node with misses := 0, image := some ⟨in0, in1⟩ }), polled := none }
    let reply := exec (.pollReply address in0 in1 ⟨crc8 [address, in0, in1], true⟩) s
    (∀ n, ∀ st ∈ s.cal.station? n, node.kind = .station → s.cal.atNode? a = some n → st.config.node = a →
      (∀ k < 4, (∀ j < 5, (in0.getLsbD j = true ∧ old.byte0.getLsbD j = false) ↔ j = k) →
        (st.openCall[k]?).join = none → (st.config.buttons[k]?).join = none →
        reply = .next (seen.noticed (.callRefused (.button n k) .unused))) ∧
      (∀ k < 4, (∀ j < 5, (in0.getLsbD j = true ∧ old.byte0.getLsbD j = false) ↔ j = k) →
        (st.openCall[k]?).join = none → ∀ team number, (st.config.buttons[k]?).join = some team →
        (∀ f ∈ s.flr.table[st.config.floor]?, f.state ≠ .securing ∧ f.state ≠ .shut ∧ f.state ≠ .fire) →
        (∀ t ∈ s.cal.teams[team]?, t.ring ≠ [] ∧
          ∀ m ∈ t.ring, ∀ r ∈ s.cal.staff[m]?, r.onDuty = false ∨ r.assigned ≠ none) →
        s.cal.teams[team]? ≠ none → s.cal.calls.length < 32 → number = s.cal.number →
        (∀ r ∈ s.cal.calls, r.number ≠ number) →
        reply = .next
          (((seen.onCal fun c => { c with
              calls := c.calls ++ [
                { number := number, cls := .normal, origin := .button n k, team := team, member := none
                  phase := .unassigned, roundTimer := .stopped, rounds := 0, escalations := 0
                  barred := (st.spent[k]?).getD false, lampOnly := false, age := 0 }]
              nextNumber := if number < 65535 then number + 1 else 1
              stations := c.stations.set n (some { st with
                spent := st.spent.set k false, openCall := st.openCall.set k (some number)
                window := st.window.set k (.running 20) }) }).noticed (.callUnassigned number team)).noticed
            (.callOpened number .normal (.button n k) team))) ∧
      ((∀ j < 5, (in0.getLsbD j = true ∧ old.byte0.getLsbD j = false) ↔ j = 4) →
        (∀ r ∈ s.cal.calls, r.origin ≠ .floor st.config.floor ∧ r.phase ≠ .unassigned) → ∀ before r after b,
        s.cal.calls = before ++ r :: after → r.origin = .button n b → (∀ x ∈ before, x.ofStation n = false) →
        (∀ x ∈ before ++ after, x.number ≠ r.number) → r.cls = .normal ∨ r.cls = .urgent →
        (∀ x ∈ s.snd.queue, x.origin ≠ .call r.number r.team) →
        (∀ p ∈ s.snd.playing, p.sounding.origin ≠ .call r.number r.team) →
        reply = .next
          (((seen.onCal fun c => { c with
              calls := before ++ after
              staff := match r.member with
                | some m => c.staff.modify m fun x => { x with assigned := none }
                | none => c.staff
              stations := c.stations.set n (some { st with
                openCall := st.openCall.set b none, window := st.window.set b .stopped }) }).noticed
            (.callClosed r.number .answered)).noticed
            (.callAnswered r.number r.member r.rounds r.escalations (Config.toSeconds r.age))))) ∧
    (∀ n slot, ∀ d ∈ s.fir.input? n, node.kind = .detector → slot < 4 →
      (∀ j < 4, detectorOf in0 j ≠ detectorOf old.byte0 j ↔ j = slot) → d.config.node = a → d.config.slot = slot →
      (∀ k < s.fir.inputs.length, ∀ e ∈ s.fir.input? k, e.config.node = a → e.config.slot = slot → k = n) →
      d.state = .normal → ∀ zone ∈ s.fir.zones[d.config.zone]?, zone.state = .normal →
      (detectorOf in0 slot = .alarm → d.config.manual = false → s.fir.settings.confirm ≠ 0 →
        reply = .next ((seen.onFir fun f => { f with
            inputs := f.inputs.set n (some { d with state := .alarm })
            zones := f.zones.set d.config.zone
              { zone with state := .confirming, confirmTimer := .running (20 * f.settings.confirm) } }).noticed
          (.zoneConfirming d.config.zone n))) ∧
      (detectorOf in0 slot = .fault →
        reply = .next ((seen.onFir fun f => { f with
            inputs := f.inputs.set n (some { d with state := .fault })
            zones := f.zones.set d.config.zone { zone with state := .fault } }).noticed
          (.zoneFault d.config.zone n))))) ∧
  ∀ (s : State) (a n : Nat), s.quiet = true → s.flp.polled = some a → ∀ node ∈ s.flp.node? a, node.state ≠ .lost →
    2 ≤ node.misses →
    let missed : State := s.onFlp fun f => { f with
      nodes := f.nodes.set (a - 1) (some { node with misses := 3, state := .lost }), polled := none }
    (∀ st ∈ s.cal.station? n, node.kind = .station → st.config.node = a →
      (∀ k < s.cal.stations.length, ∀ x ∈ s.cal.station? k, x.config.node = a → k = n) → ∀ before r after b,
      s.cal.calls = before ++ r :: after → r.origin = .button n b →
      (∀ x ∈ before ++ after, x.ofStation n = false ∧ x.number ≠ r.number ∧ x.phase ≠ .unassigned) →
      (∀ x ∈ s.snd.queue, x.origin ≠ .call r.number r.team) →
      (∀ p ∈ s.snd.playing, p.sounding.origin ≠ .call r.number r.team) →
      exec .pollMissed s = .next
        (((missed.onCal fun c => { c with
            calls := before ++ after
            staff := match r.member with
              | some m => c.staff.modify m fun x => { x with assigned := none }
              | none => c.staff
            stations := c.stations.set n (some { st with
              openCall := st.openCall.set b none, window := st.window.map fun _ => .stopped }) }).noticed
          (.callClosed r.number .stationLost)).noticed (.nodeLost a .station))) ∧
    (∀ d ∈ s.fir.input? n, node.kind = .detector → d.config.node = a → d.state = .normal →
      (∀ k < s.fir.inputs.length, ∀ e ∈ s.fir.input? k, e.config.node = a → k = n) →
      ∀ zone ∈ s.fir.zones[d.config.zone]?, zone.state = .normal →
      exec .pollMissed s = .next
        (((missed.onFir fun f => { f with
            inputs := f.inputs.set n (some { d with state := .fault })
            zones := f.zones.set d.config.zone { zone with state := .fault } }).noticed
          (.zoneFault d.config.zone n)).noticed (.nodeLost a .detector))) ∧
    (∀ r ∈ s.sht.get? n, node.kind = .shutter → r.config.node = a → r.isLanding = false →
      (∀ k < s.sht.table.length, ∀ q ∈ s.sht.get? k, q.config.node = a → k = n) →
      s.flr.waitsFor r.config.floor = false →
      (r.state = .opened ∨ r.state = .closed ∨ r.state = .descending ∨ r.state = .arrested →
        exec .pollMissed s = .next
          (((missed.onSht fun t => t.set n (some { r.resting .fault with
              cause := some .nodeLost, observed := some r.position, faultCoil := r.state == .opened })).noticed
            (.shutterFault n .nodeLost r.position r.state)).noticed (.nodeLost a .shutter))) ∧
      (r.state = .unseen ∨ r.state = .fault →
        exec .pollMissed s = .next (missed.noticed (.nodeLost a .shutter))))

/-! ### Outputs -/

/-- What the outputs are in each state. The chain's brake and contactors follow its state, in STOPPING and CREEPING up to the
brake point of the plan, and the reverse contactor is on only in an INSPECTION_RUN entered by the down button. A shutter's
coil, brake, motor and bell follow its state and its paused mark; on entering FAULT the coil is released, held or left as it
stood, by the cause. A zone that no sounding holds is off, and one that a sounding holds follows the element being played,
the same on all its zones. A station's lamp flashes for a SWEEP, a WARDEN or an UNASSIGNED call that concerns it, is steady
for any other, and is off for none. -/
def Obligations.Outputs : Prop :=
  (∀ c : Chain,
    let applied : Drive := { released := false, run := false, slow := false, reverse := false }
    let reached : Prop := ∃ p ∈ c.plan, p.braked = true
    (c.state = .halted ∨ c.state = .braking ∨ c.state = .parked ∨ c.state = .inspectionIdle ∨ c.state = .tripped →
      c.drive = applied) ∧
    (c.state = .starting ∨ c.state = .running → c.drive = { applied with released := true, run := true }) ∧
    (c.state = .stopping → (reached → c.drive = applied) ∧
      (¬reached → c.drive = { applied with released := true, run := true })) ∧
    (c.state = .creeping → (reached → c.drive = applied) ∧
      (¬reached → c.drive = { applied with released := true, slow := true })) ∧
    (c.state = .homing → c.drive = { applied with released := true, slow := true }) ∧
    (c.state = .inspectionRun → c.drive = { applied with released := true, slow := true, reverse := c.reverse })) ∧
  (∀ r : Shutter,
    let off : ShutterOutputs := { coil := false, brake := false, motor := false, bell := false }
    (r.state = .unseen ∨ r.state = .opened ∨ r.state = .awaitClear → r.outputs = { off with coil := true }) ∧
    (r.state = .warning → r.outputs = { off with coil := true, bell := true }) ∧
    (r.state = .descending → r.outputs = { off with bell := true }) ∧
    (r.state = .arrested → r.outputs = { off with brake := true, bell := true }) ∧
    (r.state = .closed → r.outputs = off) ∧
    (r.state = .partOpen ∨ r.state = .waitSupply → r.outputs = { off with coil := true, brake := true }) ∧
    (r.state = .raising → r.outputs =
      { off with coil := true, motor := !r.paused, brake := r.paused }) ∧
    (r.state = .fault → r.outputs = { off with coil := r.faultCoil }) ∧
    ∀ cause, (r.faulted cause).outputs = { off with
      coil := match cause with
        | .descentTimeout | .uncommandedDrop | .linkMelted => false
        | .raiseTimeout | .uncommandedRise => true
        | .limitsBoth | .nodeLost => r.outputs.coil }) ∧
  (∀ (u : Sounder) (z : Nat),
    ((∀ p ∈ u.playing, z ∉ p.sounding.zones) → u.output z = none) ∧
    (u.zonesApart → ∀ p ∈ u.playing, z ∈ p.sounding.zones → ∀ elements ∈ u.patterns[p.sounding.pattern]?,
      ∀ e ∈ elements[p.element]?, u.output z = e.tone)) ∧
  ∀ (c : Calls) (station : Nat), ∀ st ∈ c.station? station,
    let concerns (r : Call) : Prop :=
      match r.origin with
      | .button n _ => n = station
      | .floor f => f = st.config.floor
    let flashes (r : Call) : Prop := r.cls = .sweep ∨ r.cls = .warden ∨ r.phase = .unassigned
    ((∃ r ∈ c.calls, concerns r ∧ flashes r) → c.lamp station = .flash) ∧
    ((∃ r ∈ c.calls, concerns r) → (∀ r ∈ c.calls, concerns r → ¬flashes r) → c.lamp station = .steady) ∧
    ((∀ r ∈ c.calls, ¬concerns r) → c.lamp station = .off)

/-! ### The service link and the store -/

/-- Every enquiry is answered DONE and changes nothing but the answer list; a report that may exceed one answer comes in
parts, and a part beyond the last is declined OUT_OF_RANGE. The layouts of the reports, the coding of flags and the
parts of 116 bytes are the model's where the spec leaves them open (log entries 15 to 20, 49, 56, 57, 60, 63, 72, 74, 75
and 78). -/
def Obligations.Enquiries : Prop :=
  ∀ (s : State) (tag part : Nat), s.ready = true →
    let parted (report : List Byte) : Result :=
      let count := max 1 ((report.length + 115) / 116)
      if part < count then .done false (field 1 part ++ field 1 count ++ (report.drop (116 * part)).take 116)
      else .declined .outOfRange []
    exec (.readClearance tag part) s = .next (s.answered tag (.readClearance part) (parted (clearanceReport s))) ∧
    exec (.readSupply tag part) s = .next (s.answered tag (.readSupply part) (parted (supplyReport s.sup))) ∧
    exec (.readSounder tag part) s = .next (s.answered tag (.readSounder part) (parted (sounderReport s.snd))) ∧
    exec (.readCalls tag part) s = .next (s.answered tag (.readCalls part) (parted (callsReport s.cal))) ∧
    exec (.readClock tag part) s = .next (s.answered tag (.readClock part) (parted (clockReport s.clk))) ∧
    exec (.readFire tag part) s = .next (s.answered tag (.readFire part) (parted (fireReportBytes s.fir))) ∧
    (∀ f, ∀ r ∈ s.flr.table[f]?,
      exec (.readFloor tag f part) s = .next (s.answered tag (.readFloor f part) (parted (floorReport f r s)))) ∧
    exec (.readProgramme tag) s = .next (s.answered tag .readProgramme (.done false (programmeReportBytes s.prg))) ∧
    (∀ n, n ≤ 47 → exec (.readShutter tag n) s = .next (s.answered tag (.readShutter n)
      (.done false ((s.sht.get? n).elim [0#8] fun r => [1#8] ++ shutterReport r)))) ∧
    (∀ a, 1 ≤ a → a ≤ 64 → s.flp.node? a = none →
      exec (.readNode tag a) s = .next (s.answered tag (.readNode a) (.done false [255#8]))) ∧
    (∀ a, 1 ≤ a → a ≤ 64 → ∀ n ∈ s.flp.node? a, exec (.readNode tag a) s = .next (s.answered tag (.readNode a)
      (.done false (field 1 n.kind.code ++ field 1 n.state.code ++ field 1 n.misses ++
        (n.image.elim [255#8, 255#8] fun i => [i.byte0, i.byte1]) ++
        [(s.outputImage a).byte0, (s.outputImage a).byte1] ++ field 1 (if a ∈ s.motionSet then 1 else 0))))) ∧
    exec (.readStatus tag) s = .next (s.answered tag .readStatus (.done false
      (field 1 (if s.lnk.storeValid then 1 else 0) ++ field 1 (if s.lnk.writing = none then 0 else 1) ++
        field 1 (if s.clk.isSet then 1 else 0) ++
        field 1 (if s.chn.config.configured then s.chn.state.code else 11) ++ field 1 s.fir.condition.code ++
        field 1 s.prg.kind.code ++ field? 1 (s.prg.step.map ProgrammeStep.code) ++ field 1 s.flp.lostCount ++
        field 1 s.lnk.notices.length)))

/-- COMMIT CONFIGURATION takes the configuration as it stands and is BUSY while one is being written; the end of the
write leaves it in the store. A configuration committed and written good is the one a full reset loads, where every
value of it lies in its range. That the image must leave a clear gap to be loaded is the model's reading (log entry 76).
-/
def Obligations.Commit : Prop :=
  ((∀ (s : State) (tag : Nat), s.ready = true →
    exec (.commitConfiguration tag) s = .next
      (if s.lnk.writing = none then
        (s.onLnk fun k => { k with writing := some s.image }).answered tag .commitConfiguration (.taken false)
      else s.answered tag .commitConfiguration (.declined .busy []))) ∧
  ∀ (s : State) (good : Bool), s.quiet = true →
    (∀ i ∈ s.lnk.writing, exec (.commitWriteEnd good) s = .next
      ((s.onLnk fun k => { k with writing := none, store := some (i, good), storeValid := good }).noticed
        (.commitEnded good))) ∧
    (s.lnk.writing = none → exec (.commitWriteEnd good) s = .next s)) ∧
  (∀ (s : State) (tag : Nat), s.ready = true → s.lnk.writing = none → s.image.valid = true → s.chn.safetyClosed = true →
    s.chn.keyOn = false → s.sup.dip = false →
    ∃ t u v, exec (.commitConfiguration tag) s = .next t ∧ exec (.commitWriteEnd true) t = .next u ∧
      exec .fullReset u = .next v ∧ v.image = s.image ∧ v.lnk.storeValid = true)

/-- SERVICE RESET: declined FIRE_LOCK outside NORMAL. In NORMAL a running programme is aborted; the soundings, the
reservations, the calls and the supply queues are emptied; a moving chain brakes and a resting one keeps its state, its
request, plan and clearance set gone; each floor and each shutter is taken by its state; and every cue is rebuilt, the
occurrences of a set clock lying more than 300 s ahead. The configuration, the position, the urgent-spent marks and the
duty pointers are kept. The lengths of the tables are part of a valid configuration (`ConfigurationStaysValid`). The
order of the blocks (log entry 38) and of the records within one (log entry 66), which the notices show, is the model's
choice, and that a shutter is returned by its position (log entry 48) its reading. -/
def Obligations.ServiceReset : Prop :=
  ∀ (s : State) (tag : Nat), s.ready = true →
    (s.fir.condition ≠ .normal →
      exec (.serviceReset tag) s = .next (s.answered tag .serviceReset (.declined .fireLock []))) ∧
    (s.fir.condition = .normal → s.fir.heldWait = false → s.clk.cues.length = 24 → s.flr.table.length = 8 →
      s.sht.table.length = 48 →
      let occurrence (q : Cue) : Option (Occurrence × Nat) :=
        if s.clk.isSet ∧ q.config.enabled then nextOccurrence q.config ⟨s.clk.day, s.clk.time⟩ else none
      (∀ q ∈ s.clk.cues, ∀ o ∈ occurrence q, 300 < o.2) →
      let rebuilt (q : Cue) : Cue :=
        match occurrence q with
        | some (o, lead) => { q with phase := .waiting, occurrence := some o, lead := lead, retries := 0 }
        | none => { q with phase := .idle, occurrence := none, lead := 0, retries := 0 }
      let brakes : Bool := s.chn.state.moving && s.chn.state != .braking
      let chain : Chain := if brakes then s.chn.into .braking else s.chn
      let freed : Supply := { s.sup with groups := s.sup.groups.map fun r => { r with queue := [] } }
      let ended (o : MoveOwner) (u : Supply) : Supply := (supplyEnded o { s with sup := u }).sup
      let raising := (List.range s.sht.table.length).filter fun n => (s.sht.get? n).any fun r => r.state == .raising
      let standing (f : Nat) : FloorState → FloorState
        | .closing | .swept => .trading
        | .securing => if s.sht.allClosed f then .shut else .trading
        | .opening => if s.sht.allOpen f then .trading else .shut
        | st => st
      let aborted : State :=
        if s.prg.kind = .none then s
        else
          let floor := s.prg.cursor.bind fun k => s.prg.floors[k]?
          (s.onPrg fun p => { p with
              kind := .none, step := none, cursor := none, sounding := none, deadline := .stopped, sweepCall := none
              placingRetry := .stopped, last := some ⟨.abortedByReset, p.step.getD .finish, floor⟩ }).noticed
            (.programmeEnded s.prg.kind .abortedByReset s.prg.step floor s.prg.faulted s.prg.skipped
              (if s.prg.kind = .opening then some s.prg.opened else none))
      let told : State := (List.range s.flr.table.length).foldl (fun (u : State) f =>
        match s.flr.table[f]? with
        | some r =>
          if standing f r.state = r.state then u
          else u.noticed (.floorState f r.state (standing f r.state) .serviceReset none none none)
        | none => u) aborted
      exec (.serviceReset tag) s = .next
        (({ told with
            chn := { chain with
              clearance := [], creepRefused := false, plan := none, creepCount := 0, request := none
              creepSet := if s.chn.request = none then s.chn.creepSet else [] }
            sht := { table := s.sht.table.map fun o => o.map fun r =>
              if r.state = .awaitClear ∨ r.state = .warning ∨ r.state = .waitSupply then r.held
              else if r.state = .raising then { r.resting .partOpen with forced := false }
              else r }
            sup := raising.foldl (fun u n => ended (.shutter n) u) (if brakes then ended .chain freed else freed)
            flr := { table := s.flr.table.mapIdx fun f r =>
              if standing f r.state = r.state then r
              else { r with
                state := standing f r.state, inStep := false
                confirmation := if standing f r.state = .trading then none else r.confirmation } }
            snd := { s.snd with playing := [], queue := [], reservations := [] }
            cal := { s.cal with
              calls := [], staff := s.cal.staff.map fun m => { m with assigned := none }
              stations := s.cal.stations.map fun o => o.map fun st =>
                { st with openCall := st.openCall.map fun _ => none, window := st.window.map fun _ => .stopped } }
            clk := { s.clk with cues := s.clk.cues.map rebuilt }
            fir := { s.fir with held := [] } } : State).answered tag .serviceReset (.done false [])))

/-- The receive line of a quiet part, byte by byte, its gap and its break; and the transmitter: the oldest answer is
sent next, else the oldest notice under the notice count and the lost mark, else it is idle; and an idle transmitter
begins a notice as it is handed over. That an idle transmitter takes up a frame within the step that gives it one is the
model's reading (log entry 36). -/
def Obligations.LinkLine : Prop :=
  (∀ s : State, s.quiet = true →
    let phase (a : Assembler) : State := s.onLnk fun k => { k with assembler := a }
    let hunt (b : Byte) : Assembler := if b = 0xA5#8 then .length else .hunt
    (∀ b, exec (.receiveByte b true) s = .next (phase .hunt)) ∧
    exec .receiveGap s = .next (phase .hunt) ∧
    exec .lineBreak s = .next (s.onLnk fun k => { k with
      assembler := .hunt, requests := [], answers := [], notices := [], lost := true, count := 0 }) ∧
    (s.lnk.assembler = .hunt → ∀ b, exec (.receiveByte b false) s = .next (phase (hunt b))) ∧
    (s.lnk.assembler = .length → ∀ b, exec (.receiveByte b false) s = .next
      (phase (if 2 ≤ b.toNat ∧ b.toNat ≤ 122 then .collect b.toNat [] else hunt b))) ∧
    (∀ (n : Nat) (bytes : List Byte) (b : Byte), s.lnk.assembler = .collect n bytes → bytes.length + 1 < n + 2 →
      exec (.receiveByte b false) s = .next (phase (.collect n (bytes ++ [b])))) ∧
    ∀ (kind tag b : Byte) (body rest : List Byte),
      s.lnk.assembler = .collect (body.length + 2) (kind :: tag :: body ++ rest) → rest.length = 1 →
      let good : Bool := decide (rest ++ [b] = crcBytes (BitVec.ofNat 8 (body.length + 2) :: kind :: tag :: body))
      (good = false → exec (.receiveByte b false) s = .next (phase .hunt)) ∧
      (good = true → requestKind kind.toNat = false →
        exec (.receiveByte b false) s = .next ((phase .hunt).onLnk fun k => Link.start { k with
          answers := if k.answers.length < 4 then
              k.answers ++ [⟨kind.toNat, tag.toNat, .declined .unknownKind []⟩]
            else k.answers }))) ∧
  ((∀ s : State, s.quiet = true → s.lnk.requests = [] →
    (∀ a rest, s.lnk.answers = a :: rest →
      exec .frameSent s = .next (s.onLnk fun k => { k with sending := some a.frame, answers := rest })) ∧
    (∀ n rest, s.lnk.answers = [] → s.lnk.notices = n :: rest →
      exec .frameSent s = .next (s.onLnk fun k => { k with
        sending := some (n.frame k.lost k.count), notices := rest, lost := false, count := (k.count + 1) % 256 })) ∧
    (s.lnk.answers = [] → s.lnk.notices = [] →
      exec .frameSent s = .next (s.onLnk fun k => { k with sending := none }))) ∧
  ∀ (s : State) (good : Bool), s.quiet = true → s.lnk.sending = none → s.lnk.answers = [] → s.lnk.notices = [] →
    ∀ i ∈ s.lnk.writing,
    exec (.commitWriteEnd good) s = .next (s.onLnk fun k => { k with
      writing := none, store := some (i, good), storeValid := good
      sending := some (Notice.frame ⟨.commitEnded good, if s.clk.isSet then some s.clk.time else none⟩ k.lost k.count)
      lost := false, count := (k.count + 1) % 256 }))

/-! ### Bodies and frames -/

/-- The body of every well-formed order reads back as that order. The frame of a command's order, received byte by byte
by a ready part whose assembler is in HUNT, is that command. Layouts the spec leaves open are the model's (log entries
15 to 20 and 81). -/
def Obligations.BodiesAndFrames : Prop :=
  (∀ o : Order, o.wellFormed = true → parseOrder o.kind o.body = some o) ∧
  (∀ (s : State) (c : Instr) (tag : Nat) (o : Order), s.ready = true → s.lnk.assembler = .hunt → c.wellFormed = true →
    c.order? = some (tag, o) → feed (linkFrame o.kind tag o.body) s = exec c s)
end

