-- ==== Sys2Proof/Laws/State.lean ====
section
/-! SUPPORT. One lemma for each field of the state under each update: a block's own record (`onChn` and the others), an
event kept to its block (`ownChn` and the others), and handing on (`post`, `notify`). -/

namespace Sys2Proof.Machine

/-! ### Handing on -/

@[simp] theorem State.post_chn (s : State) (ms : List Msg) : (s.post ms).chn = s.chn := rfl
@[simp] theorem State.notify_chn (s : State) (b : NoticeBody) : (s.notify b).chn = s.chn := rfl
@[simp] theorem State.post_clr (s : State) (ms : List Msg) : (s.post ms).clr = s.clr := rfl
@[simp] theorem State.notify_clr (s : State) (b : NoticeBody) : (s.notify b).clr = s.clr := rfl
@[simp] theorem State.post_sht (s : State) (ms : List Msg) : (s.post ms).sht = s.sht := rfl
@[simp] theorem State.notify_sht (s : State) (b : NoticeBody) : (s.notify b).sht = s.sht := rfl
@[simp] theorem State.post_sup (s : State) (ms : List Msg) : (s.post ms).sup = s.sup := rfl
@[simp] theorem State.notify_sup (s : State) (b : NoticeBody) : (s.notify b).sup = s.sup := rfl
@[simp] theorem State.post_flr (s : State) (ms : List Msg) : (s.post ms).flr = s.flr := rfl
@[simp] theorem State.notify_flr (s : State) (b : NoticeBody) : (s.notify b).flr = s.flr := rfl
@[simp] theorem State.post_snd (s : State) (ms : List Msg) : (s.post ms).snd = s.snd := rfl
@[simp] theorem State.notify_snd (s : State) (b : NoticeBody) : (s.notify b).snd = s.snd := rfl
@[simp] theorem State.post_cal (s : State) (ms : List Msg) : (s.post ms).cal = s.cal := rfl
@[simp] theorem State.notify_cal (s : State) (b : NoticeBody) : (s.notify b).cal = s.cal := rfl
@[simp] theorem State.post_clk (s : State) (ms : List Msg) : (s.post ms).clk = s.clk := rfl
@[simp] theorem State.notify_clk (s : State) (b : NoticeBody) : (s.notify b).clk = s.clk := rfl
@[simp] theorem State.post_prg (s : State) (ms : List Msg) : (s.post ms).prg = s.prg := rfl
@[simp] theorem State.notify_prg (s : State) (b : NoticeBody) : (s.notify b).prg = s.prg := rfl
@[simp] theorem State.post_fir (s : State) (ms : List Msg) : (s.post ms).fir = s.fir := rfl
@[simp] theorem State.notify_fir (s : State) (b : NoticeBody) : (s.notify b).fir = s.fir := rfl
@[simp] theorem State.post_flp (s : State) (ms : List Msg) : (s.post ms).flp = s.flp := rfl
@[simp] theorem State.notify_flp (s : State) (b : NoticeBody) : (s.notify b).flp = s.flp := rfl
@[simp] theorem State.post_lnk (s : State) (ms : List Msg) : (s.post ms).lnk = s.lnk := rfl
@[simp] theorem State.notify_lnk (s : State) (b : NoticeBody) : (s.notify b).lnk = s.lnk := rfl
@[simp] theorem State.post_ticks (s : State) (ms : List Msg) : (s.post ms).ticks = s.ticks := rfl
@[simp] theorem State.notify_ticks (s : State) (b : NoticeBody) : (s.notify b).ticks = s.ticks := rfl
@[simp] theorem State.post_agenda (s : State) (ms : List Msg) : (s.post ms).agenda = s.agenda ++ ms := rfl
@[simp] theorem State.notify_agenda (s : State) (b : NoticeBody) :
    (s.notify b).agenda = s.agenda ++ [.lnk (.notice b)] := rfl
@[simp] theorem State.post_pending (s : State) (ms : List Msg) : (s.post ms).pending = s.pending := rfl
@[simp] theorem State.notify_pending (s : State) (b : NoticeBody) : (s.notify b).pending = s.pending := rfl
@[simp] theorem State.ask_chn (s : State) (ms : List SupplyMsg) : (s.ask ms).chn = s.chn := rfl
@[simp] theorem State.request_chn (s : State) (o : MoveOwner) (k : MoveKind) (g : Nat) :
    (s.request o k g).chn = s.chn := rfl
@[simp] theorem State.ask_clr (s : State) (ms : List SupplyMsg) : (s.ask ms).clr = s.clr := rfl
@[simp] theorem State.request_clr (s : State) (o : MoveOwner) (k : MoveKind) (g : Nat) :
    (s.request o k g).clr = s.clr := rfl
@[simp] theorem State.ask_sht (s : State) (ms : List SupplyMsg) : (s.ask ms).sht = s.sht := rfl
@[simp] theorem State.request_sht (s : State) (o : MoveOwner) (k : MoveKind) (g : Nat) :
    (s.request o k g).sht = s.sht := rfl
@[simp] theorem State.ask_sup (s : State) (ms : List SupplyMsg) : (s.ask ms).sup = s.sup := rfl
@[simp] theorem State.request_sup (s : State) (o : MoveOwner) (k : MoveKind) (g : Nat) :
    (s.request o k g).sup = s.sup := rfl
@[simp] theorem State.ask_flr (s : State) (ms : List SupplyMsg) : (s.ask ms).flr = s.flr := rfl
@[simp] theorem State.request_flr (s : State) (o : MoveOwner) (k : MoveKind) (g : Nat) :
    (s.request o k g).flr = s.flr := rfl
@[simp] theorem State.ask_snd (s : State) (ms : List SupplyMsg) : (s.ask ms).snd = s.snd := rfl
@[simp] theorem State.request_snd (s : State) (o : MoveOwner) (k : MoveKind) (g : Nat) :
    (s.request o k g).snd = s.snd := rfl
@[simp] theorem State.ask_cal (s : State) (ms : List SupplyMsg) : (s.ask ms).cal = s.cal := rfl
@[simp] theorem State.request_cal (s : State) (o : MoveOwner) (k : MoveKind) (g : Nat) :
    (s.request o k g).cal = s.cal := rfl
@[simp] theorem State.ask_clk (s : State) (ms : List SupplyMsg) : (s.ask ms).clk = s.clk := rfl
@[simp] theorem State.request_clk (s : State) (o : MoveOwner) (k : MoveKind) (g : Nat) :
    (s.request o k g).clk = s.clk := rfl
@[simp] theorem State.ask_prg (s : State) (ms : List SupplyMsg) : (s.ask ms).prg = s.prg := rfl
@[simp] theorem State.request_prg (s : State) (o : MoveOwner) (k : MoveKind) (g : Nat) :
    (s.request o k g).prg = s.prg := rfl
@[simp] theorem State.ask_fir (s : State) (ms : List SupplyMsg) : (s.ask ms).fir = s.fir := rfl
@[simp] theorem State.request_fir (s : State) (o : MoveOwner) (k : MoveKind) (g : Nat) :
    (s.request o k g).fir = s.fir := rfl
@[simp] theorem State.ask_flp (s : State) (ms : List SupplyMsg) : (s.ask ms).flp = s.flp := rfl
@[simp] theorem State.request_flp (s : State) (o : MoveOwner) (k : MoveKind) (g : Nat) :
    (s.request o k g).flp = s.flp := rfl
@[simp] theorem State.ask_lnk (s : State) (ms : List SupplyMsg) : (s.ask ms).lnk = s.lnk := rfl
@[simp] theorem State.request_lnk (s : State) (o : MoveOwner) (k : MoveKind) (g : Nat) :
    (s.request o k g).lnk = s.lnk := rfl
@[simp] theorem State.ask_ticks (s : State) (ms : List SupplyMsg) : (s.ask ms).ticks = s.ticks := rfl
@[simp] theorem State.request_ticks (s : State) (o : MoveOwner) (k : MoveKind) (g : Nat) :
    (s.request o k g).ticks = s.ticks := rfl
@[simp] theorem State.ask_pending (s : State) (ms : List SupplyMsg) : (s.ask ms).pending = s.pending := rfl
@[simp] theorem State.request_pending (s : State) (o : MoveOwner) (k : MoveKind) (g : Nat) :
    (s.request o k g).pending = s.pending := rfl
@[simp] theorem State.ask_agenda (s : State) (ms : List SupplyMsg) :
    (s.ask ms).agenda = s.agenda.filter Msg.isAhead ++ ms.map Msg.sup ++ s.agenda.filter fun m => !m.isAhead := rfl
@[simp] theorem State.request_agenda (s : State) (o : MoveOwner) (k : MoveKind) (g : Nat) :
    (s.request o k g).agenda =
      s.agenda.filter Msg.isAhead ++ [.sup (.request o k g), .sup (.pass g)] ++ s.agenda.filter fun m => !m.isAhead := rfl

/-! ### The record of `chn` -/

@[simp] theorem State.onChn_chn (s : State) (f : Chain → Chain) : (s.onChn f).chn = f s.chn := rfl
@[simp] theorem State.onChn_clr (s : State) (f : Chain → Chain) : (s.onChn f).clr = s.clr := rfl
@[simp] theorem State.onChn_sht (s : State) (f : Chain → Chain) : (s.onChn f).sht = s.sht := rfl
@[simp] theorem State.onChn_sup (s : State) (f : Chain → Chain) : (s.onChn f).sup = s.sup := rfl
@[simp] theorem State.onChn_flr (s : State) (f : Chain → Chain) : (s.onChn f).flr = s.flr := rfl
@[simp] theorem State.onChn_snd (s : State) (f : Chain → Chain) : (s.onChn f).snd = s.snd := rfl
@[simp] theorem State.onChn_cal (s : State) (f : Chain → Chain) : (s.onChn f).cal = s.cal := rfl
@[simp] theorem State.onChn_clk (s : State) (f : Chain → Chain) : (s.onChn f).clk = s.clk := rfl
@[simp] theorem State.onChn_prg (s : State) (f : Chain → Chain) : (s.onChn f).prg = s.prg := rfl
@[simp] theorem State.onChn_fir (s : State) (f : Chain → Chain) : (s.onChn f).fir = s.fir := rfl
@[simp] theorem State.onChn_flp (s : State) (f : Chain → Chain) : (s.onChn f).flp = s.flp := rfl
@[simp] theorem State.onChn_lnk (s : State) (f : Chain → Chain) : (s.onChn f).lnk = s.lnk := rfl
@[simp] theorem State.onChn_ticks (s : State) (f : Chain → Chain) : (s.onChn f).ticks = s.ticks := rfl
@[simp] theorem State.onChn_agenda (s : State) (f : Chain → Chain) : (s.onChn f).agenda = s.agenda := rfl
@[simp] theorem State.onChn_pending (s : State) (f : Chain → Chain) : (s.onChn f).pending = s.pending := rfl
@[simp] theorem ownChn_chn (f : State → State) (s : State) : (ownChn f s).chn = (f s).chn := rfl
@[simp] theorem ownChn_clr (f : State → State) (s : State) : (ownChn f s).clr = s.clr := rfl
@[simp] theorem ownChn_sht (f : State → State) (s : State) : (ownChn f s).sht = s.sht := rfl
@[simp] theorem ownChn_sup (f : State → State) (s : State) : (ownChn f s).sup = s.sup := rfl
@[simp] theorem ownChn_flr (f : State → State) (s : State) : (ownChn f s).flr = s.flr := rfl
@[simp] theorem ownChn_snd (f : State → State) (s : State) : (ownChn f s).snd = s.snd := rfl
@[simp] theorem ownChn_cal (f : State → State) (s : State) : (ownChn f s).cal = s.cal := rfl
@[simp] theorem ownChn_clk (f : State → State) (s : State) : (ownChn f s).clk = s.clk := rfl
@[simp] theorem ownChn_prg (f : State → State) (s : State) : (ownChn f s).prg = s.prg := rfl
@[simp] theorem ownChn_fir (f : State → State) (s : State) : (ownChn f s).fir = s.fir := rfl
@[simp] theorem ownChn_flp (f : State → State) (s : State) : (ownChn f s).flp = s.flp := rfl
@[simp] theorem ownChn_lnk (f : State → State) (s : State) : (ownChn f s).lnk = s.lnk := rfl
@[simp] theorem ownChn_ticks (f : State → State) (s : State) : (ownChn f s).ticks = s.ticks := rfl
@[simp] theorem ownChn_agenda (f : State → State) (s : State) : (ownChn f s).agenda = (f s).agenda := rfl
@[simp] theorem ownChn_pending (f : State → State) (s : State) : (ownChn f s).pending = s.pending := rfl

/-! ### The record of `sht` -/

@[simp] theorem State.onSht_chn (s : State) (f : Shutters → Shutters) : (s.onSht f).chn = s.chn := rfl
@[simp] theorem State.onSht_clr (s : State) (f : Shutters → Shutters) : (s.onSht f).clr = s.clr := rfl
@[simp] theorem State.onSht_sht (s : State) (f : Shutters → Shutters) : (s.onSht f).sht = f s.sht := rfl
@[simp] theorem State.onSht_sup (s : State) (f : Shutters → Shutters) : (s.onSht f).sup = s.sup := rfl
@[simp] theorem State.onSht_flr (s : State) (f : Shutters → Shutters) : (s.onSht f).flr = s.flr := rfl
@[simp] theorem State.onSht_snd (s : State) (f : Shutters → Shutters) : (s.onSht f).snd = s.snd := rfl
@[simp] theorem State.onSht_cal (s : State) (f : Shutters → Shutters) : (s.onSht f).cal = s.cal := rfl
@[simp] theorem State.onSht_clk (s : State) (f : Shutters → Shutters) : (s.onSht f).clk = s.clk := rfl
@[simp] theorem State.onSht_prg (s : State) (f : Shutters → Shutters) : (s.onSht f).prg = s.prg := rfl
@[simp] theorem State.onSht_fir (s : State) (f : Shutters → Shutters) : (s.onSht f).fir = s.fir := rfl
@[simp] theorem State.onSht_flp (s : State) (f : Shutters → Shutters) : (s.onSht f).flp = s.flp := rfl
@[simp] theorem State.onSht_lnk (s : State) (f : Shutters → Shutters) : (s.onSht f).lnk = s.lnk := rfl
@[simp] theorem State.onSht_ticks (s : State) (f : Shutters → Shutters) : (s.onSht f).ticks = s.ticks := rfl
@[simp] theorem State.onSht_agenda (s : State) (f : Shutters → Shutters) : (s.onSht f).agenda = s.agenda := rfl
@[simp] theorem State.onSht_pending (s : State) (f : Shutters → Shutters) : (s.onSht f).pending = s.pending := rfl
@[simp] theorem ownSht_chn (f : State → State) (s : State) : (ownSht f s).chn = s.chn := rfl
@[simp] theorem ownSht_clr (f : State → State) (s : State) : (ownSht f s).clr = s.clr := rfl
@[simp] theorem ownSht_sht (f : State → State) (s : State) : (ownSht f s).sht = (f s).sht := rfl
@[simp] theorem ownSht_sup (f : State → State) (s : State) : (ownSht f s).sup = s.sup := rfl
@[simp] theorem ownSht_flr (f : State → State) (s : State) : (ownSht f s).flr = s.flr := rfl
@[simp] theorem ownSht_snd (f : State → State) (s : State) : (ownSht f s).snd = s.snd := rfl
@[simp] theorem ownSht_cal (f : State → State) (s : State) : (ownSht f s).cal = s.cal := rfl
@[simp] theorem ownSht_clk (f : State → State) (s : State) : (ownSht f s).clk = s.clk := rfl
@[simp] theorem ownSht_prg (f : State → State) (s : State) : (ownSht f s).prg = s.prg := rfl
@[simp] theorem ownSht_fir (f : State → State) (s : State) : (ownSht f s).fir = s.fir := rfl
@[simp] theorem ownSht_flp (f : State → State) (s : State) : (ownSht f s).flp = s.flp := rfl
@[simp] theorem ownSht_lnk (f : State → State) (s : State) : (ownSht f s).lnk = s.lnk := rfl
@[simp] theorem ownSht_ticks (f : State → State) (s : State) : (ownSht f s).ticks = s.ticks := rfl
@[simp] theorem ownSht_agenda (f : State → State) (s : State) : (ownSht f s).agenda = (f s).agenda := rfl
@[simp] theorem ownSht_pending (f : State → State) (s : State) : (ownSht f s).pending = s.pending := rfl

/-! ### The record of `sup` -/

@[simp] theorem State.onSup_chn (s : State) (f : Supply → Supply) : (s.onSup f).chn = s.chn := rfl
@[simp] theorem State.onSup_clr (s : State) (f : Supply → Supply) : (s.onSup f).clr = s.clr := rfl
@[simp] theorem State.onSup_sht (s : State) (f : Supply → Supply) : (s.onSup f).sht = s.sht := rfl
@[simp] theorem State.onSup_sup (s : State) (f : Supply → Supply) : (s.onSup f).sup = f s.sup := rfl
@[simp] theorem State.onSup_flr (s : State) (f : Supply → Supply) : (s.onSup f).flr = s.flr := rfl
@[simp] theorem State.onSup_snd (s : State) (f : Supply → Supply) : (s.onSup f).snd = s.snd := rfl
@[simp] theorem State.onSup_cal (s : State) (f : Supply → Supply) : (s.onSup f).cal = s.cal := rfl
@[simp] theorem State.onSup_clk (s : State) (f : Supply → Supply) : (s.onSup f).clk = s.clk := rfl
@[simp] theorem State.onSup_prg (s : State) (f : Supply → Supply) : (s.onSup f).prg = s.prg := rfl
@[simp] theorem State.onSup_fir (s : State) (f : Supply → Supply) : (s.onSup f).fir = s.fir := rfl
@[simp] theorem State.onSup_flp (s : State) (f : Supply → Supply) : (s.onSup f).flp = s.flp := rfl
@[simp] theorem State.onSup_lnk (s : State) (f : Supply → Supply) : (s.onSup f).lnk = s.lnk := rfl
@[simp] theorem State.onSup_ticks (s : State) (f : Supply → Supply) : (s.onSup f).ticks = s.ticks := rfl
@[simp] theorem State.onSup_agenda (s : State) (f : Supply → Supply) : (s.onSup f).agenda = s.agenda := rfl
@[simp] theorem State.onSup_pending (s : State) (f : Supply → Supply) : (s.onSup f).pending = s.pending := rfl
@[simp] theorem ownSup_chn (f : State → State) (s : State) : (ownSup f s).chn = s.chn := rfl
@[simp] theorem ownSup_clr (f : State → State) (s : State) : (ownSup f s).clr = s.clr := rfl
@[simp] theorem ownSup_sht (f : State → State) (s : State) : (ownSup f s).sht = s.sht := rfl
@[simp] theorem ownSup_sup (f : State → State) (s : State) : (ownSup f s).sup = (f s).sup := rfl
@[simp] theorem ownSup_flr (f : State → State) (s : State) : (ownSup f s).flr = s.flr := rfl
@[simp] theorem ownSup_snd (f : State → State) (s : State) : (ownSup f s).snd = s.snd := rfl
@[simp] theorem ownSup_cal (f : State → State) (s : State) : (ownSup f s).cal = s.cal := rfl
@[simp] theorem ownSup_clk (f : State → State) (s : State) : (ownSup f s).clk = s.clk := rfl
@[simp] theorem ownSup_prg (f : State → State) (s : State) : (ownSup f s).prg = s.prg := rfl
@[simp] theorem ownSup_fir (f : State → State) (s : State) : (ownSup f s).fir = s.fir := rfl
@[simp] theorem ownSup_flp (f : State → State) (s : State) : (ownSup f s).flp = s.flp := rfl
@[simp] theorem ownSup_lnk (f : State → State) (s : State) : (ownSup f s).lnk = s.lnk := rfl
@[simp] theorem ownSup_ticks (f : State → State) (s : State) : (ownSup f s).ticks = s.ticks := rfl
@[simp] theorem ownSup_agenda (f : State → State) (s : State) : (ownSup f s).agenda = (f s).agenda := rfl
@[simp] theorem ownSup_pending (f : State → State) (s : State) : (ownSup f s).pending = s.pending := rfl

/-! ### The record of `flr` -/

@[simp] theorem State.onFlr_chn (s : State) (f : Floors → Floors) : (s.onFlr f).chn = s.chn := rfl
@[simp] theorem State.onFlr_clr (s : State) (f : Floors → Floors) : (s.onFlr f).clr = s.clr := rfl
@[simp] theorem State.onFlr_sht (s : State) (f : Floors → Floors) : (s.onFlr f).sht = s.sht := rfl
@[simp] theorem State.onFlr_sup (s : State) (f : Floors → Floors) : (s.onFlr f).sup = s.sup := rfl
@[simp] theorem State.onFlr_flr (s : State) (f : Floors → Floors) : (s.onFlr f).flr = f s.flr := rfl
@[simp] theorem State.onFlr_snd (s : State) (f : Floors → Floors) : (s.onFlr f).snd = s.snd := rfl
@[simp] theorem State.onFlr_cal (s : State) (f : Floors → Floors) : (s.onFlr f).cal = s.cal := rfl
@[simp] theorem State.onFlr_clk (s : State) (f : Floors → Floors) : (s.onFlr f).clk = s.clk := rfl
@[simp] theorem State.onFlr_prg (s : State) (f : Floors → Floors) : (s.onFlr f).prg = s.prg := rfl
@[simp] theorem State.onFlr_fir (s : State) (f : Floors → Floors) : (s.onFlr f).fir = s.fir := rfl
@[simp] theorem State.onFlr_flp (s : State) (f : Floors → Floors) : (s.onFlr f).flp = s.flp := rfl
@[simp] theorem State.onFlr_lnk (s : State) (f : Floors → Floors) : (s.onFlr f).lnk = s.lnk := rfl
@[simp] theorem State.onFlr_ticks (s : State) (f : Floors → Floors) : (s.onFlr f).ticks = s.ticks := rfl
@[simp] theorem State.onFlr_agenda (s : State) (f : Floors → Floors) : (s.onFlr f).agenda = s.agenda := rfl
@[simp] theorem State.onFlr_pending (s : State) (f : Floors → Floors) : (s.onFlr f).pending = s.pending := rfl
@[simp] theorem ownFlr_chn (f : State → State) (s : State) : (ownFlr f s).chn = s.chn := rfl
@[simp] theorem ownFlr_clr (f : State → State) (s : State) : (ownFlr f s).clr = s.clr := rfl
@[simp] theorem ownFlr_sht (f : State → State) (s : State) : (ownFlr f s).sht = s.sht := rfl
@[simp] theorem ownFlr_sup (f : State → State) (s : State) : (ownFlr f s).sup = s.sup := rfl
@[simp] theorem ownFlr_flr (f : State → State) (s : State) : (ownFlr f s).flr = (f s).flr := rfl
@[simp] theorem ownFlr_snd (f : State → State) (s : State) : (ownFlr f s).snd = s.snd := rfl
@[simp] theorem ownFlr_cal (f : State → State) (s : State) : (ownFlr f s).cal = s.cal := rfl
@[simp] theorem ownFlr_clk (f : State → State) (s : State) : (ownFlr f s).clk = s.clk := rfl
@[simp] theorem ownFlr_prg (f : State → State) (s : State) : (ownFlr f s).prg = s.prg := rfl
@[simp] theorem ownFlr_fir (f : State → State) (s : State) : (ownFlr f s).fir = s.fir := rfl
@[simp] theorem ownFlr_flp (f : State → State) (s : State) : (ownFlr f s).flp = s.flp := rfl
@[simp] theorem ownFlr_lnk (f : State → State) (s : State) : (ownFlr f s).lnk = s.lnk := rfl
@[simp] theorem ownFlr_ticks (f : State → State) (s : State) : (ownFlr f s).ticks = s.ticks := rfl
@[simp] theorem ownFlr_agenda (f : State → State) (s : State) : (ownFlr f s).agenda = (f s).agenda := rfl
@[simp] theorem ownFlr_pending (f : State → State) (s : State) : (ownFlr f s).pending = s.pending := rfl

/-! ### The record of `snd` -/

@[simp] theorem State.onSnd_chn (s : State) (f : Sounder → Sounder) : (s.onSnd f).chn = s.chn := rfl
@[simp] theorem State.onSnd_clr (s : State) (f : Sounder → Sounder) : (s.onSnd f).clr = s.clr := rfl
@[simp] theorem State.onSnd_sht (s : State) (f : Sounder → Sounder) : (s.onSnd f).sht = s.sht := rfl
@[simp] theorem State.onSnd_sup (s : State) (f : Sounder → Sounder) : (s.onSnd f).sup = s.sup := rfl
@[simp] theorem State.onSnd_flr (s : State) (f : Sounder → Sounder) : (s.onSnd f).flr = s.flr := rfl
@[simp] theorem State.onSnd_snd (s : State) (f : Sounder → Sounder) : (s.onSnd f).snd = f s.snd := rfl
@[simp] theorem State.onSnd_cal (s : State) (f : Sounder → Sounder) : (s.onSnd f).cal = s.cal := rfl
@[simp] theorem State.onSnd_clk (s : State) (f : Sounder → Sounder) : (s.onSnd f).clk = s.clk := rfl
@[simp] theorem State.onSnd_prg (s : State) (f : Sounder → Sounder) : (s.onSnd f).prg = s.prg := rfl
@[simp] theorem State.onSnd_fir (s : State) (f : Sounder → Sounder) : (s.onSnd f).fir = s.fir := rfl
@[simp] theorem State.onSnd_flp (s : State) (f : Sounder → Sounder) : (s.onSnd f).flp = s.flp := rfl
@[simp] theorem State.onSnd_lnk (s : State) (f : Sounder → Sounder) : (s.onSnd f).lnk = s.lnk := rfl
@[simp] theorem State.onSnd_ticks (s : State) (f : Sounder → Sounder) : (s.onSnd f).ticks = s.ticks := rfl
@[simp] theorem State.onSnd_agenda (s : State) (f : Sounder → Sounder) : (s.onSnd f).agenda = s.agenda := rfl
@[simp] theorem State.onSnd_pending (s : State) (f : Sounder → Sounder) : (s.onSnd f).pending = s.pending := rfl
@[simp] theorem ownSnd_chn (f : State → State) (s : State) : (ownSnd f s).chn = s.chn := rfl
@[simp] theorem ownSnd_clr (f : State → State) (s : State) : (ownSnd f s).clr = s.clr := rfl
@[simp] theorem ownSnd_sht (f : State → State) (s : State) : (ownSnd f s).sht = s.sht := rfl
@[simp] theorem ownSnd_sup (f : State → State) (s : State) : (ownSnd f s).sup = s.sup := rfl
@[simp] theorem ownSnd_flr (f : State → State) (s : State) : (ownSnd f s).flr = s.flr := rfl
@[simp] theorem ownSnd_snd (f : State → State) (s : State) : (ownSnd f s).snd = (f s).snd := rfl
@[simp] theorem ownSnd_cal (f : State → State) (s : State) : (ownSnd f s).cal = s.cal := rfl
@[simp] theorem ownSnd_clk (f : State → State) (s : State) : (ownSnd f s).clk = s.clk := rfl
@[simp] theorem ownSnd_prg (f : State → State) (s : State) : (ownSnd f s).prg = s.prg := rfl
@[simp] theorem ownSnd_fir (f : State → State) (s : State) : (ownSnd f s).fir = s.fir := rfl
@[simp] theorem ownSnd_flp (f : State → State) (s : State) : (ownSnd f s).flp = s.flp := rfl
@[simp] theorem ownSnd_lnk (f : State → State) (s : State) : (ownSnd f s).lnk = s.lnk := rfl
@[simp] theorem ownSnd_ticks (f : State → State) (s : State) : (ownSnd f s).ticks = s.ticks := rfl
@[simp] theorem ownSnd_agenda (f : State → State) (s : State) : (ownSnd f s).agenda = (f s).agenda := rfl
@[simp] theorem ownSnd_pending (f : State → State) (s : State) : (ownSnd f s).pending = s.pending := rfl

/-! ### The record of `cal` -/

@[simp] theorem State.onCal_chn (s : State) (f : Calls → Calls) : (s.onCal f).chn = s.chn := rfl
@[simp] theorem State.onCal_clr (s : State) (f : Calls → Calls) : (s.onCal f).clr = s.clr := rfl
@[simp] theorem State.onCal_sht (s : State) (f : Calls → Calls) : (s.onCal f).sht = s.sht := rfl
@[simp] theorem State.onCal_sup (s : State) (f : Calls → Calls) : (s.onCal f).sup = s.sup := rfl
@[simp] theorem State.onCal_flr (s : State) (f : Calls → Calls) : (s.onCal f).flr = s.flr := rfl
@[simp] theorem State.onCal_snd (s : State) (f : Calls → Calls) : (s.onCal f).snd = s.snd := rfl
@[simp] theorem State.onCal_cal (s : State) (f : Calls → Calls) : (s.onCal f).cal = f s.cal := rfl
@[simp] theorem State.onCal_clk (s : State) (f : Calls → Calls) : (s.onCal f).clk = s.clk := rfl
@[simp] theorem State.onCal_prg (s : State) (f : Calls → Calls) : (s.onCal f).prg = s.prg := rfl
@[simp] theorem State.onCal_fir (s : State) (f : Calls → Calls) : (s.onCal f).fir = s.fir := rfl
@[simp] theorem State.onCal_flp (s : State) (f : Calls → Calls) : (s.onCal f).flp = s.flp := rfl
@[simp] theorem State.onCal_lnk (s : State) (f : Calls → Calls) : (s.onCal f).lnk = s.lnk := rfl
@[simp] theorem State.onCal_ticks (s : State) (f : Calls → Calls) : (s.onCal f).ticks = s.ticks := rfl
@[simp] theorem State.onCal_agenda (s : State) (f : Calls → Calls) : (s.onCal f).agenda = s.agenda := rfl
@[simp] theorem State.onCal_pending (s : State) (f : Calls → Calls) : (s.onCal f).pending = s.pending := rfl
@[simp] theorem ownCal_chn (f : State → State) (s : State) : (ownCal f s).chn = s.chn := rfl
@[simp] theorem ownCal_clr (f : State → State) (s : State) : (ownCal f s).clr = s.clr := rfl
@[simp] theorem ownCal_sht (f : State → State) (s : State) : (ownCal f s).sht = s.sht := rfl
@[simp] theorem ownCal_sup (f : State → State) (s : State) : (ownCal f s).sup = s.sup := rfl
@[simp] theorem ownCal_flr (f : State → State) (s : State) : (ownCal f s).flr = s.flr := rfl
@[simp] theorem ownCal_snd (f : State → State) (s : State) : (ownCal f s).snd = s.snd := rfl
@[simp] theorem ownCal_cal (f : State → State) (s : State) : (ownCal f s).cal = (f s).cal := rfl
@[simp] theorem ownCal_clk (f : State → State) (s : State) : (ownCal f s).clk = s.clk := rfl
@[simp] theorem ownCal_prg (f : State → State) (s : State) : (ownCal f s).prg = s.prg := rfl
@[simp] theorem ownCal_fir (f : State → State) (s : State) : (ownCal f s).fir = s.fir := rfl
@[simp] theorem ownCal_flp (f : State → State) (s : State) : (ownCal f s).flp = s.flp := rfl
@[simp] theorem ownCal_lnk (f : State → State) (s : State) : (ownCal f s).lnk = s.lnk := rfl
@[simp] theorem ownCal_ticks (f : State → State) (s : State) : (ownCal f s).ticks = s.ticks := rfl
@[simp] theorem ownCal_agenda (f : State → State) (s : State) : (ownCal f s).agenda = (f s).agenda := rfl
@[simp] theorem ownCal_pending (f : State → State) (s : State) : (ownCal f s).pending = s.pending := rfl

/-! ### The record of `clk` -/

@[simp] theorem State.onClk_chn (s : State) (f : Clock → Clock) : (s.onClk f).chn = s.chn := rfl
@[simp] theorem State.onClk_clr (s : State) (f : Clock → Clock) : (s.onClk f).clr = s.clr := rfl
@[simp] theorem State.onClk_sht (s : State) (f : Clock → Clock) : (s.onClk f).sht = s.sht := rfl
@[simp] theorem State.onClk_sup (s : State) (f : Clock → Clock) : (s.onClk f).sup = s.sup := rfl
@[simp] theorem State.onClk_flr (s : State) (f : Clock → Clock) : (s.onClk f).flr = s.flr := rfl
@[simp] theorem State.onClk_snd (s : State) (f : Clock → Clock) : (s.onClk f).snd = s.snd := rfl
@[simp] theorem State.onClk_cal (s : State) (f : Clock → Clock) : (s.onClk f).cal = s.cal := rfl
@[simp] theorem State.onClk_clk (s : State) (f : Clock → Clock) : (s.onClk f).clk = f s.clk := rfl
@[simp] theorem State.onClk_prg (s : State) (f : Clock → Clock) : (s.onClk f).prg = s.prg := rfl
@[simp] theorem State.onClk_fir (s : State) (f : Clock → Clock) : (s.onClk f).fir = s.fir := rfl
@[simp] theorem State.onClk_flp (s : State) (f : Clock → Clock) : (s.onClk f).flp = s.flp := rfl
@[simp] theorem State.onClk_lnk (s : State) (f : Clock → Clock) : (s.onClk f).lnk = s.lnk := rfl
@[simp] theorem State.onClk_ticks (s : State) (f : Clock → Clock) : (s.onClk f).ticks = s.ticks := rfl
@[simp] theorem State.onClk_agenda (s : State) (f : Clock → Clock) : (s.onClk f).agenda = s.agenda := rfl
@[simp] theorem State.onClk_pending (s : State) (f : Clock → Clock) : (s.onClk f).pending = s.pending := rfl
@[simp] theorem ownClk_chn (f : State → State) (s : State) : (ownClk f s).chn = s.chn := rfl
@[simp] theorem ownClk_clr (f : State → State) (s : State) : (ownClk f s).clr = s.clr := rfl
@[simp] theorem ownClk_sht (f : State → State) (s : State) : (ownClk f s).sht = s.sht := rfl
@[simp] theorem ownClk_sup (f : State → State) (s : State) : (ownClk f s).sup = s.sup := rfl
@[simp] theorem ownClk_flr (f : State → State) (s : State) : (ownClk f s).flr = s.flr := rfl
@[simp] theorem ownClk_snd (f : State → State) (s : State) : (ownClk f s).snd = s.snd := rfl
@[simp] theorem ownClk_cal (f : State → State) (s : State) : (ownClk f s).cal = s.cal := rfl
@[simp] theorem ownClk_clk (f : State → State) (s : State) : (ownClk f s).clk = (f s).clk := rfl
@[simp] theorem ownClk_prg (f : State → State) (s : State) : (ownClk f s).prg = s.prg := rfl
@[simp] theorem ownClk_fir (f : State → State) (s : State) : (ownClk f s).fir = s.fir := rfl
@[simp] theorem ownClk_flp (f : State → State) (s : State) : (ownClk f s).flp = s.flp := rfl
@[simp] theorem ownClk_lnk (f : State → State) (s : State) : (ownClk f s).lnk = s.lnk := rfl
@[simp] theorem ownClk_ticks (f : State → State) (s : State) : (ownClk f s).ticks = s.ticks := rfl
@[simp] theorem ownClk_agenda (f : State → State) (s : State) : (ownClk f s).agenda = (f s).agenda := rfl
@[simp] theorem ownClk_pending (f : State → State) (s : State) : (ownClk f s).pending = s.pending := rfl

/-! ### The record of `prg` -/

@[simp] theorem State.onPrg_chn (s : State) (f : Programme → Programme) : (s.onPrg f).chn = s.chn := rfl
@[simp] theorem State.onPrg_clr (s : State) (f : Programme → Programme) : (s.onPrg f).clr = s.clr := rfl
@[simp] theorem State.onPrg_sht (s : State) (f : Programme → Programme) : (s.onPrg f).sht = s.sht := rfl
@[simp] theorem State.onPrg_sup (s : State) (f : Programme → Programme) : (s.onPrg f).sup = s.sup := rfl
@[simp] theorem State.onPrg_flr (s : State) (f : Programme → Programme) : (s.onPrg f).flr = s.flr := rfl
@[simp] theorem State.onPrg_snd (s : State) (f : Programme → Programme) : (s.onPrg f).snd = s.snd := rfl
@[simp] theorem State.onPrg_cal (s : State) (f : Programme → Programme) : (s.onPrg f).cal = s.cal := rfl
@[simp] theorem State.onPrg_clk (s : State) (f : Programme → Programme) : (s.onPrg f).clk = s.clk := rfl
@[simp] theorem State.onPrg_prg (s : State) (f : Programme → Programme) : (s.onPrg f).prg = f s.prg := rfl
@[simp] theorem State.onPrg_fir (s : State) (f : Programme → Programme) : (s.onPrg f).fir = s.fir := rfl
@[simp] theorem State.onPrg_flp (s : State) (f : Programme → Programme) : (s.onPrg f).flp = s.flp := rfl
@[simp] theorem State.onPrg_lnk (s : State) (f : Programme → Programme) : (s.onPrg f).lnk = s.lnk := rfl
@[simp] theorem State.onPrg_ticks (s : State) (f : Programme → Programme) : (s.onPrg f).ticks = s.ticks := rfl
@[simp] theorem State.onPrg_agenda (s : State) (f : Programme → Programme) : (s.onPrg f).agenda = s.agenda := rfl
@[simp] theorem State.onPrg_pending (s : State) (f : Programme → Programme) : (s.onPrg f).pending = s.pending := rfl
@[simp] theorem ownPrg_chn (f : State → State) (s : State) : (ownPrg f s).chn = s.chn := rfl
@[simp] theorem ownPrg_clr (f : State → State) (s : State) : (ownPrg f s).clr = s.clr := rfl
@[simp] theorem ownPrg_sht (f : State → State) (s : State) : (ownPrg f s).sht = s.sht := rfl
@[simp] theorem ownPrg_sup (f : State → State) (s : State) : (ownPrg f s).sup = s.sup := rfl
@[simp] theorem ownPrg_flr (f : State → State) (s : State) : (ownPrg f s).flr = s.flr := rfl
@[simp] theorem ownPrg_snd (f : State → State) (s : State) : (ownPrg f s).snd = s.snd := rfl
@[simp] theorem ownPrg_cal (f : State → State) (s : State) : (ownPrg f s).cal = s.cal := rfl
@[simp] theorem ownPrg_clk (f : State → State) (s : State) : (ownPrg f s).clk = s.clk := rfl
@[simp] theorem ownPrg_prg (f : State → State) (s : State) : (ownPrg f s).prg = (f s).prg := rfl
@[simp] theorem ownPrg_fir (f : State → State) (s : State) : (ownPrg f s).fir = s.fir := rfl
@[simp] theorem ownPrg_flp (f : State → State) (s : State) : (ownPrg f s).flp = s.flp := rfl
@[simp] theorem ownPrg_lnk (f : State → State) (s : State) : (ownPrg f s).lnk = s.lnk := rfl
@[simp] theorem ownPrg_ticks (f : State → State) (s : State) : (ownPrg f s).ticks = s.ticks := rfl
@[simp] theorem ownPrg_agenda (f : State → State) (s : State) : (ownPrg f s).agenda = (f s).agenda := rfl
@[simp] theorem ownPrg_pending (f : State → State) (s : State) : (ownPrg f s).pending = s.pending := rfl

/-! ### The record of `fir` -/

@[simp] theorem State.onFir_chn (s : State) (f : Fire → Fire) : (s.onFir f).chn = s.chn := rfl
@[simp] theorem State.onFir_clr (s : State) (f : Fire → Fire) : (s.onFir f).clr = s.clr := rfl
@[simp] theorem State.onFir_sht (s : State) (f : Fire → Fire) : (s.onFir f).sht = s.sht := rfl
@[simp] theorem State.onFir_sup (s : State) (f : Fire → Fire) : (s.onFir f).sup = s.sup := rfl
@[simp] theorem State.onFir_flr (s : State) (f : Fire → Fire) : (s.onFir f).flr = s.flr := rfl
@[simp] theorem State.onFir_snd (s : State) (f : Fire → Fire) : (s.onFir f).snd = s.snd := rfl
@[simp] theorem State.onFir_cal (s : State) (f : Fire → Fire) : (s.onFir f).cal = s.cal := rfl
@[simp] theorem State.onFir_clk (s : State) (f : Fire → Fire) : (s.onFir f).clk = s.clk := rfl
@[simp] theorem State.onFir_prg (s : State) (f : Fire → Fire) : (s.onFir f).prg = s.prg := rfl
@[simp] theorem State.onFir_fir (s : State) (f : Fire → Fire) : (s.onFir f).fir = f s.fir := rfl
@[simp] theorem State.onFir_flp (s : State) (f : Fire → Fire) : (s.onFir f).flp = s.flp := rfl
@[simp] theorem State.onFir_lnk (s : State) (f : Fire → Fire) : (s.onFir f).lnk = s.lnk := rfl
@[simp] theorem State.onFir_ticks (s : State) (f : Fire → Fire) : (s.onFir f).ticks = s.ticks := rfl
@[simp] theorem State.onFir_agenda (s : State) (f : Fire → Fire) : (s.onFir f).agenda = s.agenda := rfl
@[simp] theorem State.onFir_pending (s : State) (f : Fire → Fire) : (s.onFir f).pending = s.pending := rfl
@[simp] theorem ownFir_chn (f : State → State) (s : State) : (ownFir f s).chn = s.chn := rfl
@[simp] theorem ownFir_clr (f : State → State) (s : State) : (ownFir f s).clr = s.clr := rfl
@[simp] theorem ownFir_sht (f : State → State) (s : State) : (ownFir f s).sht = s.sht := rfl
@[simp] theorem ownFir_sup (f : State → State) (s : State) : (ownFir f s).sup = s.sup := rfl
@[simp] theorem ownFir_flr (f : State → State) (s : State) : (ownFir f s).flr = s.flr := rfl
@[simp] theorem ownFir_snd (f : State → State) (s : State) : (ownFir f s).snd = s.snd := rfl
@[simp] theorem ownFir_cal (f : State → State) (s : State) : (ownFir f s).cal = s.cal := rfl
@[simp] theorem ownFir_clk (f : State → State) (s : State) : (ownFir f s).clk = s.clk := rfl
@[simp] theorem ownFir_prg (f : State → State) (s : State) : (ownFir f s).prg = s.prg := rfl
@[simp] theorem ownFir_fir (f : State → State) (s : State) : (ownFir f s).fir = (f s).fir := rfl
@[simp] theorem ownFir_flp (f : State → State) (s : State) : (ownFir f s).flp = s.flp := rfl
@[simp] theorem ownFir_lnk (f : State → State) (s : State) : (ownFir f s).lnk = s.lnk := rfl
@[simp] theorem ownFir_ticks (f : State → State) (s : State) : (ownFir f s).ticks = s.ticks := rfl
@[simp] theorem ownFir_agenda (f : State → State) (s : State) : (ownFir f s).agenda = (f s).agenda := rfl
@[simp] theorem ownFir_pending (f : State → State) (s : State) : (ownFir f s).pending = s.pending := rfl

/-! ### The record of `flp` -/

@[simp] theorem State.onFlp_chn (s : State) (f : Loop → Loop) : (s.onFlp f).chn = s.chn := rfl
@[simp] theorem State.onFlp_clr (s : State) (f : Loop → Loop) : (s.onFlp f).clr = s.clr := rfl
@[simp] theorem State.onFlp_sht (s : State) (f : Loop → Loop) : (s.onFlp f).sht = s.sht := rfl
@[simp] theorem State.onFlp_sup (s : State) (f : Loop → Loop) : (s.onFlp f).sup = s.sup := rfl
@[simp] theorem State.onFlp_flr (s : State) (f : Loop → Loop) : (s.onFlp f).flr = s.flr := rfl
@[simp] theorem State.onFlp_snd (s : State) (f : Loop → Loop) : (s.onFlp f).snd = s.snd := rfl
@[simp] theorem State.onFlp_cal (s : State) (f : Loop → Loop) : (s.onFlp f).cal = s.cal := rfl
@[simp] theorem State.onFlp_clk (s : State) (f : Loop → Loop) : (s.onFlp f).clk = s.clk := rfl
@[simp] theorem State.onFlp_prg (s : State) (f : Loop → Loop) : (s.onFlp f).prg = s.prg := rfl
@[simp] theorem State.onFlp_fir (s : State) (f : Loop → Loop) : (s.onFlp f).fir = s.fir := rfl
@[simp] theorem State.onFlp_flp (s : State) (f : Loop → Loop) : (s.onFlp f).flp = f s.flp := rfl
@[simp] theorem State.onFlp_lnk (s : State) (f : Loop → Loop) : (s.onFlp f).lnk = s.lnk := rfl
@[simp] theorem State.onFlp_ticks (s : State) (f : Loop → Loop) : (s.onFlp f).ticks = s.ticks := rfl
@[simp] theorem State.onFlp_agenda (s : State) (f : Loop → Loop) : (s.onFlp f).agenda = s.agenda := rfl
@[simp] theorem State.onFlp_pending (s : State) (f : Loop → Loop) : (s.onFlp f).pending = s.pending := rfl
@[simp] theorem ownFlp_chn (f : State → State) (s : State) : (ownFlp f s).chn = s.chn := rfl
@[simp] theorem ownFlp_clr (f : State → State) (s : State) : (ownFlp f s).clr = s.clr := rfl
@[simp] theorem ownFlp_sht (f : State → State) (s : State) : (ownFlp f s).sht = s.sht := rfl
@[simp] theorem ownFlp_sup (f : State → State) (s : State) : (ownFlp f s).sup = s.sup := rfl
@[simp] theorem ownFlp_flr (f : State → State) (s : State) : (ownFlp f s).flr = s.flr := rfl
@[simp] theorem ownFlp_snd (f : State → State) (s : State) : (ownFlp f s).snd = s.snd := rfl
@[simp] theorem ownFlp_cal (f : State → State) (s : State) : (ownFlp f s).cal = s.cal := rfl
@[simp] theorem ownFlp_clk (f : State → State) (s : State) : (ownFlp f s).clk = s.clk := rfl
@[simp] theorem ownFlp_prg (f : State → State) (s : State) : (ownFlp f s).prg = s.prg := rfl
@[simp] theorem ownFlp_fir (f : State → State) (s : State) : (ownFlp f s).fir = s.fir := rfl
@[simp] theorem ownFlp_flp (f : State → State) (s : State) : (ownFlp f s).flp = (f s).flp := rfl
@[simp] theorem ownFlp_lnk (f : State → State) (s : State) : (ownFlp f s).lnk = s.lnk := rfl
@[simp] theorem ownFlp_ticks (f : State → State) (s : State) : (ownFlp f s).ticks = s.ticks := rfl
@[simp] theorem ownFlp_agenda (f : State → State) (s : State) : (ownFlp f s).agenda = (f s).agenda := rfl
@[simp] theorem ownFlp_pending (f : State → State) (s : State) : (ownFlp f s).pending = s.pending := rfl

/-! ### The record of `lnk` -/

@[simp] theorem State.onLnk_chn (s : State) (f : Link → Link) : (s.onLnk f).chn = s.chn := rfl
@[simp] theorem State.onLnk_clr (s : State) (f : Link → Link) : (s.onLnk f).clr = s.clr := rfl
@[simp] theorem State.onLnk_sht (s : State) (f : Link → Link) : (s.onLnk f).sht = s.sht := rfl
@[simp] theorem State.onLnk_sup (s : State) (f : Link → Link) : (s.onLnk f).sup = s.sup := rfl
@[simp] theorem State.onLnk_flr (s : State) (f : Link → Link) : (s.onLnk f).flr = s.flr := rfl
@[simp] theorem State.onLnk_snd (s : State) (f : Link → Link) : (s.onLnk f).snd = s.snd := rfl
@[simp] theorem State.onLnk_cal (s : State) (f : Link → Link) : (s.onLnk f).cal = s.cal := rfl
@[simp] theorem State.onLnk_clk (s : State) (f : Link → Link) : (s.onLnk f).clk = s.clk := rfl
@[simp] theorem State.onLnk_prg (s : State) (f : Link → Link) : (s.onLnk f).prg = s.prg := rfl
@[simp] theorem State.onLnk_fir (s : State) (f : Link → Link) : (s.onLnk f).fir = s.fir := rfl
@[simp] theorem State.onLnk_flp (s : State) (f : Link → Link) : (s.onLnk f).flp = s.flp := rfl
@[simp] theorem State.onLnk_lnk (s : State) (f : Link → Link) : (s.onLnk f).lnk = f s.lnk := rfl
@[simp] theorem State.onLnk_ticks (s : State) (f : Link → Link) : (s.onLnk f).ticks = s.ticks := rfl
@[simp] theorem State.onLnk_agenda (s : State) (f : Link → Link) : (s.onLnk f).agenda = s.agenda := rfl
@[simp] theorem State.onLnk_pending (s : State) (f : Link → Link) : (s.onLnk f).pending = s.pending := rfl
@[simp] theorem ownLnk_chn (f : State → State) (s : State) : (ownLnk f s).chn = s.chn := rfl
@[simp] theorem ownLnk_clr (f : State → State) (s : State) : (ownLnk f s).clr = s.clr := rfl
@[simp] theorem ownLnk_sht (f : State → State) (s : State) : (ownLnk f s).sht = s.sht := rfl
@[simp] theorem ownLnk_sup (f : State → State) (s : State) : (ownLnk f s).sup = s.sup := rfl
@[simp] theorem ownLnk_flr (f : State → State) (s : State) : (ownLnk f s).flr = s.flr := rfl
@[simp] theorem ownLnk_snd (f : State → State) (s : State) : (ownLnk f s).snd = s.snd := rfl
@[simp] theorem ownLnk_cal (f : State → State) (s : State) : (ownLnk f s).cal = s.cal := rfl
@[simp] theorem ownLnk_clk (f : State → State) (s : State) : (ownLnk f s).clk = s.clk := rfl
@[simp] theorem ownLnk_prg (f : State → State) (s : State) : (ownLnk f s).prg = s.prg := rfl
@[simp] theorem ownLnk_fir (f : State → State) (s : State) : (ownLnk f s).fir = s.fir := rfl
@[simp] theorem ownLnk_flp (f : State → State) (s : State) : (ownLnk f s).flp = s.flp := rfl
@[simp] theorem ownLnk_lnk (f : State → State) (s : State) : (ownLnk f s).lnk = (f s).lnk := rfl
@[simp] theorem ownLnk_ticks (f : State → State) (s : State) : (ownLnk f s).ticks = s.ticks := rfl
@[simp] theorem ownLnk_agenda (f : State → State) (s : State) : (ownLnk f s).agenda = (f s).agenda := rfl
@[simp] theorem ownLnk_pending (f : State → State) (s : State) : (ownLnk f s).pending = s.pending := rfl

end Sys2Proof.Machine
end

