-- ==== Sys2Proof/Laws/Handle.lean ====
section
/-! SUPPORT. What the agenda does: one turn of it, when it comes to rest, and how an order that hands nothing on is answered. -/

namespace Sys2Proof.Machine

/-! ### Quiet -/

theorem State.quiet_iff (s : State) : s.quiet = true ↔ s.agenda = [] ∧ s.snd.roomDue = false := by
  simp [State.quiet]

theorem Link.hasRoom_iff (k : Link) : k.hasRoom = true ↔ k.answers.length < 4 := by
  rw [Link.hasRoom, decide_eq_true_iff]
  rfl

theorem State.ready_iff (s : State) :
    s.ready = true ↔ s.agenda = [] ∧ s.snd.roomDue = false ∧ s.lnk.requests = [] ∧ s.lnk.answers.length < 4 := by
  simp [State.ready, State.quiet, Link.hasRoom_iff, and_assoc]

theorem State.configReady_iff (s : State) : s.configReady = true ↔ s.ready = true ∧ s.lnk.writing = none := by
  simp [State.configReady]

/-! ### Turns of the agenda -/

theorem drain_cons {s : State} {m : Msg} {rest : List Msg} (h : s.agenda = m :: rest) (n : Nat) :
    drain (n + 1) s = drain n (handleFirst m rest s) := by
  simp [drain, h]

theorem drain_room {s : State} (ha : s.agenda = []) (hr : s.snd.roomDue = true) (n : Nat) :
    drain (n + 1) s = drain n (tellRoom s) := by
  simp [drain, ha, hr]

theorem drain_quiet {s : State} (h : s.quiet = true) (n : Nat) : drain (n + 1) s = .next s := by
  obtain ⟨ha, hr⟩ := s.quiet_iff.mp h
  simp [drain, ha, hr]

/-- Once the agenda has come to rest, more turns change nothing. -/
theorem drain_mono {n m : Nat} {s t : State} (h : drain n s = .next t) (hnm : n ≤ m) : drain m s = .next t := by
  induction n generalizing s m with
  | zero => simp [drain] at h
  | succ n ih =>
    obtain ⟨k, rfl⟩ : ∃ k, m = k + 1 := ⟨m - 1, by omega⟩
    have hk : n ≤ k := by omega
    rcases ha : s.agenda with _ | ⟨a, rest⟩
    · cases hr : s.snd.roomDue
      · simpa [drain, ha, hr] using h
      · rw [drain_room ha hr] at h ⊢
        exact ih h hk
    · rw [drain_cons ha] at h ⊢
      exact ih h hk

/-- An agenda worked off gives a quiet part. -/
theorem drain_next_quiet {n : Nat} {s t : State} (h : drain n s = .next t) : t.quiet = true := by
  induction n generalizing s with
  | zero => simp [drain] at h
  | succ n ih =>
    rcases ha : s.agenda with _ | ⟨a, rest⟩
    · cases hr : s.snd.roomDue
      · have : s = t := by simpa [drain, ha, hr] using h
        subst this
        exact s.quiet_iff.mpr ⟨ha, hr⟩
      · rw [drain_room ha hr] at h
        exact ih h
    · rw [drain_cons ha] at h
      exact ih h

/-- A property that every message and the ROOM report keep holds once the agenda has come to rest. -/
theorem drain_keeps {P : State → Prop} (hm : ∀ m s, P s → P (handle m s))
    (ha : ∀ s l, P s → P { s with agenda := l }) (hr : ∀ s, P s → P (tellRoom s)) {n : Nat} {s t : State}
    (hs : P s) (h : drain n s = .next t) : P t := by
  induction n generalizing s with
  | zero => simp [drain] at h
  | succ n ih =>
    rcases hg : s.agenda with _ | ⟨a, rest⟩
    · cases hd : s.snd.roomDue
      · have : s = t := by simpa [drain, hg, hd] using h
        exact this ▸ hs
      · rw [drain_room hg hd] at h
        exact ih (hr s hs) h
    · rw [drain_cons hg] at h
      exact ih (ha _ _ (hm _ _ (ha _ _ hs))) h

/-- A few turns that come to rest are what `settle` does. -/
theorem settle_of_drain {n : Nat} {s t : State} (hn : n ≤ 1000000000) (h : drain n s = .next t) : settle s = .next t :=
  drain_mono h hn

theorem settle_quiet {s : State} (h : s.quiet = true) : settle s = .next s :=
  settle_of_drain (n := 1) (by norm_num) (drain_quiet h 0)

/-! ### Orders -/

/-- The kind code of an order is a request kind (section 12.7). -/
theorem requestKind_kind (o : Order) : requestKind o.kind = true := by
  cases o <;> rfl

/-- `s` with the order in the request buffer and nothing handed on, as its owner meets it. -/
def State.serving (s : State) (tag : Nat) (o : Order) : State :=
  { s with lnk := { s.lnk with requests := [⟨o.kind, tag, some o⟩] }, agenda := [] }

/-- An order that a ready part takes goes to its owner. -/
theorem takeOrder_serve {s : State} {tag : Nat} {o : Order} (hs : s.ready = true)
    (hw : o.configures = true → s.lnk.writing = none) (n : Nat) :
    drain (n + 2) (ownLnk (linkArrive o.kind tag (some o)) s) = drain n (serve o.kind tag o (s.serving tag o)) := by
  obtain ⟨ha, hr, hq, hl⟩ := s.ready_iff.mp hs
  have hroom : s.lnk.hasRoom = true := s.lnk.hasRoom_iff.mpr hl
  have h1 : ownLnk (linkArrive o.kind tag (some o)) s =
      { s.serving tag o with agenda := [.lnk .process] } := by
    simp [ownLnk, linkArrive, requestKind_kind, hq, Config.requestPlaces, State.onLnk, State.post, ha, State.serving]
  have h2 : handle (.lnk .process) (s.serving tag o) = { s.serving tag o with agenda := [.serve o.kind tag o] } := by
    have hroom' : (s.serving tag o).lnk.hasRoom = true := hroom
    have hb : (o.configures && (s.serving tag o).lnk.writing.isSome) = false := by
      rcases hc : o.configures with _ | _
      · rfl
      · simp [State.serving, hw hc]
    have hq' : (s.serving tag o).lnk.requests = [⟨o.kind, tag, some o⟩] := rfl
    have ha' : (s.serving tag o).agenda = [] := rfl
    simp only [handle, linkTake, linkProcess, ownLnk, hq', hroom', hb]
    simp [State.post, ha']
  rw [h1, show n + 2 = (n + 1) + 1 from rfl, drain_cons rfl, handleFirst]
  have h3 : { ({ s.serving tag o with agenda := [.lnk .process] } : State) with agenda := [] } = s.serving tag o := rfl
  rw [h3, h2, drain_cons rfl, handleFirst]
  simp [handle]
  rfl

/-- The transmitter takes nothing from the request buffer. -/
theorem Link.choose_requests (k : Link) : k.choose.requests = k.requests := by
  unfold Link.choose; split <;> rfl

theorem Link.start_requests (k : Link) : k.start.requests = k.requests := by
  unfold Link.start; split
  · exact k.choose_requests
  · rfl

/-- A link that has made its choice does not leave anything waiting beside an idle transmitter (R186). -/
theorem Link.start_prompt (k : Link) : k.start.wantsToSend = false := by
  unfold Link.start
  split
  · unfold Link.choose; split <;> simp_all [Link.wantsToSend]
  · simp_all [Link.wantsToSend]

/-- The answer of an order enters the list and the part is quiet again. -/
theorem drain_answer {u : State} {kind tag : Nat} {r : Result} {q : Request}
    (ha : u.agenda = [.lnk (.answer kind tag r), .lnk .process])
    (hq : u.lnk.requests = [q]) (hl : u.lnk.answers.length < 4) (hr : u.snd.roomDue = false) (n : Nat) :
    drain (n + 3) u = .next { u with
      lnk := Link.start { u.lnk with answers := u.lnk.answers ++ [⟨kind, tag, r⟩], requests := [] }, agenda := [] } := by
  rw [show n + 3 = (n + 2) + 1 from rfl, drain_cons ha]
  have h1 : handleFirst (.lnk (.answer kind tag r)) [.lnk .process] u = { u with
      lnk := Link.start { u.lnk with answers := u.lnk.answers ++ [⟨kind, tag, r⟩], requests := [] }
      agenda := [.lnk .process] } := by
    simp [handleFirst, handle, linkTake, linkAnswer, ownLnk, State.onLnk, Link.putAnswer, Link.hasRoom_iff, hl, hq]
  rw [h1, show n + 2 = (n + 1) + 1 from rfl, drain_cons rfl]
  have h2 : ∀ v : State, v.lnk.requests = [] → handleFirst (.lnk .process) [] v = { v with agenda := [] } := by
    intro v hv
    simp [handleFirst, handle, linkTake, linkProcess, ownLnk, hv]
  rw [h2 _ (by simp [Link.start_requests]), drain_quiet (by simp [State.quiet, hr])]

/-- An order whose owner hands nothing on: its effect and its answer. -/
theorem takeOrder_silent {s : State} {tag : Nat} {o : Order} (hs : s.ready = true)
    (hw : o.configures = true → s.lnk.writing = none)
    (ha : (serveOrder tag o (s.serving tag o)).1.agenda = [])
    (hr : (o.owner.own (fun s => (serveOrder tag o s).1) (s.serving tag o)).snd.roomDue = false)
    (hl : (o.owner.own (fun s => (serveOrder tag o s).1) (s.serving tag o)).lnk.requests = [⟨o.kind, tag, some o⟩])
    (hn : (o.owner.own (fun s => (serveOrder tag o s).1) (s.serving tag o)).lnk.answers = s.lnk.answers) :
    takeOrder tag o s = .next
      (((o.owner.own (fun s => (serveOrder tag o s).1) (s.serving tag o)).onLnk fun k => { k with requests := [] }).answered
        tag o (serveOrder tag o (s.serving tag o)).2) := by
  obtain ⟨_, _, _, hlen⟩ := s.ready_iff.mp hs
  refine settle_of_drain (n := 5) (by norm_num) ?_
  rw [show (5 : Nat) = 3 + 2 from rfl, takeOrder_serve hs hw]
  have hag : (o.owner.own (fun s => (serveOrder tag o s).1) (s.serving tag o)).agenda = [] := by
    cases hb : o.owner <;> exact ha
  refine (drain_answer (u := serve o.kind tag o (s.serving tag o)) (q := ⟨o.kind, tag, some o⟩)
    (kind := o.kind) (tag := tag) (r := (serveOrder tag o (s.serving tag o)).2) (by simp [serve, hag]) hl (by simpa [serve, hn] using hlen) (by simpa [serve] using hr) 0).trans ?_
  simp [State.answered, State.onLnk, serve, hag]

/-- The same for a part ready for a configuration order and an owner other than the service link: `t` is what the owner
makes of the state, `u` that with the link's record as it was. -/
theorem takeOrder_owned {s t u : State} {tag : Nat} {o : Order} {r : Result} (hs : s.ready = true)
    (hw : o.configures = true → s.lnk.writing = none) (ho : o.owner ≠ .lnk)
    (he : serveOrder tag o (s.serving tag o) = (t, r)) (ha : t.agenda = [])
    (hr : (o.owner.own (fun _ => t) (s.serving tag o)).snd.roomDue = false)
    (hu : { o.owner.own (fun _ => t) (s.serving tag o) with lnk := s.lnk } = u) :
    takeOrder tag o s = .next (u.answered tag o r) := by
  have hown : o.owner.own (fun s => (serveOrder tag o s).1) (s.serving tag o) =
      o.owner.own (fun _ => t) (s.serving tag o) := by
    cases hh : o.owner <;>
      simp [Block.own, ownChn, ownSht, ownSup, ownFlr, ownSnd, ownCal, ownClk, ownPrg, ownFir, ownFlp, ownLnk, he]
  have hreq : s.lnk.requests = [] := (s.ready_iff.mp hs).2.2.1
  rw [takeOrder_silent hs hw (by rw [he]; exact ha) (by rw [hown]; exact hr)]
  · rw [hown, he, ← hu]
    congr 1
    simp only [State.answered, State.onLnk]
    cases hh : o.owner <;>
      simp_all [Block.own, ownChn, ownSht, ownSup, ownFlr, ownSnd, ownCal, ownClk, ownPrg, ownFir, ownFlp, State.serving]
  · rw [hown]; cases hh : o.owner <;> simp_all [Block.own, State.serving]
  · rw [hown]; cases hh : o.owner <;> simp_all [Block.own, State.serving]

end Sys2Proof.Machine
end

