-- ==== Sys2Proof/Tests/Slice0.lean ====
section
/-! SUPPORT. Tests: the checks of `WellFormed` on ill-formed commands, CRCs and frames worked out by hand, worked cases of
the manual, and for every statement a state that meets its hypotheses. -/

set_option maxRecDepth 100000

namespace Sys2Proof.Tests

open Sys2Proof.Machine

/-! ### States the tests share -/

/-- A loop of 10 cars, 1000 counts apart, its tag reader at 500, in supply group 2. -/
def geometry : GeometryFields := ⟨10, 1000, 500, 20, 20, 2⟩

def timing : TimingFields := ⟨10, 400, 20, 10, 5, 5, 10, 5, 100, 3⟩

/-- One landing, on floor 1 at 300. -/
def config : ChainConfig :=
  { geometry := some geometry, landings := some ⟨1, true, 300⟩ :: List.replicate 15 none, timing := some timing }

/-- A configured part at rest: the chain HALTED at 0, known, and groups of capacity 2 with a settle time of 3 s. -/
def chained : State :=
  { State.reset with
    chn := { State.reset.chn with config := config, known := true, lastWindow := some 0 }
    clr := { table := config.storedTable }
    sup := { State.reset.sup with groups := List.replicate 8 { config := ⟨2, 3⟩, moves := [], queue := [] } } }

/-- The same in a chain state. -/
def inState (st : ChainState) : State := chained.onChn fun c => { c with state := st }

/-- The same with the mains dipped, so that a request waits. -/
def dipped (s : State) : State := s.onSup fun u => { u with mode := .dipped, dip := true }

/-- The chain running with its move admitted. -/
def running : State :=
  { inState .running with sup := chained.sup.withMove 2 .chain (.chain .start) }

/-- A plan for landing 0 made at 9990, before its brake point. -/
def plan : StopPlan := makePlan config config.storedTable [0] 9990 100

/-- A stop under way, the index mark near. -/
def stopping : State := (inState .stopping).onChn fun c => { c with x := 9995, plan := some { plan with advance := 5 } }

/-- The chain still at 800 with the brake applied on its plan. -/
def stopped : State :=
  (inState .stopping).onChn fun c => { c with x := 800, plan := some { plan with braked := true } }

def homing : State :=
  { inState .homing with sup := chained.sup.withMove 2 .chain (.chain .home) }.onChn fun c =>
    { c with known := false, homingTimer := .running 7 }

/-- A creep one count before its brake point. -/
def creeping : State :=
  { inState .creeping with sup := chained.sup.withMove 2 .chain (.chain .creep) }.onChn fun c =>
    { c with plan := some { plan with brakeAt := 1, braked := false }, homingTimer := .running 7 }

def tripped : State :=
  (inState .tripped).onChn fun c =>
    { c with trip := some ⟨[.stall], .stall, some 0, .running⟩, park := some ⟨[0], 800⟩ }

def parked : State := (inState .parked).onChn fun c => { c with x := 800, rest := 800, park := some ⟨[0], 800⟩ }

def inspectionRun : State :=
  { inState .inspectionRun with sup := chained.sup.withMove 2 .chain (.chain .inspect) }.onChn fun c =>
    { c with keyOn := true, downHeld := true, reverse := true }

/-- A shutter of floor 1 in a state, with its limits. -/
def shutter (kind : ShutterKind) (st : ShutterState) (top bottom : Bool) (warning : Nat) : Shutter :=
  { ({ floor := 1, kind := kind, node := 1, slot := 0, group := 2, warning := warning, descent := 20, raise := 30 } :
      ShutterConfig).fresh with state := st, inputs := some ⟨top, bottom, false, true⟩ }

/-- The part `s` with shutter 3 as given. -/
def withShutter (s : State) (r : Shutter) : State := s.onSht fun t => t.set 3 (some r)

/-- A SHUTTER node at 1, a STATION at 2 and a DETECTOR at 3, all PRESENT; floor 1 TRADING with zone 4. -/
def served (s : State) : State :=
  { s with
    flp := { s.flp with
      nodes := [some ⟨.shutter, .present, 1, some ⟨8, 8⟩⟩, some ⟨.station, .present, 2, some ⟨1, 0⟩⟩,
        some ⟨.detector, .present, 0, some ⟨0, 0⟩⟩] ++ List.replicate 61 none }
    flr := { table := s.flr.table.set 1 ⟨⟨[4], 3, 5⟩, .trading, 0, none, false⟩ } }

/-- A station on floor 1 with button 0 calling team 2, whose ring names a member off duty. -/
def manned (s : State) : State :=
  s.onCal fun c => { c with
    stations := c.stations.set 6 (some (StationConfig.fresh ⟨2, 1, [some 2, none, none, none]⟩))
    teams := c.teams.set 2 ⟨[9], 0, 1⟩ }

/-- A call of the station with one member, waiting for its round timer. -/
def call (n : Nat) (cls : CallClass) : Call :=
  { newCall n cls (.button 6 0) 2 .awaitingAck false false with member := some 9, roundTimer := .running 1 }

/-- A sounding of a SOUND order in progress on zone 4. -/
def sounding : Playing :=
  { sounding := { cls := .cue, pattern := 0, zones := [4], repeats := some 2, origin := .sound 7, stamp := 0, duration := 2 }
    left := 1, pass := 0, element := 0, elementLeft := 1 }

def sounds (s : State) : State := s.onSnd fun u => { u with playing := [sounding], nextStamp := 1 }

/-- A closing programme of floors 1 and 2 in a step. -/
def closing (s : State) (st : ProgrammeStep) : State :=
  { served s with
    prg := { s.prg with
      kind := .closing, step := some st, floors := [2, 1], cursor := some 1, deadline := .running 1
      placingRetry := .running 1 }
    flr := { table := s.flr.table.set 1 ⟨⟨[4], 3, 5⟩, .closing, 0, none, false⟩ } }

/-! ### Ill-formed commands are refused -/

theorem test_wellFormed_refuses_wide_tag : Instr.wellFormed (.runChain 256) = false := by decide
theorem test_wellFormed_refuses_wide_field : Instr.wellFormed (.setTime 1 (256 ^ 3) 0) = false := by decide
theorem test_wellFormed_refuses_wide_mask : Instr.wellFormed (.stopChain 1 65536) = false := by decide
theorem test_wellFormed_refuses_long_body :
    Instr.wellFormed (.loadDutyList 1 0 0 (List.replicate 118 0)) = false := by decide
theorem test_wellFormed_refuses_shutter : Instr.wellFormed (.warningTimerExpiry 48) = false := by decide
theorem test_wellFormed_refuses_group : Instr.wellFormed (.settleExpiry 8 .chain) = false := by decide
theorem test_wellFormed_refuses_owner : Instr.wellFormed (.settleExpiry 0 (.shutter 48)) = false := by decide
theorem test_wellFormed_refuses_button : Instr.wellFormed (.urgentWindowExpiry 23 4) = false := by decide
theorem test_wellFormed_refuses_call : Instr.wellFormed (.roundTimerExpiry 0) = false := by decide
theorem test_wellFormed_refuses_cue : Instr.wellFormed (.cueSlot 24) = false := by decide
theorem test_wellFormed_refuses_zone : Instr.wellFormed (.confirmTimerExpiry 8) = false := by decide
theorem test_wellFormed_takes_orders :
    Instr.wellFormed (.stopChain 255 65535) = true ∧ Instr.wellFormed (.setTime 1 86399 6) = true ∧
      Instr.wellFormed (.loadDutyList 1 0 0 (List.replicate 16 63)) = true := by decide

/-! ### Check values -/

/-- The check value of CRC-16/CCITT-FALSE over "123456789". -/
theorem test_crc16_check :
    crc16 [0x31#8, 0x32#8, 0x33#8, 0x34#8, 0x35#8, 0x36#8, 0x37#8, 0x38#8, 0x39#8] = 0x29B1#16 := by decide

/-- The check value of the CRC-8 with polynomial 07H over "123456789". -/
theorem test_crc8_check :
    crc8 [0x31#8, 0x32#8, 0x33#8, 0x34#8, 0x35#8, 0x36#8, 0x37#8, 0x38#8, 0x39#8] = 0xF4#8 := by decide

/-- An answer's body begins with the result and its detail (R185, section 12.7): a TAKEN has none, one whose repeats were
clamped too; a DONE has the CLAMPED indication. -/
theorem test_taken_has_no_detail :
    (Result.taken true).body = [1#8, 0#8] ∧ (Result.taken false).body = [1#8, 0#8] ∧
      (Result.done true []).body = [0#8, 1#8] := by decide

/-! ### Worked cases of section 2 -/

/-- The gap table of the six-landing store. -/
theorem test_gap_six_landings :
    gapTable 600 55 [1250, 3130, 5010, 7470, 9360, 11240] = [⟨496, 99, 545⟩] := by decide

/-- A wrapping gap: the second store. -/
theorem test_gap_wrapping : gapTable 500 40 [1580, 4150, 6720, 9930] = [⟨261, 129, 325⟩, ⟨471, 69, 5⟩] := by decide

/-- A landing added leaves no gap, or one narrow gap. -/
theorem test_gap_narrow :
    gapTable 600 55 [1250, 3130, 5010, 7470, 9360, 11240, 4145] = [] ∧
      gapTable 600 55 [1250, 3130, 5010, 7470, 9360, 11240, 4120] = [⟨576, 19, 585⟩] := by decide

/-- The six-landing store. -/
def sixLandings : ChainConfig :=
  { geometry := some ⟨20, 600, 0, 20, 20, 0⟩, timing := some ⟨20, 400, 40, 15, 20, 5, 6, 5, 100, 2⟩
    landings := ([(0, 1250), (1, 3130), (2, 5010), (3, 7470), (4, 9360), (5, 11240)].map fun p =>
      some ⟨p.1, true, p.2⟩) ++ List.replicate 10 none }

/-- The plan at the fire start: S = 288, d = 424, T = 4745, the brake after 136. -/
theorem test_plan_fire_start :
    stoppingDistance 48 2 6 = 288 ∧
      makePlan sixLandings sixLandings.storedTable (List.range 6) 4321 288 =
        ⟨List.range 6, [], 4321, 288, 424, 4745, 136, 0, false⟩ := by decide

/-- A halt at 4758 passes; at 4842 landing 0 fouls. -/
theorem test_acceptance_halts :
    accepts sixLandings 4758 (List.range 6) = true ∧ foulingLandings sixLandings 4842 (List.range 6) = [0] := by decide

/-! ### One step -/

/-- The outcome is a next state. -/
def isNext (o : Host.Outcome Machine.State Fault Refusal) : Bool :=
  match o with
  | .next _ => true
  | .fault _ | .refused _ => false

theorem exists_of_isNext {o : Host.Outcome Machine.State Fault Refusal} (h : isNext o = true) : ∃ t, o = .next t := by
  cases o with
  | next t => exact ⟨t, rfl⟩
  | fault _ => cases h
  | refused _ => cases h

/-- A round of a WARDEN call on zone 4. -/
def wardenRound (n : Nat) : Sounding :=
  { cls := .callUrgent, pattern := 0, zones := [4], repeats := some 2, origin := .call n 5, stamp := n, duration := 2 }

/-- R126: as ALERTING begins, the WARDEN call that sounds and the one whose round waits behind it both lose their sounding
and wait for their acknowledgement by the lamp alone. -/
theorem test_warden_calls_lamp_only :
    let warden (n f : Nat) (phase : CallPhase) : Call := newCall n .warden (.floor f) 5 phase false false
    let s : State :=
      { served chained with
        cal := { chained.cal with calls := [warden 1 1 .sounding, warden 2 2 .queued] }
        snd := { chained.snd with
          playing := [{ sounding := wardenRound 1, left := 2, pass := 0, element := 0, elementLeft := 1 }]
          queue := [wardenRound 2], nextStamp := 3 } }
    ∃ t, settle (s.post [.cal (.fireChanged .alerting)]) = .next t ∧ t.snd.playing = [] ∧ t.snd.queue = [] ∧
      t.cal.calls = [warden 1 1 .awaitingAck, warden 2 2 .awaitingAck].map fun r => { r with lampOnly := true } :=
  ⟨_, rfl, by decide⟩

/-- An index correction of 20 counts in HALTED moves the rest position too, so that the next count is no drift (R17). -/
theorem test_index_correction_moves_rest :
    let s := chained.onChn fun c => { c with x := 20, rest := 20 }
    ∃ t, exec .indexMark s = .next t ∧ t.chn.x = 0 ∧ t.chn.rest = 0 ∧ t.chn.state = .halted := ⟨_, rfl, by decide⟩

/-! ### A state that meets the hypotheses of each statement -/

/-- Shutter 3 as it stands in a state, its timers about to run out. -/
def at' (kind : ShutterKind) (st : ShutterState) : Shutter :=
  let r := shutter kind st (st == .opened || st == .awaitClear || st == .warning) (st == .closed) 4
  match st with
  | .warning => { r with warningTimer := .running 1 }
  | .descending => { r with descentTimer := .running 1 }
  | .arrested => { r with clearTimer := .running 1, holdTimer := .running 1, descentTimer := .frozen 55, arrests := 2 }
  | .raising => { r with raiseTimer := .running 1 }
  | .fault => { r with cause := some .descentTimeout, observed := some .between }
  | .unseen | .opened | .awaitClear | .closed | .partOpen | .waitSupply => r

/-- The part with hall shutter 3, or the shutter of landing 0, in a state. -/
def hall (st : ShutterState) : State := withShutter (served chained) (at' .hall st)
def landing (s : State) (st : ShutterState) : State := withShutter (served s) (at' (.landing 0) st)

/-- A fire condition, its timers running, zone 1 with floor 1. -/
def fired (c : FireCondition) (s : State) : State :=
  s.onFir fun f => { f with
    condition := c, zones := f.zones.set 1 ⟨[1], if c == .normal then .confirming else .alarm, .running 1⟩
    delayTimer := .running 1, ackTimer := .running 1, pulseTimer := .running 1 }

/-- A raise of shutter 3 in group 2. -/
def raising (phase : MovePhase) : State :=
  (hall .raising).onSup fun u => { u with
    order := [.shutter 3], groups := u.groups.set 2 ⟨⟨2, 3⟩, [⟨.shutter 3, .raise, phase⟩], []⟩ }

/-- Cue 3 at midnight, with a lead of 300 s and its reservation. -/
def cued (phase : CuePhase) : State :=
  (chained.onClk fun c => { c with
    isSet := true, time := 86100, day := 6
    cues := c.cues.set 3 ⟨⟨true, 0, [0], 1, [4], 2, 60, 2⟩, phase, some ⟨0, 0⟩, 300, 1⟩ }).onSnd fun u =>
    { u with reservations := if phase == .waiting then [] else [⟨3, 0, 1, 1, 2, [4]⟩] }

/-- The part after a commit, its image in the store. -/
def committing : State := chained.onLnk fun k => { k with writing := some chained.image }
def stored : State := chained.onLnk fun k => { k with store := some (chained.image, true) }

/-- The chain in a state after a window of `n` counts. -/
def window (st : ChainState) (n : Nat) : State :=
  (inState st).onChn fun c => { c with windowCount := n, runupTimer := .running 1 }

/-- The mains back, the restart timer about to run out. -/
def restoring (s : State) : State := s.onSup fun u => { u with mode := .restoring, restartTimer := .running 1 }

/-- Group 2 with a request at the head of its queue and a move of shutter 4 that settles. -/
def waiting (q : MoveRequest) (s : State) : State :=
  s.onSup fun u => { u with groups := u.groups.set 2 ⟨⟨2, 3⟩, [⟨.shutter 4, .raise, .settling 1⟩], [q]⟩ }

/-- Group 2 with its queue full. -/
def crowded (s : State) : State :=
  s.onSup fun u => { u with groups := u.groups.modify 2 fun g => { g with queue := List.replicate 16 ⟨.shutter 9, .raise⟩ } }

/-- The chain in a state at `x`, a braked plan for landing 0 made. -/
def still (st : ChainState) (x : Nat) (s : State) : State :=
  s.onChn fun c => { c with state := st, x := x, rest := x, plan := some { plan with braked := true } }

/-- Shutter 3 with the inputs of an image of its node, which is polled and answered with `old` before. -/
def imaged (r : Shutter) (old : Byte) : State :=
  (withShutter (served chained) { r with inputs := if r.state = .unseen then none else some (inputsOf old) }).onFlp fun f =>
    { f with polled := some 1, nodes := f.nodes.set 0 (some ⟨.shutter, .present, 1, some ⟨old, 8⟩⟩) }

/-- A node polled that is PRESENT with two misses. -/
def failing (a : Nat) (kind : NodeKind) (s : State) : State :=
  s.onFlp fun f => { f with polled := some a, nodes := f.nodes.set (a - 1) (some ⟨kind, .present, 2, some ⟨0, 0⟩⟩) }

/-- Station 6 with the call of its button 0, in a phase. -/
def placed (cls : CallClass) (phase : CallPhase) (rounds escalations : Nat) (window : Timer) (barred : Bool) : State :=
  (manned (served chained)).onCal fun c => { c with
    calls := [{ call 4 cls with phase := phase, rounds := rounds, escalations := escalations, barred := barred }]
    stations := c.stations.modify 6 (Option.map fun st =>
      { st with openCall := [some 4, none, none, none], window := [window, .stopped, .stopped, .stopped] }) }

/-- Detector input 3 in slot 0 of node 3, in zone 1. -/
def detector : Detector := ⟨⟨3, 0, 1, false⟩, .normal⟩
def detecting (s : State) : State :=
  (served s).onFir fun f =>
    { f with inputs := f.inputs.set 3 (some detector), settings := { f.settings with confirm := 3 } }

/-- A part whose next command is `c`. -/
def next (c : Instr) (s : State) : State := { s with pending := [c] }

theorem test_witness_EmptyQueueTicks :
    let homed := homing.onChn fun c => { c with homingTimer := .running 1 }
    let long := (sounds chained).onSnd fun u => { u with playing := [{ sounding with left := 5 }] }
    let near := (cued .waiting).onClk fun c => { c with cues := c.cues.map fun q => { q with lead := 301 } }
    let sending := chained.onLnk fun k => { k with sending := some [0#8] }
    (∀ s ∈ [window .starting 9, homed, hall .warning, hall .descending, hall .raising, hall .arrested,
        raising (.settling 1), restoring chained, sounds chained, long, placed .normal .awaitingAck 0 0 (.running 1) false,
        near, closing chained .sweep, fired .evacuating chained, cued .reserved, sending], s.pending = []) ∧
    homed.chn.homingTimer = .running 1 ∧ (restoring chained).sup.restartTimer = .running 1 ∧
    ((raising (.settling 1)).sup.groups[2]?).map (·.moves) = some [⟨.shutter 3, .raise, .settling 1⟩] ∧
    (long.snd.playing.map fun p => (p.left, p.elementLeft)) = [(5, 1)] ∧
    ((near.clk.cues[3]?).map fun q => (q.phase, q.lead)) = some (.waiting, 301) ∧ near.clk.isSet = true ∧
    ({ near with ticks := 19 } : State).ticks % 2 = 1 ∧
    ((fired .evacuating chained).fir.zones[1]?).map (·.confirmTimer) = some (.running 1) := by decide

theorem test_witness_CommandsSettle : ∃ t, exec .windowEnd chained = .next t := exists_of_isNext (by decide)

theorem test_witness_ConfigurationStaysValid :
    let s := next (.setLanding 1 15 (some ⟨7, 1, 9999⟩)) chained
    s.quiet = true ∧ s.image.valid = true ∧ s.clr.table = s.chn.config.storedTable ∧ ∃ t, step s = .next t :=
  ⟨by decide, by decide, by decide, exists_of_isNext (by decide)⟩

theorem test_witness_FullResetLoads :
    (chained.chn.safetyClosed = true ∧ chained.chn.keyOn = false ∧ chained.sup.dip = false ∧
      chained.lnk.loadable = none) ∧
    (stored.chn.safetyClosed = true ∧ stored.lnk.loadable = some chained.image) ∧ committing.lnk.writing ≠ none ∧
    (let s := stored.onChn fun c => { c with safetyClosed := false }
     s.chn.safetyClosed = false ∧ s.sup.dip = false) ∧
    (let s := stored.onChn fun c => { c with keyOn := true }
     s.chn.safetyClosed = true ∧ s.chn.keyOn = true ∧ s.sup.dip = false) ∧
    (dipped stored).chn.safetyClosed = true ∧ (dipped stored).chn.keyOn = false ∧ (dipped stored).sup.dip = true := by
  decide

theorem test_witness_StepsKeepBounds :
    let s := next (.sound 1 0 16 4) (sounds chained)
    s.quiet = true ∧ s.bounded = true ∧ s.lnk.wantsToSend = false ∧ ∃ t, step s = .next t :=
  ⟨by decide, by decide, by decide, exists_of_isNext (by decide)⟩

theorem test_witness_StepsKeepLandingsSafe :
    (let s := next (.dropShutter 1 3) (landing parked .opened)
     s.quiet = true ∧ s.landingSafe = true ∧ ∃ t, step s = .next t) ∧
    let s := next (.runChain 1) (landing chained .opened)
    s.quiet = true ∧ s.landingSafe = true ∧ ∃ t, step s = .next t :=
  ⟨⟨by decide, by decide, exists_of_isNext (by decide)⟩, by decide, by decide, exists_of_isNext (by decide)⟩

theorem test_witness_StepsKeepZonesApart :
    let s := next (.sound 1 0 15 4) (sounds chained)
    s.quiet = true ∧ s.snd.zonesApart ∧ ∃ t, step s = .next t :=
  ⟨by decide, List.pairwise_singleton _ _, exists_of_isNext (by decide)⟩

theorem test_witness_GapTableRight : 0 < 600 ∧ [1250, 3130] ≠ [] := by decide

theorem test_witness_PlanReachesClearTarget : sixLandings.configured = true ∧ sixLandings.valid = true := by decide

theorem test_witness_AcceptanceTest : [0, 15].Pairwise (· < ·) := by decide

theorem test_witness_FloorOrders : 7 ≤ 7 := by decide

theorem test_witness_SetSupplyGroup :
    (chained.configReady = true ∧ ¬(7 ≤ 7 ∧ 1 ≤ 5 ∧ 5 ≤ 4) ∧ (7 ≤ 7 ∧ 1 ≤ 4 ∧ 4 ≤ 4) ∧
      ∀ r ∈ chained.sup.groups[7]?, r.moves = [] ∧ r.queue = []) ∧
    (raising .running).configReady = true ∧ (1 ≤ 1 ∧ 2 ≤ 7) ∧
      ¬∀ r ∈ (raising .running).sup.groups[2]?, r.moves = [] ∧ r.queue = [] := by decide

theorem test_witness_CallTableOrders :
    (chained.configReady = true ∧ 11 ≤ 11 ∧ 31 ≤ 31 ∧ 63 ≤ 63 ∧
     let s := served chained
     let f : StationFields := ⟨2, 7, 11, 255, 255, 255⟩
     s.configReady = true ∧ 23 ≤ 23 ∧ f.config.inRange = true ∧ s.flp.isKind f.node .station = true ∧
       (∀ k < s.cal.stations.length, ∀ r ∈ s.cal.station? k, r.config.node = f.node → k = 23) ∧
       ∀ r ∈ s.cal.calls, r.ofStation 23 = false) ∧
    (let s := manned chained
     s.configReady = true ∧ s.cal.teams[2]? = some ⟨[9], 0, 1⟩ ∧ 1 ≤ [9].length ∧
       1 + (List.replicate 15 63).length ≤ 16 ∧ (∀ e ∈ List.replicate 15 63, e ≤ 63) ∧
       (∀ r ∈ s.cal.calls, r.phase ≠ .unassigned) ∧ (s.cal.staff[63]?).map (·.assigned) = some none) := by decide

theorem test_witness_Soundings :
    (let l : List ElementFields := List.replicate 16 ⟨0, 3, 41⟩
     (chained.configReady = true ∧ 31 ≤ 31 ∧ l ≠ [] ∧ l.length ≤ 16 ∧ ∀ e ∈ l, e.kind = 1 ∨ e.kind = 0 ∧ e.tone ≤ 3) ∧
     chained.ready = true ∧ (31 < 32 ∨ 255 < 256 ∨ 0 = 0) ∧ 0 < 255 ∧ 255 < 256 ∧ chained.snd.queue = []) ∧
    ((sounds chained).quiet = true ∧ (sounds chained).snd.queue = [] ∧
       (sounds chained).snd.playing = [] ++ sounding :: [] ∧ sounding.sounding.origin = .sound 7 ∧
       sounding.sounding.cls = .cue ∧ ∀ p ∈ (sounds chained).snd.playing, p.sounding.stamp ≠ 1) := by decide

theorem test_witness_FloorAndProgrammeSettings :
    chained.configReady = true ∧ 7 ≤ 7 ∧ 255 < 256 ∧ 11 ≤ 11 ∧
      (⟨7, 31, 31, 31, 31, 59, 1801, 901, 601, 119, 121⟩ : ProgrammeFields).inRange = true := by decide

theorem test_witness_FireSettings :
    let s := (served chained).onFlp fun f => { f with nodes := f.nodes.set 63 (some ⟨.detector, .absent, 0, none⟩) }
    let f : DetectorFields := ⟨64, 3, 7, 1⟩
    s.configReady = true ∧ 7 ≤ 7 ∧ 255 < 256 ∧ 31 ≤ 31 ∧ s.fir.condition = .normal ∧ 63 ≤ 63 ∧
      s.fir.input? 63 = none ∧ 63 < s.fir.inputs.length ∧ f.slot ≤ 3 ∧ f.zone ≤ 7 ∧ f.kind ≤ 1 ∧
      s.flp.node? 64 = some ⟨.detector, .absent, 0, none⟩ ∧
      ∀ k < s.fir.inputs.length, ∀ d ∈ s.fir.input? k, d.config.node = f.node → d.config.slot ≠ f.slot := by decide

theorem test_witness_SetNode : chained.configReady = true ∧ chained.flp.polled ≠ some 64 := by decide

theorem test_witness_ClockOrders :
    (chained.ready = true ∧ 86399 ≤ 86399 ∧ 6 ≤ 6 ∧ chained.snd.queue = [] ∧ chained.clk.cues.length = 24 ∧
      ∀ q ∈ chained.clk.cues, q.config.enabled = false ∧ q.phase ≠ .sounding) ∧
    chained.configReady = true ∧ 23 ≤ 23 ∧ (⟨true, 86399, 127, 31, 255, 5, 59, 4⟩ : CueFields).inRange = true ∧
      (chained.clk.cues[23]?).map (·.phase) = some .idle ∧ chained.clk.isSet = false ∧
      ∀ r ∈ chained.snd.reservations, r.cue ≠ 23 := by decide

theorem test_witness_ChainConfigurationOrders :
    let s := chained
    let g : GeometryFields := ⟨6, 4000, 23999, 50, 50, 7⟩
    (s.configReady = true ∧ s.chn.configurable = true ∧ s.chn.keyOn = false ∧ s.fir.held = [] ∧ g.inRange = true ∧
      s.chn.x < g.cars * g.pitch ∧ (∀ o ∈ s.chn.config.landings, ∀ l ∈ o, l.position < g.cars * g.pitch) ∧
      { s.chn.config with geometry := some g }.hasClearGap = true) ∧
    (s.chn.config.geometry ≠ none ∧ 15 ≤ 15 ∧
      (⟨7, 1, 9999⟩ : LandingFields).inRange s.chn.config.loopLength = true ∧
      sideTaken s.chn.config.landings 15 ⟨7, false, 9999⟩ = false ∧ s.sht.namesLanding 15 = false ∧
      { s.chn.config with landings := s.chn.config.landings.set 15 (some ⟨7, false, 9999⟩) }.hasClearGap = true ∧
      { s.chn.config with landings := s.chn.config.landings.set 15 none }.hasClearGap = true) ∧
    s.clr.table = s.chn.config.storedTable ∧
      (⟨5, 450, 400, 99, 100, 20, 63, 11, 59, 21⟩ : TimingFields).inRange = true ∧
      { s.chn.config with timing := some ⟨5, 450, 400, 99, 100, 20, 63, 10, 60, 20⟩ }.hasClearGap = true := by decide

theorem test_witness_SetShutter :
    let s := served chained
    let f : ShutterFields := ⟨1, 1, 0, 1, 1, 7, 31, 4, 301⟩
    s.configReady = true ∧ 47 ≤ 47 ∧ s.idleProgramme = true ∧ s.chn.clearance = [] ∧
      (∀ f < 8, s.flr.waitsFor f = false) ∧ s.flr.table.length = 8 ∧
      (∀ r ∈ s.sht.get? 47, r.state.inUse = false) ∧ shutterFieldsInRange f s = true ∧
      ∀ k < s.sht.table.length, ∀ r ∈ s.sht.get? k, r.config.node = f.node → r.config.slot = f.slot → k = 47 := by decide

theorem test_witness_RunAndHomeChain :
    (State.reset.ready = true ∧ State.reset.chn.config.configured = false) ∧
    (∀ s ∈ [chained, dipped chained], s.ready = true ∧ s.chn.config.configured = true ∧ s.fir.condition = .normal ∧
      s.chn.state = .halted ∧ s.chn.request = none ∧ s.chn.safetyClosed = true ∧ s.sht.permit = true ∧
      s.chn.clearance = [] ∧ s.sup.withoutChain = true) ∧
    (dipped chained).sup.holds 2 = true ∧ chained.chn.group = 2 ∧ chained.sup.admits 2 = true ∧
      chained.alone = true := by decide

theorem test_witness_StopAndHaltChain :
    (running.ready = true ∧ running.chn.config.configured = true ∧ running.chn.state = .running ∧
      running.chn.known = true ∧ running.chn.request = none ∧ running.alone = true ∧
      ∀ k < 16, (1).testBit k = true → (running.chn.config.landings[k]?).join ≠ none) ∧
    (running.chn.state.moving = true ∧ running.chn.state ≠ .braking) ∧
    (tripped.ready = true ∧ tripped.chn.config.configured = true ∧ tripped.chn.request = none ∧
      tripped.chn.state = .tripped) ∧
    parked.ready = true ∧ parked.chn.config.configured = true ∧ parked.chn.request = none ∧
      parked.chn.state = .parked ∧ parked.chn.clearance = [] := by decide

theorem test_witness_ResetChainTrip :
    (chained.ready = true ∧ chained.chn.config.configured = true ∧ chained.chn.state ≠ .tripped) ∧
    tripped.ready = true ∧ tripped.chn.config.configured = true ∧ tripped.chn.state = .tripped ∧
      tripped.chn.lastWindow = some 0 ∧ tripped.chn.safetyClosed = true ∧ tripped.sht.landingFault = false ∧
      tripped.chn.keyOn = false ∧ tripped.chn.clearance = [] ∧ tripped.alone = true := by decide

theorem test_witness_EncoderCount :
    let s := chained.onChn fun c => { c with rest := 9996 }
    (s.quiet = true ∧ 0 < s.chn.config.loopLength ∧ s.chn.state ≠ .parked ∧ s.chn.state = .halted ∧
      s.chn.config.configured = true ∧ circDist s.chn.config.loopLength 1 s.chn.rest ≤ s.chn.config.times.drift) ∧
    (creeping.quiet = true ∧ 0 < creeping.chn.config.loopLength ∧ creeping.chn.state = .creeping ∧
      creeping.chn.braked = false ∧ creeping.chn.plan.map (fun p => decide ((p.brakeAt : Int) ≤ p.advance + 1)) = some true ∧
      creeping.sup.settles = true) ∧
    (parked.quiet = true ∧ parked.chn.state = .parked ∧ circDist parked.chn.config.loopLength 801 parked.chn.rest ≤ 5 ∧
      parked.chn.config.times.drift = 5 ∧ foulingLandings config 801 [0] = []) ∧
    let p := parked.onChn fun c => { c with x := 279, rest := 279, park := some ⟨[0], 279⟩ }
    p.quiet = true ∧ p.chn.state = .parked ∧ p.chn.config.configured = true ∧ circDist 10000 280 p.chn.rest ≤ 5 ∧
      foulingLandings config 280 [0] ≠ [] ∧ p.chn.clearance = [] ∧ p.alone = true := by decide

theorem test_witness_IndexCorrectionKeepsPlan :
    let near (s : State) : Prop :=
      circDist s.chn.config.loopLength s.chn.x 0 ≤ (s.chn.config.geometry.map (·.indexTolerance)).getD 0
    let parkedFor (position : Nat) : State := parked.onChn fun c => { c with
      config := { c.config with landings := c.config.landings.set 0 (some ⟨1, true, position⟩) }
      x := 20, rest := 19, park := some ⟨[0], 20⟩ }
    (let s := stopping.onChn fun c => { c with x := 9980 }
     s.quiet = true ∧ s.chn.known = true ∧ s.chn.state ≠ .homing ∧ s.chn.state ≠ .parked ∧ near s) ∧
    (let s := parkedFor 300
     s.quiet = true ∧ s.chn.known = true ∧ s.chn.state = .parked ∧ near s ∧ s.chn.park = some ⟨[0], 20⟩ ∧
      foulingLandings s.chn.config 0 [0] = []) ∧
    (let s := parkedFor 980
     s.quiet = true ∧ s.chn.known = true ∧ s.chn.state = .parked ∧ near s ∧ s.chn.park = some ⟨[0], 20⟩ ∧
      foulingLandings s.chn.config 0 [0] ≠ [] ∧ s.chn.clearance = [] ∧ s.alone = true) := by decide

theorem test_witness_IndexAndTagReader :
    (homing.quiet = true ∧ homing.chn.state = .homing ∧ homing.alone = true) ∧
    (let s := running.onChn fun c => { c with known := false }
     s.quiet = true ∧ s.chn.state ≠ .homing ∧ s.chn.known = false) ∧
    (let s := running.onChn fun c => { c with x := 480, lastCar := some 0 }
     s.quiet = true ∧ s.chn.known = true ∧ s.chn.config.geometry = some geometry ∧
      circDist geometry.pitch s.chn.x geometry.tagReader ≤ geometry.tagTolerance ∧ s.chn.lastForward = true ∧
      (0 + (geometry.cars - 1)) % geometry.cars % 4 = 1) ∧
    let s := running.onChn fun c => { c with x := 520 }
    s.quiet = true ∧ s.chn.known = true ∧ circDist geometry.pitch s.chn.x geometry.tagReader ≤ geometry.tagTolerance ∧
      s.chn.lastCar = none ∧ 0 < geometry.cars ∧
      ∀ j < geometry.cars, j ≠ 0 → circDist (geometry.cars * geometry.pitch) (s.chn.x + 0 * geometry.pitch) geometry.tagReader <
        circDist (geometry.cars * geometry.pitch) (s.chn.x + j * geometry.pitch) geometry.tagReader := by decide

theorem test_witness_WindowEnd :
    (∀ s ∈ [window .halted 400, window .running 10, window .running 9, window .starting 9, window .starting 10,
        window .braking 0, stopped],
      s.quiet = true ∧ s.chn.config.configured = true ∧ s.chn.windowCount ≤ s.chn.config.times.overspeedLimit ∧
        s.alone = true ∧ s.chn.keyOn = false ∧ s.chn.clearance = [] ∧ s.chn.stallRun < 2) ∧
    chained.chn.config.times.stallLimit = 10 ∧
    stopped.chn.state = .stopping ∧ stopped.chn.windowCount = 0 ∧
      stopped.chn.plan.map (fun p => (p.braked, p.set, p.late)) = some (true, [0], []) ∧
      (∀ k < stopped.sht.table.length, ∀ r ∈ stopped.sht.get? k, r.state ≠ .awaitClear) ∧
      accepts stopped.chn.config stopped.chn.x [0] = true := by decide

theorem test_witness_Trips :
    let slow := (window .running 9).onChn fun c => { c with stallRun := 2 }
    let drifted := chained.onChn fun c => { c with rest := 9995 }
    let driftedBack := parked.onChn fun c => { c with rest := 804 }
    let tooFar := running.onChn fun c => { c with x := 30 }
    let misread := running.onChn fun c => { c with x := 480, lastCar := some 0 }
    let sillAway := running.onChn fun c => { c with x := 0 }
    let overrun := creeping.onChn fun c => { c with homingTimer := .running 1 }
    let foul := (still .creeping 300 chained).onChn fun c => { c with creepCount := 1 }
    let failed := failing 1 .shutter (landing running .opened)
    let closedLoop := tripped.onChn fun c => { c with windowCount := 401 }
    (∀ s ∈ [window .starting 0, homing, window .halted 401, slow, drifted, driftedBack, tooFar, misread, sillAway, overrun,
        foul, failed],
      s.quiet = true ∧ s.chn.state ≠ .tripped ∧ s.chn.request = none ∧ s.alone = true ∧ s.chn.safetyClosed = true ∧
        s.chn.config.configured = true ∧ 0 < s.chn.config.loopLength) ∧
    ((window .starting 0).chn.state = .starting ∧ (window .starting 0).chn.runupTimer.isRunning = true) ∧
    (homing.chn.state = .homing ∧ homing.chn.homingTimer.isRunning = true) ∧
    (overrun.chn.state = .creeping ∧ overrun.chn.homingTimer.isRunning = true) ∧
    (tooFar.chn.known = true ∧ tooFar.chn.state ≠ .homing ∧
      (tooFar.chn.config.geometry.map (·.indexTolerance)).getD 0 < circDist 10000 30 0) ∧
    (misread.chn.config.geometry = some geometry ∧ misread.chn.lastCar = some 0 ∧ (0 + 9) % 10 % 4 ≠ (2#2).toNat ∧
      geometry.tagTolerance < circDist geometry.pitch sillAway.chn.x geometry.tagReader) ∧
    chained.chn.config.times.overspeedLimit < 401 ∧
    (slow.chn.windowCount < slow.chn.config.times.stallLimit ∧ slow.chn.stallRun = 2) ∧
    (foul.chn.state = .creeping ∧ foul.chn.windowCount = 0 ∧ foul.chn.creepCount ≠ 0 ∧
      foul.chn.plan = some { plan with braked := true } ∧ accepts config 300 [0] = false) ∧
    (failed.chn.state.moving = true ∧ failed.flp.polled = some 1 ∧
      failed.flp.node? 1 = some ⟨.shutter, .present, 2, some ⟨0, 0⟩⟩ ∧
      failed.sht.get? 3 = some (at' (.landing 0) .opened) ∧ failed.flr.waitsFor 1 = false ∧
      ∀ k < failed.sht.table.length, ∀ q ∈ failed.sht.get? k, q.config.node = 1 → k = 3) ∧
    drifted.chn.config.times.drift < circDist drifted.chn.config.loopLength 1 drifted.chn.rest ∧
    (driftedBack.chn.state = .parked ∧ 4 < circDist driftedBack.chn.config.loopLength 799 driftedBack.chn.rest) ∧
    (tripped.quiet = true ∧ tripped.chn.state = .tripped ∧ tripped.chn.trip ≠ none ∧ tripped.chn.safetyClosed = true ∧
      closedLoop.quiet = true ∧ closedLoop.chn.config.times.overspeedLimit < closedLoop.chn.windowCount) ∧
    chained.quiet = true ∧ chained.chn.state ≠ .starting ∧ chained.chn.homingTimer.isRunning = false ∧
      (chained.onChn fun c => { c with safetyClosed := false }).quiet = true := by decide

theorem test_witness_CreepsAndParks :
    (∀ s ∈ [still .creeping 800 chained, still .stopping 300 (dipped chained), still .stopping 300 (crowded chained),
        still .creeping 300 (dipped chained)],
      s.quiet = true ∧ s.chn.windowCount = 0 ∧ s.alone = true ∧ s.chn.request = none ∧ s.sup.withoutChain = true ∧
        s.chn.plan = some { plan with braked := true } ∧ s.chn.creepCount = 0 ∧
        ∀ k < s.sht.table.length, ∀ r ∈ s.sht.get? k, r.state ≠ .awaitClear) ∧
    foulingLandings config 800 [0] = [] ∧ foulingLandings config 300 [0] ≠ [] ∧ plan.set = [0] ∧
    (dipped chained).sup.holds 2 = true ∧ (crowded chained).sup.full .chain 2 = true ∧ chained.chn.group = 2 ∧
    ∀ x ∈ [300, 800],
      let s := (waiting ⟨.chain, .chain .creep⟩ (still .halted x chained)).onChn fun c =>
        { c with plan := none, request := some .creep, creepSet := [0] }
      s.quiet = true ∧ s.alone = true ∧ s.sup.mode = .steady ∧ s.chn.request = some .creep ∧ s.chn.state = .halted ∧
        s.chn.safetyClosed = true ∧ s.sht.permit = true ∧
        (∀ k ∈ s.sup.groups, ∀ m ∈ k.moves, m.owner = .chain → m.active = false) ∧
        s.sup.groups[2]? =
          some ⟨⟨2, 3⟩, [] ++ ⟨.shutter 4, .raise, .settling 1⟩ :: [], [⟨.chain, .chain .creep⟩]⟩ := by decide

theorem test_witness_ClearanceDuty :
    (∀ s ∈ [chained.onChn (fun c => { c with x := 800 }), still .halted 300 (dipped chained), parked,
        dipped (parked.onChn fun c => { c with x := 300, rest := 300, park := some ⟨[], 300⟩ }), stopping, stopped,
        still .creeping 800 chained],
      s.ready = true ∧ s.chn.config.configured = true ∧ s.chn.known = true ∧ s.alone = true ∧ s.chn.request = none ∧
        s.sup.withoutChain = true ∧ (∀ k < s.sht.table.length, ∀ r ∈ s.sht.get? k, r.state ≠ .awaitClear) ∧
        ∀ k < 16, (1).testBit k = true → (s.chn.config.landings[k]?).join ≠ none) ∧
    accepts config 800 [0] = true ∧ accepts config 300 [0] = false ∧ accepts config 800 [] = true ∧
    (dipped chained).sup.holds 2 = true ∧ parked.chn.park = some ⟨[0], 800⟩ ∧
    (stopping.chn.plan.map (·.braked) = some false ∧ stopped.chn.plan.map (·.braked) = some true) ∧
    (let s := (still .halted 300 (dipped chained)).onChn fun c => { c with safetyClosed := false, clearance := [0] }
     s.quiet = true ∧ s.alone = true ∧ s.chn.state = .halted ∧ s.chn.known = true ∧ s.chn.request = none ∧
      s.chn.safetyClosed = false ∧ s.sht.permit = true ∧ s.sup.withoutChain = true ∧ s.sup.holds s.chn.group = true) ∧
    let s := (landing chained .awaitClear).onChn fun c => { c with x := 800, safetyClosed := false, clearance := [0] }
    s.quiet = true ∧ s.alone = true ∧ s.chn.state = .halted ∧ s.chn.known = true ∧ s.chn.request = none ∧
      s.sht.permit = true ∧ s.sup.withoutChain = true ∧ s.sht.get? 3 = some (at' (.landing 0) .awaitClear) ∧
      (at' (.landing 0) .awaitClear).landing? = some 0 ∧ (at' (.landing 0) .awaitClear).config.warning ≠ 0 ∧
      ∀ k < s.sht.table.length, ∀ q ∈ s.sht.get? k, q.state = .awaitClear → k = 3 := by decide

theorem test_witness_InspectionInputs :
    let idle := (inState .inspectionIdle).onChn fun c => { c with keyOn := true }
    let up := idle.onChn fun c => { c with upHeld := true }
    let opened := chained.onChn fun c => { c with safetyClosed := false }
    (∀ s ∈ [chained, idle, dipped idle, inspectionRun, up, opened],
      s.quiet = true ∧ s.alone = true ∧ s.chn.request = none ∧ s.chn.config.configured = true ∧ s.chn.clearance = [] ∧
        s.sht.permit = true ∧ s.sup.withoutChain = true) ∧
    chained.chn.keyOn = false ∧ idle.chn.state = .inspectionIdle ∧ idle.chn.upHeld = false ∧
      idle.chn.downHeld = false ∧ idle.chn.safetyClosed = true ∧ idle.sup.admits idle.chn.group = true ∧
      (dipped idle).sup.holds idle.chn.group = true ∧ inspectionRun.chn.state = .inspectionRun ∧
      inspectionRun.chn.reverse = true ∧ inspectionRun.chn.downHeld = true ∧ up.chn.upHeld = true ∧
      opened.chn.safetyClosed = false := by decide

/-- The chain in a state with a request in its group's queue. -/
def asking (r : ChainRequest) (s : State) : State :=
  (waiting ⟨.chain, .chain r.kind⟩ s).onChn fun c => { c with request := some r }

theorem test_witness_InspectionInputs_moving :
    let upRun := inspectionRun.onChn fun c => { c with reverse := false, upHeld := true, downHeld := false }
    (∀ s ∈ [running, stopping, creeping, homing, inState .starting, inState .braking, tripped, inspectionRun, upRun],
      s.quiet = true ∧ s.alone = true ∧ s.chn.request = none ∧ s.chn.config.configured = true) ∧
    (∀ s ∈ [running, stopping, creeping, homing, inState .starting, inState .braking, tripped], s.chn.keyOn = false) ∧
    running.chn.state = .running ∧ stopping.chn.state = .stopping ∧ creeping.chn.state = .creeping ∧
      homing.chn.state = .homing ∧ tripped.chn.state = .tripped ∧ inspectionRun.chn.keyOn = true ∧
      inspectionRun.chn.upHeld = false ∧ inspectionRun.chn.downHeld = true ∧ upRun.chn.state = .inspectionRun ∧
      upRun.chn.reverse = false ∧ upRun.chn.upHeld = true ∧ upRun.chn.downHeld = false := by decide

theorem test_witness_InspectionInputs_asked :
    let idle := (inState .inspectionIdle).onChn fun c => { c with keyOn := true }
    let up := asking .inspectUp (idle.onChn fun c => { c with upHeld := true })
    let down := asking .inspectDown (idle.onChn fun c => { c with downHeld := true })
    (∀ s ∈ [asking .start chained, asking .start parked, up, down],
      s.quiet = true ∧ s.alone = true ∧ s.chn.request ≠ none ∧ s.sup.waitsOnlyIn .chain s.chn.group = true) ∧
    (∀ s ∈ [asking .start chained, asking .start parked],
      (s.chn.state = .halted ∨ s.chn.state = .parked) ∧ s.chn.config.configured = true ∧ s.chn.keyOn = false) ∧
    (∀ s ∈ [up, down], s.chn.state = .inspectionIdle ∧ s.chn.keyOn = true ∧ s.chn.clearance = []) ∧
    up.chn.upHeld = true ∧ up.chn.downHeld = false ∧ up.chn.request = some .inspectUp ∧
      down.chn.upHeld = false ∧ down.chn.downHeld = true ∧ down.chn.request = some .inspectDown := by decide

theorem test_witness_DropShutter :
    (chained.ready = true ∧ 47 < 48 ∧ 47 ≤ 47 ∧ chained.sht.get? 47 = none) ∧
    (∀ st ∈ [ShutterState.fault, .unseen, .closed, .awaitClear, .warning, .descending, .arrested, .opened, .partOpen],
      (hall st).ready = true ∧ (hall st).sht.get? 3 = some (at' .hall st) ∧ (at' .hall st).state = st ∧
        (at' .hall st).landing? = none) ∧
    ((landing parked .opened).ready = true ∧ (landing parked .opened).sht.get? 3 = some (at' (.landing 0) .opened) ∧
      (landing parked .opened).chn.state = .parked ∧ (landing parked .opened).chn.park = some ⟨[0], 800⟩) ∧
    let s := landing tripped .partOpen
    s.ready = true ∧ s.sht.get? 3 = some (at' (.landing 0) .partOpen) ∧ s.chn.state = .tripped ∧
      s.fir.condition = .normal ∧ s.fir.held = [] ∧ s.chn.clearance.contains 0 = false := by decide

/-- Shutter 3 in a state with its raise in the queue of its group, or running, at a position given by the bottom limit. -/
def asked (s : State) (kind : ShutterKind) (st : ShutterState) (bottom : Bool) : State :=
  waiting ⟨.shutter 3, .raise⟩ (withShutter (served s) { at' kind st with inputs := some ⟨false, bottom, false, true⟩ })

theorem test_witness_DropShutter_raised :
    (∀ s ∈ [asked chained .hall .waitSupply true, asked chained .hall .waitSupply false, asked chained .hall .raising false,
        asked parked (.landing 0) .waitSupply false, asked parked (.landing 0) .raising false,
        asked tripped (.landing 0) .waitSupply false, asked tripped (.landing 0) .raising false],
      s.ready = true ∧ s.chn.creepRefused = false ∧ s.sup.waitsOnlyIn (.shutter 3) 2 = true ∧ s.sup.settles = true ∧
        s.flr.waitsFor 1 = false ∧ s.fir.condition = .normal ∧ s.fir.held = [] ∧ s.chn.clearance.contains 0 = false) ∧
    (∀ r ∈ (asked chained .hall .waitSupply true).sht.get? 3,
      r.state = .waitSupply ∧ r.position = .bottom ∧ r.config.group = 2 ∧ r.config.floor = 1 ∧ r.landing? = none) ∧
    (∀ r ∈ (asked parked (.landing 0) .waitSupply false).sht.get? 3,
      r.state = .waitSupply ∧ r.position ≠ .bottom ∧ r.landing? = some 0) ∧
    (∀ r ∈ (asked tripped (.landing 0) .raising false).sht.get? 3, r.state = .raising ∧ r.landing? = some 0) ∧
    (asked parked (.landing 0) .raising false).chn.park = some ⟨[0], 800⟩ ∧
      (asked parked (.landing 0) .raising false).chn.state = .parked ∧
      (asked tripped (.landing 0) .raising false).chn.state = .tripped := by decide

theorem test_witness_ForceDropAndClearFault :
    (∀ s ∈ [hall .awaitClear, landing chained .opened, landing running .awaitClear, landing chained .awaitClear,
        hall .fault], s.ready = true) ∧
    (hall .awaitClear).sht.get? 3 = some (at' .hall .awaitClear) ∧
    (landing chained .opened).sht.get? 3 = some (at' (.landing 0) .opened) ∧
    ((landing running .awaitClear).sht.get? 3 = some (at' (.landing 0) .awaitClear) ∧
      (landing running .awaitClear).chn.stationary = false) ∧
    ((landing chained .awaitClear).sht.get? 3 = some (at' (.landing 0) .awaitClear) ∧
      (landing chained .awaitClear).chn.stationary = true ∧ (landing chained .awaitClear).peaceful = true ∧
      (at' (.landing 0) .awaitClear).config.warning ≠ 0) ∧
    (hall .fault).sht.get? 3 = some (at' .hall .fault) ∧ (hall .fault).flp.isPresent 1 = true ∧
      (at' .hall .fault).position ≠ .both ∧ (at' .hall .fault).melted = false ∧
      (hall .fault).flr.isIn 1 .fire = false ∧ (hall .fault).flr.waitsFor 1 = false := by decide

theorem test_witness_RaiseShutter :
    (let s := fired .alerting (landing chained .closed)
     s.ready = true ∧ s.sht.get? 3 = some (at' (.landing 0) .closed) ∧
      fireLocked s.flr s.fir.condition (at' (.landing 0) .closed) = true) ∧
    (∀ st ∈ [ShutterState.opened, .unseen, .descending, .arrested, .waitSupply, .raising, .fault, .warning, .closed, .partOpen],
      (hall st).ready = true ∧ (hall st).sht.get? 3 = some (at' .hall st) ∧
        fireLocked (hall st).flr .normal (at' .hall st) = false ∧ (hall st).flr.waitsFor 1 = false) ∧
    (let s := landing running .closed
     s.ready = true ∧ s.chn.state.moving = true ∧ (at' (.landing 0) .closed).isLanding = true) ∧
    (dipped (hall .closed)).ready = true ∧ (dipped (hall .closed)).sup.holds 2 = true ∧ (hall .closed).sup.admits 2 = true ∧
      (hall .closed).chn.creepRefused = false ∧
      ∀ g ∈ (hall .closed).sup.groups[2]?, ∀ q ∈ g.queue, q.owner ≠ .shutter 3 := by decide

theorem test_witness_ShutterTimers :
    (∀ st ∈ [ShutterState.warning, .arrested, .descending], (hall st).quiet = true ∧
      (hall st).sht.get? 3 = some (at' .hall st) ∧ (hall st).flr.waitsFor 1 = false) ∧
    (at' .hall .warning).warningTimer.isRunning = true ∧ (at' .hall .arrested).clearTimer.isRunning = true ∧
    (at' .hall .descending).descentTimer.isRunning = true ∧
    (let s := fired .alerting (landing chained .arrested)
     s.quiet = true ∧ s.sht.get? 3 = some (at' (.landing 0) .arrested) ∧
      (at' (.landing 0) .arrested).holdTimer.isRunning = true ∧
      fireLocked s.flr s.fir.condition (at' (.landing 0) .arrested) = true) ∧
    (∀ s ∈ [hall .arrested, landing chained .arrested, dipped (landing chained .arrested), crowded (hall .arrested)],
      s.quiet = true ∧ s.flr.waitsFor 1 = false ∧ s.chn.clearance = [] ∧ s.chn.creepRefused = false ∧
        s.chn.state.moving = false ∧
        (∀ r ∈ s.sht.get? 3, r.state = .arrested ∧ r.holdTimer.isRunning = true ∧ r.config.group = 2 ∧
          fireLocked s.flr s.fir.condition r = false) ∧
        ∀ g ∈ s.sup.groups[2]?, ∀ q ∈ g.queue, q.owner ≠ .shutter 3) ∧
    ((crowded (hall .arrested)).sup.full (.shutter 3) 2 = true ∧ (landing chained .arrested).sup.admits 2 = true ∧
      (dipped (landing chained .arrested)).sup.holds 2 = true) ∧
    (raising .running).quiet = true ∧ (raising .running).sht.get? 3 = some (at' .hall .raising) ∧
      (at' .hall .raising).raiseTimer.isRunning = true ∧ (raising .running).sup.settles = true := by decide

theorem test_witness_MainsDip :
    ((raising .running).quiet = true ∧ (raising .running).sup.mode ≠ .dipped ∧
     (raising .running).sup.order.length ≤ 32 ∧
     (dipped (raising .paused)).quiet = true ∧ (dipped (raising .paused)).sup.mode = .dipped) ∧
    (let restoring (s : State) : State := s.onSup fun u => { u with mode := .restoring, restartTimer := .running 1 }
     let paused : Shutter := { at' .hall .raising with paused := true, raiseTimer := .frozen 9 }
     (let s := withShutter (restoring (raising .paused)) paused
      s.quiet = true ∧ s.sup.mode = .restoring ∧ s.sup.restartTimer.isRunning = true ∧
       s.sup.oldestPaused = some (.shutter 3) ∧ s.sht.get? 3 = some paused ∧ paused.state = .raising ∧
       paused.paused = true) ∧
     (let s := restoring chained
      s.quiet = true ∧ s.sup.mode = .restoring ∧ s.sup.restartTimer.isRunning = true ∧ s.sup.oldestPaused = none ∧
       s.sup.groups.length = 8 ∧ ∀ g ∈ s.sup.groups, g.queue = []) ∧
     (raising (.settling 1)).quiet = true ∧
       (raising (.settling 1)).sup.groups[2]? = some ⟨⟨2, 3⟩, [] ++ ⟨.shutter 3, .raise, .settling 1⟩ :: [], []⟩) := by decide

theorem test_witness_AdmissionAndAbandon :
    let lowered (kind : ShutterKind) : Shutter :=
      { at' kind .waitSupply with inputs := some ⟨false, true, false, true⟩ }
    let asks (s : State) (r : Shutter) : State := waiting ⟨.shutter 3, .raise⟩ (withShutter (served s) r)
    (∀ s ∈ [asks chained (at' .hall .waitSupply), asks running (at' (.landing 0) .waitSupply),
        asks (fired .alerting chained) (lowered (.landing 0))],
      s.quiet = true ∧ s.sup.mode = .steady ∧ s.chn.creepRefused = false ∧ s.flr.waitsFor 1 = false ∧
        (∀ k ∈ s.sup.groups, ∀ m ∈ k.moves, m.owner ≠ .shutter 3) ∧
        s.sup.groups[2]? = some ⟨⟨2, 3⟩, [] ++ ⟨.shutter 4, .raise, .settling 1⟩ :: [], [⟨.shutter 3, .raise⟩]⟩) ∧
    fireLocked (served chained).flr .normal (at' .hall .waitSupply) = false ∧ running.chn.state.moving = true ∧
    fireLocked (served running).flr .normal (at' (.landing 0) .waitSupply) = false ∧
    (fireLocked (served chained).flr .alerting (lowered (.landing 0)) = true ∧ (lowered (.landing 0)).position = .bottom) ∧
    (let s := (waiting ⟨.chain, .chain .start⟩ chained).onChn fun c => { c with safetyClosed := false, request := some .start }
     s.quiet = true ∧ runPermission s.chn s.sht = false ∧ ∀ k ∈ s.sup.groups, ∀ m ∈ k.moves, m.owner ≠ .chain) ∧
    (let s := (waiting ⟨.chain, .chain .start⟩ chained).onChn fun c => { c with request := some .start }
     s.quiet = true ∧ s.alone = true ∧ s.chn.state = .halted ∧ s.chn.safetyClosed = true ∧ s.sht.permit = true ∧
      s.chn.clearance = []) ∧
    let s := restoring (asks chained (at' .hall .waitSupply))
    s.quiet = true ∧ s.sup.mode = .restoring ∧ s.sup.restartTimer.isRunning = true ∧ s.sup.oldestPaused = none ∧
      s.sup.groups.length = 8 ∧ s.chn.creepRefused = false ∧ s.sht.get? 3 = some (at' .hall .waitSupply) ∧
      (s.sup.groups[2]?).map (fun r => (r.queue, decide (r.moves.length < r.config.capacity))) =
        some ([⟨.shutter 3, .raise⟩], true) ∧
      ∀ k < s.sup.groups.length, k ≠ 2 → ∀ q ∈ s.sup.groups[k]?, q.queue = [] := by decide

theorem test_witness_SetFloorState :
    (served chained).ready = true ∧ (served chained).cal.calls = [] ∧ (served chained).flr.table[8]? = none ∧
      (served chained).flr.table[1]? = some ⟨⟨[4], 3, 5⟩, .trading, 0, none, false⟩ ∧ (3 ≠ 0 ∧ 3 ≠ 2) := by decide

theorem test_witness_CallOrders :
    (let s := manned (served chained)
     s.ready = true ∧ 0 ≤ 3 ∧ s.cal.station? 6 = some (StationConfig.fresh ⟨2, 1, [some 2, none, none, none]⟩) ∧
      s.flp.isPresent 2 = true ∧ s.flr.table[1]? = some ⟨⟨[4], 3, 5⟩, .trading, 0, none, false⟩ ∧
      s.cal.teams[2]? = some ⟨[9], 0, 1⟩ ∧ (∀ r ∈ s.cal.staff[9]?, r.onDuty = false ∨ r.assigned ≠ none) ∧
      s.cal.calls.length < 32 ∧ 1 = s.cal.number ∧ ∀ r ∈ s.cal.calls, r.number ≠ 1) ∧
    (let s := (manned (served chained)).onCal fun c => { c with calls := [call 4 .urgent] }
    s.ready = true ∧ (∀ r ∈ s.cal.calls, r.number ≠ 5) ∧ s.cal.calls = [] ++ call 4 .urgent :: [] ∧ s.snd.queue = [] ∧
      s.snd.playing = []) ∧
    (let s := (manned (served chained)).onCal fun c => { c with staff := c.staff.set 9 ⟨3, true, none⟩ }
     s.ready = true ∧ s.cal.staff[9]? = some ⟨3, true, none⟩ ∧ s.cal.firstFree ⟨[9], 0, 1⟩ 0 9 = true ∧
      s.cal.teams[2]? = some ⟨[9], 0, 1⟩ ∧ 1 = s.cal.number ∧ s.snd.queue = [] ∧ s.snd.reservations = [] ∧
      s.snd.free (s.flr.zones 1) = true) ∧
    (∀ s ∈ [placed .normal .awaitingAck 0 0 .stopped false, placed .urgent .awaitingAck 0 0 (.running 3) false,
        placed .normal .awaitingAck 0 0 (.running 3) true, placed .normal .unassigned 0 0 (.running 3) false],
      s.ready = true ∧ s.flp.isPresent 2 = true ∧
        ((s.cal.station? 6).bind fun st => (st.openCall[0]?).join) = some 4 ∧
        (s.cal.calls.map (·.number)) = [4]) := by decide

theorem test_witness_CallTimers :
    (let s := (manned (served (sounds chained))).onCal fun c => { c with calls := [call 4 .normal] }
     s.quiet = true ∧ s.cal.station? 6 = some (StationConfig.fresh ⟨2, 1, [some 2, none, none, none]⟩) ∧
       s.cal.calls = [] ++ call 4 .normal :: [] ∧ (call 4 .normal).phase = .awaitingAck ∧
       (call 4 .normal).roundTimer.isRunning = true ∧ (call 4 .normal).rounds < s.cal.timing.rounds ∧ s.snd.queue = [] ∧
       s.snd.free (s.flr.zones (s.cal.floorOf (call 4 .normal))) = false) ∧
    (let s := (placed .normal .awaitingAck 3 0 .stopped false).onCal fun c => { c with staff := c.staff.set 9 ⟨3, true, some 4⟩ }
     s.quiet = true ∧ (s.cal.calls.map fun r => (r.phase, r.roundTimer.isRunning, r.member)) = [(.awaitingAck, true, some 9)] ∧
      s.cal.timing.rounds = 3 ∧ 0 < s.cal.timing.escalations ∧
      ({ s.cal with staff := s.cal.staff.set 9 ⟨3, true, none⟩ } : Calls).firstFree ⟨[9], 0, 1⟩ 0 9 = true ∧
      s.snd.queue = [] ∧ s.snd.reservations = [] ∧ s.snd.free (s.flr.zones 1) = true) ∧
    (let s := placed .urgent .awaitingAck 3 1 .stopped false
     s.quiet = true ∧ (s.cal.calls.map fun r => (r.phase, r.member)) = [(.awaitingAck, some 9)] ∧
      s.cal.timing.escalations ≤ 1 ∧ s.snd.queue = [] ∧ s.snd.playing = []) ∧
    (let s := (placed .normal .unassigned 0 0 .stopped false).onCal fun c => { c with staff := c.staff.set 9 ⟨3, true, none⟩ }
     s.configReady = true ∧ (s.cal.calls.map fun r => (r.phase, r.cls)) = [(.unassigned, .normal)] ∧
      (s.cal.staff[9]?).map (fun m => (m.onDuty, m.assigned)) = some (true, none) ∧ s.snd.queue = [] ∧
      s.snd.reservations = [] ∧ s.snd.free (s.flr.zones 1) = true) ∧
    let s := placed .normal .unassigned 0 0 .stopped false
    s.configReady = true ∧ (s.cal.calls.map (·.phase)) = [.unassigned] ∧
      s.flr.table[1]? = some ⟨⟨[4], 3, 5⟩, .trading, 0, none, false⟩ ∧ (s.cal.staff[9]?).map (·.onDuty) = some false ∧
      ∀ m ∈ s.cal.staff[9]?, ({ s.cal with staff := s.cal.staff.set 9 { m with onDuty := true } } : Calls).firstFree
        ⟨[9], 0, 1⟩ 0 9 = true := by decide

theorem test_witness_ClockEvents :
    ((cued .waiting).quiet = true ∧ ((cued .waiting).clk.cues[3]?).map (·.phase) = some .waiting ∧
      (cued .waiting).snd.playing = [] ∧ (cued .waiting).snd.reservations.length < 16 ∧
      ((cued .waiting).clk.cues[3]?).map (·.occurrence) = some (some ⟨0, 0⟩)) ∧
    ((cued .reserved).quiet = true ∧ ((cued .reserved).clk.cues[3]?).map (·.phase) = some .reserved ∧
      (cued .reserved).snd.free [4] = true) ∧
    let s := sounds (cued .retrying)
    s.quiet = true ∧ (s.clk.cues[3]?).map (fun q => (q.phase, decide (q.retries < q.config.retryLimit))) = some (.retrying, true) ∧
      s.snd.free [4] = false ∧ s.snd.queue = [] ∧
      (∀ p ∈ s.snd.playing, p.sounding.cls ≠ .callUrgent ∧ p.sounding.cls ≠ .callNormal) ∧
      (s.snd.reservations.find? fun r => r.cue == 3) = some ⟨3, 0, 1, 1, 2, [4]⟩ := by decide

theorem test_witness_CueOccurrences :
    let moved (s : State) (day time : Nat) : State := s.onClk fun c => { c with day := day, time := time }
    let idle := cued .waiting
    let f (enabled : Bool) : CueFields := ⟨enabled, 0, 1, 1, 16, 2, 60, 2⟩
    let chime : Playing := { sounding with sounding := { sounding.sounding with origin := .scheduled 3, stamp := 5 } }
    let chiming (s : State) : State := s.onSnd fun u => { u with playing := [] ++ chime :: [] }
    let spent (s : State) : State := s.onClk fun c => { c with cues := c.cues.map fun q => { q with retries := 2 } }
    let crowd := idle.onSnd fun u =>
      { u with reservations := (List.range 16).map fun k => ⟨k + 4, 0, 1, 1, 2, [1]⟩ }
    nextOccurrence ⟨true, 0, [0], 1, [4], 2, 60, 2⟩ ⟨6, 86100⟩ = some (⟨0, 0⟩, 300) ∧
    (∀ s ∈ [moved idle 6 86000, idle, moved idle 6 86200, chiming (cued .sounding)],
      s.configReady = true ∧ s.clk.isSet = true ∧ s.snd.queue = []) ∧
    ((f true).inRange = true ∧ (f false).inRange = true ∧ (f true).config.enabled = true ∧
      nextOccurrence (f true).config ⟨6, 86000⟩ = some (⟨0, 0⟩, 400) ∧
      nextOccurrence (f true).config ⟨6, 86200⟩ = some (⟨0, 0⟩, 200) ∧
      nextOccurrence (f true).config (Occurrence.next ⟨0, 0⟩) = some (⟨0, 0⟩, 604799)) ∧
    (idle.snd.reservations = [] ∧ idle.snd.playing = [] ∧ (idle.clk.cues[3]?).map (·.phase) = some .waiting) ∧
    (∀ s ∈ [crowd, moved (spent (sounds (cued .reserved))) 0 0, chiming (moved (cued .sounding) 0 5)],
      s.quiet = true ∧ s.clk.isSet = true ∧ s.snd.queue = [] ∧
        ((s.clk.cues[3]?).map fun q => (q.config.enabled, q.config.days, q.occurrence)) =
          some (true, [0], some ⟨0, 0⟩)) ∧
    (crowd.snd.reservations.length = 16 ∧ (∀ r ∈ crowd.snd.reservations, r.cue ≠ 3) ∧
      (Occurrence.inWeek ⟨6, 86100⟩ + 300) % 604800 = Occurrence.inWeek ⟨0, 0⟩) ∧
    (sounds (cued .reserved)).snd.free [4] = false ∧ chime.sounding.cls = .cue ∧
      (Occurrence.inWeek ⟨0, 0⟩ + 5) % 604800 = Occurrence.inWeek ⟨0, 5⟩ := by decide

theorem test_witness_ProgrammeOrders :
    ((∀ s ∈ [chained, served chained, closing chained .sweep, fired .alerting chained], s.ready = true) ∧
     (closing chained .sweep).prg.kind ≠ .none ∧ (fired .alerting chained).fir.condition ≠ .normal ∧
     (chained.prg.kind = .none ∧ chained.fir.condition = .normal ∧ ∀ r ∈ chained.flr.table, r.state ≠ .trading) ∧
     ((served chained).flr.isIn 1 .trading = true ∧ (served chained).snd.silent = true ∧
       (served chained).flr.table.length = 8)) ∧
    ((let s := chained.onFlr fun t => { t with table := t.table.map fun r => { r with state := .trading } }
      s.ready = true ∧ s.prg.kind = .none ∧ s.fir.condition = .normal ∧ ∀ r ∈ s.flr.table, r.state ≠ .shut) ∧
     running.ready = true ∧ running.alone = true ∧ running.flr.isIn 0 .shut = true ∧
       running.chn.config.configured = true ∧ running.chn.clearance = [] ∧ running.chn.state = .running) ∧
    (let s := (withShutter chained (at' .hall .closed)).onPrg fun p => { p with settings := { p.settings with street := 1 } }
     (∀ u ∈ [s, dipped s], u.ready = true ∧ u.prg.kind = .none ∧ u.fir.condition = .normal ∧
       u.chn.state.moving = false ∧ u.sht.table.length = 48 ∧ (openingOrder u.prg.settings.street).head? = some 1 ∧
       u.flr.isIn 1 .shut = true ∧ u.sht.ofFloor 1 = [3] ∧ u.sht.get? 3 = some (at' .hall .closed) ∧
       2 < u.sup.groups.length) ∧
     s.sup.admits 2 = true ∧ s.chn.creepRefused = false ∧ (dipped s).sup.mode ≠ .steady ∧
       ∀ g ∈ (dipped s).sup.groups[2]?, g.queue = []) ∧
    ((let s := (withShutter (closing parked .sweep) (at' (.landing 0) .opened)).onSht fun t =>
        t.set 47 (some (at' .hall .unseen))
      s.ready = true ∧ s.prg.kind = .closing ∧ s.prg.step = some .sweep ∧ s.prg.cursor = some 1 ∧
       s.prg.floors[1]? = some 1 ∧ s.cal.calls = [] ∧ s.flr.isIn 1 .closing = true ∧ s.sht.allClosed 1 = false ∧
       s.sht.table.length = 48 ∧ s.chn.state = .parked ∧ s.chn.park = some ⟨[0], 800⟩ ∧ 0 ∈ [0] ∧
       ∀ n < s.sht.table.length, ∀ q ∈ s.sht.get? n, q.config.floor = 1 → q.state ≠ .waitSupply ∧ q.state ≠ .raising) ∧
     (let s := closing chained .gap1
      s.ready = true ∧ s.prg.kind ≠ .none ∧ s.prg.step = some .gap1 ∧ s.prg.sounding = none) ∧
     chained.ready = true ∧ chained.prg.kind = .none) := ⟨by decide, by decide, by decide, by decide⟩

theorem test_witness_ProgrammeTimers :
    let swept (st : ProgrammeStep) : State :=
      (closing chained st).onCal fun c => { c with calls := [{ call 5 .sweep with origin := .floor 1 }] }
    ((closing chained .gap1).quiet = true ∧ (closing chained .gap1).prg.kind = .closing ∧
      (closing chained .gap1).prg.deadline.isRunning = true ∧ (closing chained .gap1).snd.silent = true ∧
      (closing chained .gap2).snd.silent = true) ∧
    ((swept .sweep).quiet = true ∧ (swept .sweep).prg.cursor = some 1 ∧ (swept .sweep).prg.floors[1]? = some 1 ∧
      (swept .sweep).prg.placingRetry.isRunning = true ∧
      (swept .sweep).flr.table[1]? = some ⟨⟨[4], 3, 5⟩, .closing, 0, none, false⟩ ∧
      ((swept .sweep).cal.calls.find? fun r => r.cls == .sweep && r.origin == .floor 1) ≠ none) ∧
    let s := (swept .dwell).onPrg fun p => { p with cursor := some 0 }
    s.quiet = true ∧ s.prg.step = some .dwell ∧ s.prg.deadline.isRunning = true ∧ s.prg.cursor = some 0 ∧
      s.prg.floors[0 + 1]? = some 1 ∧ s.flr.isIn 1 .closing = true ∧
      (s.cal.calls.find? fun r => r.cls == .sweep && r.origin == .floor 1) ≠ none := by decide

/-- Zone 1 about to be confirmed in a part without a chain configuration. -/
def confirming : State :=
  (fired .normal (served State.reset)).onFir fun f => { f with ackTimer := .stopped, delayTimer := .stopped }

theorem test_witness_ConfirmedAlarmEvacuates :
    let s := confirming
    s.quiet = true ∧ s.fir.zones[1]? = some ⟨[1], .confirming, .running 1⟩ ∧ s.fir.condition = .normal ∧
      s.fir.settings.delay = 0 ∧ s.fir.ackTimer.isRunning = false ∧
      s.flr.table[1]? = some ⟨⟨[4], 3, 5⟩, .trading, 0, none, false⟩ ∧ (∀ r ∈ s.flr.table, r.state ≠ .fire) ∧
      (∀ o ∈ s.sht.table, o = none) ∧ s.cal.calls = [] ∧ s.snd.silent = true ∧ s.prg.kind = .none ∧
      s.chn.state = .halted ∧ s.chn.config.allLandings = [] ∧ s.chn.clearance = [] := by decide

/-- ALERT in zone 7. -/
def alert : Playing :=
  { sounding := { cls := .alert, pattern := 2, zones := [7], repeats := none, origin := .fire, stamp := 0, duration := 0 }
    left := 0, pass := 0, element := 0, elementLeft := 1 }

theorem test_witness_FireTimers :
    (let s := (fired .alerting chained).onSnd fun u => { u with playing := [alert], nextStamp := 1 }
     s.quiet = true ∧ s.fir.condition = .alerting ∧ s.fir.delayTimer.isRunning = true ∧ s.cal.calls = [] ∧
      s.snd.queue = [] ∧ (∀ p ∈ s.snd.playing, p.sounding.cls = .alert ∧ ∃ z < 8, z ∈ p.sounding.zones) ∧
      s.fir.held = (if s.chn.cannotPark then s.chn.clearance else [])) ∧
    ((fired .evacuating chained).quiet = true ∧ (fired .evacuating chained).fir.ackTimer.isRunning = true ∧
      (fired .evacuating chained).fir.pulseTimer.isRunning = true) ∧
    chained.quiet = true ∧ chained.fir.ackTimer.isRunning = false ∧ chained.fir.pulseTimer.isRunning = false := by decide

theorem test_witness_FireOrders :
    (∀ c ∈ [FireCondition.normal, .alerting, .evacuating, .silenced],
      let s := fired c (served chained)
      s.ready = true ∧ s.fir.condition = c ∧ s.cal.calls = [] ∧ s.snd.queue = [] ∧
        s.fir.held = (if s.chn.cannotPark then s.chn.clearance else []) ∧ s.fir.heldWait = false ∧ s.prg.kind = .none ∧
        s.flr.table.length = 8 ∧ ∀ n < s.fir.inputs.length, ∀ d ∈ s.fir.input? n, d.state ≠ .alarm) ∧
    let s := (fired .evacuating (served chained)).onFir fun f =>
      { f with inputs := f.inputs.set 63 (some ⟨⟨3, 2, 1, true⟩, .alarm⟩) }
    s.ready = true ∧ s.fir.condition ≠ .normal ∧ 63 < s.fir.inputs.length ∧
      (∀ k < 63, ∀ d ∈ s.fir.input? k, d.state ≠ .alarm) ∧ s.fir.input? 63 = some ⟨⟨3, 2, 1, true⟩, .alarm⟩ := by decide

theorem test_witness_PollSlot :
    chained.quiet = true ∧ chained.flp.configuredSet = [] ∧ (served chained).quiet = true ∧
      (let s := (served chained).onFlp fun f => { f with ordinary := some 3 }
       1 ∈ s.flp.configuredSet ∧ (∀ b ∈ s.flp.configuredSet, b ≤ 3) ∧ ∀ b ∈ s.flp.configuredSet, 1 ≤ b) ∧
      let s := (raising .running).onFlp fun f => { f with phase := 3 }
      s.quiet = true ∧ s.motionSet = [1] ∧ s.flp.motion = none := by decide

theorem test_witness_PollOutcomes :
    let polled (a : Nat) : State := (served chained).onFlp fun f => { f with polled := some a }
    (∀ a ∈ [1, 2, 3], (polled a).quiet = true ∧ (polled a).flp.polled = some a) ∧
    (crc8 [2#8, 1#8, 0#8] = 0xC3#8 ∧ (polled 2).flp.node? 2 = some ⟨.station, .present, 2, some ⟨1, 0⟩⟩ ∧
      nodeNamed (polled 2) 2 = false) ∧
    (let s := (polled 2).onFlp fun f => { f with nodes := f.nodes.set 1 (some ⟨.station, .lost, 3, none⟩) }
     s.quiet = true ∧ s.flp.polled = some 2 ∧ s.flp.node? 2 = some ⟨.station, .lost, 3, none⟩) ∧
    (polled 3).flp.node? 3 = some ⟨.detector, .present, 0, some ⟨0, 0⟩⟩ ∧
      (polled 1).flp.node? 1 = some ⟨.shutter, .present, 1, some ⟨8, 8⟩⟩ ∧ chained.flp.polled = none := by decide

theorem test_witness_ShutterInputs :
    let cases : List (ShutterState × Byte × Byte) :=
      [(.opened, 9, 8), (.descending, 8, 10), (.descending, 8, 12), (.arrested, 12, 8), (.raising, 8, 9), (.closed, 10, 2),
        (.opened, 9, 1), (.fault, 8, 9), (.unseen, 8, 9)]
    ∀ c ∈ cases,
      let r : Shutter :=
        { at' .hall c.1 with inputs := if c.1 = .unseen then none else some (inputsOf c.2.1) }
      let s := imaged (at' .hall c.1) c.2.1
      let o := inputsOf c.2.1
      let i := inputsOf c.2.2
      s.quiet = true ∧ s.flp.polled = some 1 ∧ s.flp.node? 1 = some ⟨.shutter, .present, 1, some ⟨c.2.1, 8⟩⟩ ∧
        s.sht.at? 1 0 = some 3 ∧ s.sht.at? 1 1 = none ∧ s.sht.get? 3 = some r ∧ r.isLanding = false ∧
        s.flr.waitsFor 1 = false ∧ s.sup.settles = true ∧ s.flr.isIn 1 .fire = false ∧
        (match c.1 with
        | .opened => o.position == .top && (i.position == .between && i.link == o.link || i.position == .top && !i.link)
        | .descending => i.position == .bottom && !i.edge ||
            i.position == o.position && i.edge && !o.edge && !r.edgeIgnored && decide (r.arrests < 3)
        | .arrested => o.edge && !i.edge && i.position == o.position
        | .raising => o.position == .between && i.position == .top && i.link == o.link
        | .closed => i.position == o.position && i.edge == o.edge && o.link && !i.link
        | .fault => i.position != o.position && i.link == o.link
        | .unseen => r.inputs.isNone && i.position == .top && i.link
        | .awaitClear | .warning | .partOpen | .waitSupply => false) = true := by decide

theorem test_witness_StationAndDetectorInputs :
    let station : Station := StationConfig.fresh ⟨2, 1, [some 2, none, none, none]⟩
    let polled (a : Nat) (s : State) : State := s.onFlp fun f => { f with polled := some a }
    let calling := (manned (served chained)).onCal fun c => { c with calls := [] ++ call 4 .normal :: [] }
    (∀ s ∈ [polled 2 calling, failing 2 .station calling],
      s.quiet = true ∧ s.flp.polled = some 2 ∧ s.cal.atNode? 2 = some 6 ∧ s.cal.station? 6 = some station ∧
        (s.flp.node? 2).map (fun n => (n.kind, n.state)) = some (.station, .present) ∧ s.snd.queue = [] ∧
        s.snd.playing = [] ∧ (∀ r ∈ s.cal.calls, r.origin ≠ .floor 1 ∧ r.phase ≠ .unassigned) ∧
        ∀ k < s.cal.stations.length, ∀ x ∈ s.cal.station? k, x.config.node = 2 → k = 6) ∧
    ((call 4 .normal).origin = .button 6 0 ∧ (call 4 .normal).cls = .normal ∧ station.openCall[1]? = some none) ∧
    (let s := failing 2 .station (manned (served chained))
     s.quiet = true ∧ s.cal.station? 6 = some station ∧ s.cal.teams[2]? = some ⟨[9], 0, 1⟩ ∧ 1 = s.cal.number ∧
      (∀ r ∈ s.cal.staff[9]?, r.onDuty = false ∨ r.assigned ≠ none) ∧ s.cal.calls = [] ∧
      s.flr.table[1]? = some ⟨⟨[4], 3, 5⟩, .trading, 0, none, false⟩) ∧
    ∀ s ∈ [polled 3 (detecting chained), failing 3 .detector (detecting chained)],
      s.quiet = true ∧ s.fir.input? 3 = some detector ∧ (s.fir.zones[1]?).map (·.state) = some .normal ∧
        (s.flp.node? 3).map (fun n => (n.kind, n.state)) = some (.detector, .present) ∧ s.fir.settings.confirm ≠ 0 ∧
        ∀ k < s.fir.inputs.length, ∀ e ∈ s.fir.input? k, e.config.node = 3 → k = 3 := by decide

/-- The presses and the detector changes of the images those states are answered with, and the shutters of a lost node. -/
theorem test_witness_StationAndDetectorInputs_images :
    (∀ j < 5, ((2#8).getLsbD j && !(1#8).getLsbD j) = (j == 1)) ∧
    (∀ j < 5, ((16#8).getLsbD j && !(1#8).getLsbD j) = (j == 4)) ∧
    (∀ j < 5, ((1#8).getLsbD j && !(0#8).getLsbD j) = (j == 0)) ∧
    (∀ j < 4, (detectorOf 1#8 j != detectorOf 0#8 j) = (j == 0)) ∧ detectorOf 1#8 0 = .alarm ∧
    (∀ j < 4, (detectorOf 2#8 j != detectorOf 0#8 j) = (j == 0)) ∧ detectorOf 2#8 0 = .fault ∧
    ∀ st ∈ [ShutterState.opened, .closed, .descending, .arrested, .unseen, .fault],
      let s := failing 1 .shutter (hall st)
      s.quiet = true ∧ s.flp.polled = some 1 ∧ s.flp.node? 1 = some ⟨.shutter, .present, 2, some ⟨0, 0⟩⟩ ∧
        s.sht.get? 3 = some (at' .hall st) ∧ s.flr.waitsFor 1 = false ∧
        ∀ k < s.sht.table.length, ∀ q ∈ s.sht.get? k, q.config.node = 1 → k = 3 := by decide

theorem test_witness_Enquiries :
    (hall .closed).ready = true ∧ (hall .closed).flr.table[7]? ≠ none ∧ 47 ≤ 47 ∧ 64 ≤ 64 ∧
      (hall .closed).flp.node? 64 = none ∧ (hall .closed).flp.node? 1 = some ⟨.shutter, .present, 1, some ⟨8, 8⟩⟩ := by decide

theorem test_witness_Commit :
    (chained.ready = true ∧ committing.quiet = true ∧ committing.lnk.writing = some chained.image ∧
       chained.quiet = true ∧ chained.lnk.writing = none) ∧
    (chained.ready = true ∧ chained.lnk.writing = none ∧ chained.image.valid = true ∧ chained.chn.safetyClosed = true ∧
       chained.chn.keyOn = false ∧ chained.sup.dip = false) := by decide

theorem test_witness_Outputs :
    (∀ st ∈ [ChainState.starting, .homing, .inspectionRun], (inState st).chn.state = st) ∧
    (∃ p ∈ stopped.chn.plan, p.braked = true) ∧ (∃ p ∈ creeping.chn.plan, p.braked = false) ∧
    (∀ st ∈ [ShutterState.unseen, .warning, .raising, .fault], (at' .hall st).state = st) ∧
    (let u := (sounds chained).snd
     u.zonesApart ∧ sounding ∈ u.playing ∧ 4 ∈ sounding.sounding.zones ∧ u.patterns[0]? = some [⟨some 0, 1⟩] ∧
       ∀ p ∈ u.playing, 5 ∉ p.sounding.zones) ∧
    (let c (cls : CallClass) := (placed cls .awaitingAck 0 0 .stopped false).cal
     (c .normal).station? 6 ≠ none ∧ (∃ r ∈ (c .sweep).calls, r.origin = .button 6 0 ∧ r.cls = .sweep) ∧
       (∃ r ∈ (c .normal).calls, r.origin = .button 6 0) ∧
       (∀ r ∈ (c .normal).calls, r.cls = .normal ∧ r.phase = .awaitingAck) ∧ (manned chained).cal.calls = []) :=
  ⟨by decide, ⟨_, rfl, rfl⟩, ⟨_, rfl, rfl⟩, by decide,
    ⟨List.pairwise_singleton _ _, by decide, by decide, by decide, by decide⟩, by decide⟩

theorem test_witness_ServiceReset :
    (fired .alerting chained).ready = true ∧ (fired .alerting chained).fir.condition ≠ .normal ∧
    let s := { closing (withShutter running (at' (.landing 0) .awaitClear)) .sweep with
      clk := { (cued .waiting).clk with time := 86000 } }
    s.ready = true ∧ s.fir.condition = .normal ∧ s.fir.heldWait = false ∧ s.clk.cues.length = 24 ∧
      s.flr.table.length = 8 ∧ s.sht.table.length = 48 ∧ s.prg.kind = .closing ∧ s.chn.state.moving = true ∧
      s.clk.isSet = true ∧
      ∀ q ∈ s.clk.cues, q.config.enabled = true →
        ∀ o ∈ nextOccurrence q.config ⟨s.clk.day, s.clk.time⟩, 300 < o.2 := by decide

theorem test_witness_LinkLine :
    let holding (a : Assembler) : State := chained.onLnk fun k => { k with assembler := a }
    (∀ a ∈ [Assembler.hunt, .length, .collect 2 [0x70#8], .collect 2 [0x70#8, 1#8, 0#8]], (holding a).quiet = true) ∧
    chained.lnk.assembler = .hunt ∧ [0x70#8].length + 1 < 2 + 2 ∧
    [0x70#8, 1#8, 0#8] = 0x70#8 :: 1#8 :: [] ++ [0#8] ∧ requestKind 0x70 = false ∧ chained.lnk.requests = [] ∧
    chained.lnk.answers = [] ∧ chained.lnk.notices = [] ∧
    (committing.quiet = true ∧ committing.lnk.sending = none ∧ committing.lnk.answers = [] ∧
      committing.lnk.notices = [] ∧ committing.lnk.writing = some chained.image) := by decide

theorem test_witness_BodiesAndFrames :
    Order.wellFormed (.stopChain 65535) = true ∧
    chained.ready = true ∧ chained.lnk.assembler = .hunt ∧ Instr.wellFormed (.stopChain 255 65535) = true ∧
      Instr.order? (.stopChain 255 65535) = some (255, .stopChain 65535) := by decide

end Sys2Proof.Tests
end

section
/-! SUPPORT. The clearance calculator (chapter 2): ways and distances on the circle of residues, the gap table, the stop
plan and the acceptance test, and the statements about them. -/

namespace Sys2Proof.Machine

/-! ### Ways round a circle -/

theorem circMinus_lt {m : Nat} (hm : 0 < m) (a b : Nat) : circMinus m a b < m := Nat.mod_lt _ hm

/-- `circMinus m a b` is the forward way from b to a. -/
theorem add_circMinus_modEq {m : Nat} (hm : 0 < m) (a b : Nat) : b + circMinus m a b ≡ a [MOD m] := by
  have hb : b % m ≤ m := (Nat.mod_lt b hm).le
  calc b + circMinus m a b
      ≡ b % m + (a % m + (m - b % m)) [MOD m] := (Nat.mod_modEq b m).symm.add (Nat.mod_modEq _ m)
    _ = a % m + m := by omega
    _ ≡ a [MOD m] := by simp [Nat.ModEq]

/-- It is the only forward way shorter than the circle. -/
theorem circMinus_eq_of_modEq {m a b d : Nat} (hd : d < m) (h : b + d ≡ a [MOD m]) : circMinus m a b = d := by
  have hm : 0 < m := by omega
  have hsame : b + circMinus m a b ≡ b + d [MOD m] := (add_circMinus_modEq hm a b).trans h.symm
  exact hsame.add_left_cancel'.eq_of_lt_of_lt (circMinus_lt hm a b) hd

/-- A place k short of a has its way from b shorter by k. -/
theorem circMinus_of_add_modEq {m a a' b k : Nat} (hm : 0 < m) (hk : k ≤ circMinus m a b)
    (h : a' + k ≡ a [MOD m]) : circMinus m a' b = circMinus m a b - k := by
  have hlt := circMinus_lt hm a b
  refine circMinus_eq_of_modEq (by omega) (Nat.ModEq.add_right_cancel' k ?_)
  calc b + (circMinus m a b - k) + k
      = b + circMinus m a b := by omega
    _ ≡ a [MOD m] := add_circMinus_modEq hm a b
    _ ≡ a' + k [MOD m] := h.symm

/-- The way on to a from a place k beyond b is shorter by k. -/
theorem circMinus_of_modEq_add {m a b b' k : Nat} (hm : 0 < m) (hk : k ≤ circMinus m a b)
    (h : b' ≡ b + k [MOD m]) : circMinus m a b' = circMinus m a b - k := by
  have hlt := circMinus_lt hm a b
  refine circMinus_eq_of_modEq (by omega) ?_
  calc b' + (circMinus m a b - k)
      ≡ b + k + (circMinus m a b - k) [MOD m] := h.add_right _
    _ = b + circMinus m a b := by omega
    _ ≡ a [MOD m] := add_circMinus_modEq hm a b

/-- The two ways round make up the circle. -/
theorem circMinus_swap {m a b : Nat} (hm : 0 < m) (h : 0 < circMinus m a b) :
    circMinus m b a = m - circMinus m a b := by
  have hlt := circMinus_lt hm a b
  refine circMinus_eq_of_modEq (by omega) (Nat.ModEq.add_right_cancel' (circMinus m a b) ?_)
  calc a + (m - circMinus m a b) + circMinus m a b
      = a + m := by omega
    _ ≡ a [MOD m] := by simp [Nat.ModEq]
    _ ≡ b + circMinus m a b [MOD m] := (add_circMinus_modEq hm a b).symm

theorem circDist_comm (m a b : Nat) : circDist m a b = circDist m b a := Nat.min_comm ..

/-- A distance exceeds h when both ways round do. -/
theorem lt_circDist_iff {m : Nat} (hm : 0 < m) (h a b : Nat) :
    h < circDist m a b ↔ h < circMinus m a b ∧ h + circMinus m a b < m := by
  have hlt := circMinus_lt hm a b
  rw [circDist, Nat.lt_min]
  refine and_congr_right fun hpos => ?_
  rw [circMinus_swap hm (by omega)]
  omega

theorem circDist_congr_left {m a a' : Nat} (b : Nat) (h : a ≡ a' [MOD m]) : circDist m a b = circDist m a' b := by
  have hmod : a % m = a' % m := h
  simp only [circDist, circMinus, hmod]

/-! ### The least of a list, and sorting -/

/-- The least value of f over a list of places is that of one of them. -/
theorem exists_foldl_min_eq {α : Type} {f : α → Nat} {l : List α} {m : Nat} (hl : l ≠ [])
    (hlt : ∀ a, f a < m) : ∃ a ∈ l, (l.map f).foldl min m = f a ∧ ∀ b ∈ l, f a ≤ f b := by
  have hmap : l.map f ≠ [] := by simpa using hl
  obtain ⟨a, ha, hfa⟩ := List.mem_map.1 (List.min_mem hmap)
  refine ⟨a, ha, ?_, fun b hb => ?_⟩
  · rw [List.foldl_min_eq_min hmap, ← hfa]
    exact min_eq_right (hlt a).le
  · rw [hfa]
    exact List.min_le_of_mem (List.mem_map_of_mem hb)

theorem length_le_one_of_pairwise_false {α : Type} {l : List α} (h : l.Pairwise fun _ _ => False) : l.length ≤ 1 :=
  match l, h with
  | [], _ => Nat.zero_le _
  | [_], _ => Nat.le_refl _
  | _ :: _ :: _, h => (List.rel_of_pairwise_cons h (List.mem_cons_self ..)).elim

theorem insertBy_lt_eq_orderedInsert (a : Nat) (l : List Nat) :
    insertBy (fun a b => decide (a < b)) a l = l.orderedInsert (· ≤ ·) a := by
  induction l with
  | nil => rfl
  | cons b l ih =>
    by_cases h : b < a
    · simp [insertBy, h, ih]
    · simp [insertBy, h, Nat.le_of_not_lt h]

theorem sortBy_lt_eq_insertionSort (l : List Nat) :
    sortBy (fun a b => decide (a < b)) l = l.insertionSort (· ≤ ·) := by
  induction l with
  | nil => rfl
  | cons a l ih => rw [sortBy, ih, insertBy_lt_eq_orderedInsert, List.insertionSort_cons]

theorem sortBy_lt_pairwise {l : List Nat} (hnodup : l.Nodup) :
    (sortBy (fun a b => decide (a < b)) l).Pairwise (· < ·) := by
  rw [sortBy_lt_eq_insertionSort]
  exact (l.pairwise_insertionSort (· ≤ ·)).imp₂ (fun _ _ hle hne => lt_of_le_of_ne hle hne)
    ((l.perm_insertionSort (· ≤ ·)).nodup_iff.2 hnodup)

/-! ### Clear residues (R27, R29) -/

theorem residueClear_iff {pitch h r : Nat} {positions : List Nat} :
    residueClear pitch h positions r = true ↔ ∀ p ∈ positions, h < circDist pitch r p := by
  simp [residueClear, fouls]

theorem residueClear_eq_false {pitch h r p : Nat} {positions : List Nat} (hp : p ∈ positions)
    (hnear : circDist pitch r p ≤ h) : residueClear pitch h positions r = false := by
  rw [← Bool.not_eq_true, residueClear_iff]
  exact fun hclear => absurd (hclear p hp) (by omega)

/-- A clear residue seen from the landing behind it: past the arc of that landing, and before it comes round again. -/
theorem residueClear_iff_behind {pitch h r : Nat} {positions : List Nat} (hP : 0 < pitch) :
    residueClear pitch h positions r = true ↔
      ∀ p ∈ positions, h < circMinus pitch r p ∧ h + circMinus pitch r p < pitch := by
  simp only [residueClear_iff, lt_circDist_iff hP]

/-- The same seen from the landing ahead of it. -/
theorem residueClear_iff_ahead {pitch h r : Nat} {positions : List Nat} (hP : 0 < pitch) :
    residueClear pitch h positions r = true ↔
      ∀ p ∈ positions, h < circMinus pitch p r ∧ h + circMinus pitch p r < pitch := by
  simp only [residueClear_iff, circDist_comm pitch r, lt_circDist_iff hP]

/-! ### One gap, from its first residue (R29) -/

/-- The width of a gap is the least way on from its first residue to an arc, and some arc begins there. -/
theorem exists_gapWidth_add_eq {pitch h first : Nat} {positions : List Nat} (hP : 0 < pitch) (hne : positions ≠ [])
    (hclear : residueClear pitch h positions first = true) :
    ∃ p ∈ positions, gapWidth pitch h positions first + h = circMinus pitch p first ∧
      ∀ q ∈ positions, gapWidth pitch h positions first + h ≤ circMinus pitch q first := by
  have hway : ∀ p ∈ positions,
      circMinus pitch (circMinus pitch p h) first + h = circMinus pitch p first := fun p hp => by
    have hahead := ((residueClear_iff_ahead hP).1 hclear p hp).1
    have harc : circMinus pitch p h + h ≡ p [MOD pitch] := by
      rw [Nat.add_comm]
      exact add_circMinus_modEq hP p h
    rw [circMinus_of_add_modEq hP hahead.le harc]
    omega
  obtain ⟨p, hp, hwidth, hleast⟩ := exists_foldl_min_eq (m := pitch)
    (f := fun p => circMinus pitch (circMinus pitch p h) first) hne fun _ => circMinus_lt hP _ _
  refine ⟨p, hp, ?_, fun q hq => ?_⟩
  · rw [gapWidth, hwidth, hway p hp]
  · rw [gapWidth, hwidth, ← hway q hq]
    exact Nat.add_le_add_right (hleast q hq) h

section Gap

variable {pitch h first : Nat} {positions : List Nat}

theorem gapWidth_pos (hP : 0 < pitch) (hne : positions ≠ []) (hclear : residueClear pitch h positions first = true) :
    0 < gapWidth pitch h positions first := by
  obtain ⟨p, hp, hwidth, -⟩ := exists_gapWidth_add_eq hP hne hclear
  have hahead := (residueClear_iff_ahead hP).1 hclear p hp
  omega

theorem gapWidth_lt (hP : 0 < pitch) (hne : positions ≠ []) (hclear : residueClear pitch h positions first = true) :
    gapWidth pitch h positions first < pitch := by
  obtain ⟨p, hp, hwidth, -⟩ := exists_gapWidth_add_eq hP hne hclear
  have hahead := (residueClear_iff_ahead hP).1 hclear p hp
  omega

/-- k into a gap, every landing ahead lies h + w − k on or farther, and every one behind h + 1 + k back or farther. -/
theorem lt_circDist_of_lt_gapWidth {k n : Nat} (hP : 0 < pitch) (hne : positions ≠ [])
    (hclear : residueClear pitch h positions first = true) (hahead : n + k < h + gapWidth pitch h positions first)
    (hbehind : n ≤ h + k) (hk : k < gapWidth pitch h positions first) :
    ∀ p ∈ positions, n < circDist pitch ((first + k) % pitch) p := fun p hp => by
  obtain ⟨-, -, -, hleast⟩ := exists_gapWidth_add_eq hP hne hclear
  have hwidth := hleast p hp
  have hfirst := (residueClear_iff_ahead hP).1 hclear p hp
  rw [circDist_comm, lt_circDist_iff hP,
    circMinus_of_modEq_add hP (a := p) (b := first) (k := k) (by omega) (Nat.mod_modEq _ _)]
  omega

theorem residueClear_of_lt_gapWidth {k : Nat} (hP : 0 < pitch) (hne : positions ≠ [])
    (hclear : residueClear pitch h positions first = true) (hk : k < gapWidth pitch h positions first) :
    residueClear pitch h positions ((first + k) % pitch) = true :=
  residueClear_iff.2 (lt_circDist_of_lt_gapWidth hP hne hclear (by omega) (by omega) hk)

/-- The residue just past a gap lies at the back end of an arc. -/
theorem residueClear_at_gapWidth (hP : 0 < pitch) (hne : positions ≠ [])
    (hclear : residueClear pitch h positions first = true) :
    residueClear pitch h positions ((first + gapWidth pitch h positions first) % pitch) = false := by
  obtain ⟨p, hp, hwidth, -⟩ := exists_gapWidth_add_eq hP hne hclear
  refine residueClear_eq_false hp ((Nat.min_le_right _ _).trans ?_)
  rw [circMinus_of_modEq_add hP (a := p) (b := first) (by omega) (Nat.mod_modEq _ _)]
  omega

/-- R30: the centre stands h + 1 + floor((w − 1)/2) or farther from every landing. -/
theorem le_circDist_gapCentre (hP : 0 < pitch) (hne : positions ≠ [])
    (hclear : residueClear pitch h positions first = true) :
    ∀ p ∈ positions, h + 1 + (gapWidth pitch h positions first - 1) / 2 ≤
      circDist pitch (gapCentre pitch first (gapWidth pitch h positions first)) p := fun p hp => by
  have hpos := gapWidth_pos hP hne hclear
  have hfar := lt_circDist_of_lt_gapWidth (n := h + (gapWidth pitch h positions first - 1) / 2)
    (k := (gapWidth pitch h positions first - 1) / 2) hP hne hclear (by omega) (by omega) (by omega) p hp
  rw [gapCentre]
  omega

end Gap

/-! ### The first residues (R29, R30) -/

theorem mem_gapFirsts {pitch h g : Nat} {positions : List Nat} :
    g ∈ gapFirsts pitch h positions ↔
      (∃ p ∈ positions, (p + h + 1) % pitch = g) ∧ residueClear pitch h positions g = true := by
  simp [gapFirsts, sortBy_lt_eq_insertionSort]

theorem gapFirsts_pairwise (pitch h : Nat) (positions : List Nat) :
    (gapFirsts pitch h positions).Pairwise (· < ·) :=
  sortBy_lt_pairwise (List.nodup_dedup _)

theorem gapFirsts_length_le (pitch h : Nat) (positions : List Nat) :
    (gapFirsts pitch h positions).length ≤ positions.length := by
  rw [gapFirsts, sortBy_lt_eq_insertionSort, List.length_insertionSort]
  refine (List.dedup_sublist (_ : List Nat)).length_le.trans ((List.length_filter_le _ _).trans ?_)
  rw [List.length_map]

/-- The residue before the first of a gap is the forward end of an arc. -/
theorem residueClear_before_gapFirst {pitch h g : Nat} {positions : List Nat} (hP : 0 < pitch)
    (hg : g ∈ gapFirsts pitch h positions) : residueClear pitch h positions ((g + (pitch - 1)) % pitch) = false := by
  obtain ⟨⟨p, hp, rfl⟩, -⟩ := mem_gapFirsts.1 hg
  have hend : ((p + h + 1) % pitch + (pitch - 1)) % pitch ≡ p + h [MOD pitch] := by
    calc ((p + h + 1) % pitch + (pitch - 1)) % pitch
        ≡ p + h + 1 + (pitch - 1) [MOD pitch] := (Nat.mod_modEq _ _).trans ((Nat.mod_modEq _ _).add_right _)
      _ = p + h + pitch := by omega
      _ ≡ p + h [MOD pitch] := by simp [Nat.ModEq]
  have hway : circMinus pitch (p + h) p ≤ h := by
    rw [circMinus_eq_of_modEq (Nat.mod_lt h hP) ((Nat.mod_modEq h pitch).add_left p)]
    exact Nat.mod_le h pitch
  refine residueClear_eq_false hp ?_
  rw [circDist_congr_left p hend]
  exact (Nat.min_le_left _ _).trans hway

/-- Every clear residue lies in the gap that begins just past the arc of the nearest landing behind it. -/
theorem exists_gapFirst_of_residueClear {pitch h r : Nat} {positions : List Nat} (hP : 0 < pitch)
    (hne : positions ≠ []) (hr : r < pitch) (hclear : residueClear pitch h positions r = true) :
    ∃ g ∈ gapFirsts pitch h positions, ∃ k < gapWidth pitch h positions g, r = (g + k) % pitch := by
  have hbehind := (residueClear_iff_behind hP).1 hclear
  obtain ⟨p, hp, -, hnearest⟩ := exists_foldl_min_eq (f := fun p => circMinus pitch r p) hne
    fun _ => circMinus_lt hP _ _
  obtain ⟨hpast, -⟩ := hbehind p hp
  obtain ⟨k, hk⟩ : ∃ k, circMinus pitch r p = h + 1 + k := ⟨circMinus pitch r p - (h + 1), by omega⟩
  have hfrom : (p + h + 1) % pitch + k ≡ r [MOD pitch] := by
    calc (p + h + 1) % pitch + k
        ≡ p + h + 1 + k [MOD pitch] := (Nat.mod_modEq _ _).add_right k
      _ = p + circMinus pitch r p := by omega
      _ ≡ r [MOD pitch] := add_circMinus_modEq hP r p
  have hways : ∀ q ∈ positions,
      circMinus pitch ((p + h + 1) % pitch) q = circMinus pitch r q - k := fun q hq => by
    have hleast := hnearest q hq
    exact circMinus_of_add_modEq hP (by omega) hfrom
  have hfirst : residueClear pitch h positions ((p + h + 1) % pitch) = true :=
    (residueClear_iff_behind hP).2 fun q hq => by
      have hleast := hnearest q hq
      have hclearOf := hbehind q hq
      rw [hways q hq]
      omega
  refine ⟨_, mem_gapFirsts.2 ⟨⟨p, hp, rfl⟩, hfirst⟩, k, ?_, ?_⟩
  · obtain ⟨q, hq, hwidth, -⟩ := exists_gapWidth_add_eq hP hne hfirst
    have hleast := hnearest q hq
    have hclearOf := hbehind q hq
    have hway := hways q hq
    rw [circMinus_swap hP (by omega)] at hwidth
    omega
  · rw [hfrom, Nat.mod_eq_of_lt hr]

/-! ### The gap table (R30) -/

theorem mem_gapTable {pitch h : Nat} {positions : List Nat} {g : Gap} :
    g ∈ gapTable pitch h positions ↔ g.first ∈ gapFirsts pitch h positions ∧
      g.width = gapWidth pitch h positions g.first ∧ g.centre = gapCentre pitch g.first g.width := by
  rw [gapTable, List.mem_map]
  constructor
  · rintro ⟨first, hfirst, rfl⟩
    exact ⟨hfirst, rfl, rfl⟩
  · rintro ⟨hfirst, hwidth, hcentre⟩
    refine ⟨g.first, hfirst, ?_⟩
    simp only [← hwidth, ← hcentre]

theorem gapTable_map_first (pitch h : Nat) (positions : List Nat) :
    (gapTable pitch h positions).map (·.first) = gapFirsts pitch h positions := by
  simp [gapTable, Function.comp_def]

theorem gapTable_nil (pitch h : Nat) : gapTable pitch h [] = [] := rfl

theorem first_lt_of_mem_gapTable {pitch h : Nat} {positions : List Nat} {g : Gap} (hP : 0 < pitch)
    (hg : g ∈ gapTable pitch h positions) : g.first < pitch := by
  obtain ⟨hfirst, -, -⟩ := mem_gapTable.1 hg
  obtain ⟨⟨p, -, hend⟩, -⟩ := mem_gapFirsts.1 hfirst
  exact hend ▸ Nat.mod_lt _ hP

/-- Past a gap that wraps no gap begins: the residue before such a beginning would lie in the wrapping gap. -/
theorem not_lt_first_of_wraps {pitch h : Nat} {positions : List Nat} {g g' : Gap} (hP : 0 < pitch)
    (hne : positions ≠ []) (hg : g ∈ gapTable pitch h positions) (hg' : g' ∈ gapTable pitch h positions)
    (hwraps : pitch < g.first + g.width) : ¬ g.first < g'.first := fun hlt => by
  have hlast := first_lt_of_mem_gapTable hP hg'
  obtain ⟨hfirst, hwidth, -⟩ := mem_gapTable.1 hg
  obtain ⟨hfirst', -, -⟩ := mem_gapTable.1 hg'
  have hinside : residueClear pitch h positions ((g.first + (g'.first - 1 - g.first)) % pitch) = true :=
    residueClear_of_lt_gapWidth hP hne (mem_gapFirsts.1 hfirst).2 (by omega)
  have hbefore := residueClear_before_gapFirst hP hfirst'
  have hsame : g'.first + (pitch - 1) = g.first + (g'.first - 1 - g.first) + pitch := by omega
  rw [hsame, Nat.add_mod_right, hinside] at hbefore
  exact Bool.noConfusion hbefore

theorem wrapping_gaps_length_le_one {pitch h : Nat} {positions : List Nat} (hP : 0 < pitch) (hne : positions ≠ []) :
    ((gapTable pitch h positions).filter fun g => decide (pitch < g.first + g.width)).length ≤ 1 := by
  have hrising : (gapTable pitch h positions).Pairwise fun g g' => g.first < g'.first := by
    rw [← List.pairwise_map, gapTable_map_first]
    exact gapFirsts_pairwise pitch h positions
  refine length_le_one_of_pairwise_false ((hrising.filter _).imp_of_mem fun {g g'} hg hg' hlt => ?_)
  obtain ⟨hg, hwraps⟩ := List.mem_filter.1 hg
  exact not_lt_first_of_wraps hP hne hg (List.mem_filter.1 hg').1 (of_decide_eq_true hwraps) hlt

theorem exists_gap_of_residueClear {pitch h r : Nat} {positions : List Nat} (hP : 0 < pitch) (hne : positions ≠ [])
    (hr : r < pitch) (hclear : residueClear pitch h positions r = true) :
    ∃ g ∈ gapTable pitch h positions, ∃ k, k < g.width ∧ r = (g.first + k) % pitch := by
  obtain ⟨g, hg, k, hk, hrk⟩ := exists_gapFirst_of_residueClear hP hne hr hclear
  rw [← gapTable_map_first, List.mem_map] at hg
  obtain ⟨gap, hgap, rfl⟩ := hg
  obtain ⟨-, hwidth, -⟩ := mem_gapTable.1 hgap
  exact ⟨gap, hgap, k, hwidth ▸ hk, hrk⟩

/-- Settles O11: every gap is measured from its first residue, by the ways on to the landings ahead and back to those
behind. -/
theorem gapTableRight : Obligations.GapTableRight := by
  intro pitch h positions hP hne table
  refine ⟨?_, ?_, wrapping_gaps_length_le_one hP hne, fun g hg => ?_,
    fun r hr hclear => exists_gap_of_residueClear hP hne hr hclear⟩
  · exact gapTable_map_first pitch h positions ▸ gapFirsts_pairwise pitch h positions
  · have hlength : table.length = (gapFirsts pitch h positions).length := List.length_map _
    exact hlength ▸ gapFirsts_length_le pitch h positions
  · obtain ⟨hfirst, hwidth, hcentre⟩ := mem_gapTable.1 hg
    have hclear := (mem_gapFirsts.1 hfirst).2
    rw [hcentre, hwidth]
    exact ⟨first_lt_of_mem_gapTable hP hg, gapWidth_pos hP hne hclear, gapWidth_lt hP hne hclear,
      fun k hk => residueClear_of_lt_gapWidth hP hne hclear hk, residueClear_before_gapFirst hP hfirst,
      residueClear_at_gapWidth hP hne hclear, rfl, le_circDist_gapCentre hP hne hclear⟩

/-! ### Landings and the configuration -/

theorem mem_allLandings_of_position? {c : ChainConfig} {l position : Nat} (h : c.position? l = some position) :
    l ∈ c.allLandings := by
  obtain ⟨landing, hl, -⟩ := Option.map_eq_some_iff.1 h
  have hget : c.landings[l]? = some (some landing) := Option.join_eq_some_iff.1 hl
  obtain ⟨hlt, hentry⟩ := List.getElem?_eq_some_iff.1 hget
  simp [ChainConfig.allLandings, presentWhere, numbersWhere, hlt, hentry]

theorem mem_positions {c : ChainConfig} {set : List Nat} {position : Nat} :
    position ∈ c.positions set ↔ ∃ l ∈ set, c.position? l = some position := List.mem_filterMap

/-- The landings of any set are among all the landings (R31). -/
theorem positions_subset_allLandings (c : ChainConfig) (set : List Nat) :
    c.positions set ⊆ c.positions c.allLandings := fun position hmem => by
  obtain ⟨l, -, hl⟩ := mem_positions.1 hmem
  exact mem_positions.2 ⟨l, mem_allLandings_of_position? hl, hl⟩

theorem hasClearGap_of_valid {c : ChainConfig} (h : c.valid = true) : c.hasClearGap = true := by
  simp only [ChainConfig.valid, Bool.and_eq_true] at h
  exact h.2

theorem pitch_pos_of_valid {c : ChainConfig} (hconf : c.configured = true) (hvalid : c.valid = true) :
    0 < c.pitch := by
  simp only [ChainConfig.configured, Bool.and_eq_true] at hconf
  obtain ⟨g, hg⟩ := Option.isSome_iff_exists.1 hconf.1
  simp only [ChainConfig.valid, hg, Option.all_some, GeometryFields.inRange, inRange, Bool.and_eq_true,
    decide_eq_true_eq] at hvalid
  simp only [ChainConfig.pitch, hg, Option.map_some, Option.getD_some]
  omega

theorem pitch_dvd_loopLength (c : ChainConfig) : c.pitch ∣ c.loopLength := by
  cases hg : c.geometry <;> simp [ChainConfig.pitch, ChainConfig.loopLength, hg]

/-! ### The stop plan (R33) -/

/-- The stored table is the one a plan for all the landings would form afresh (R31). -/
theorem planTable_storedTable {c : ChainConfig} (hconf : c.configured = true) (set : List Nat) :
    planTable c c.storedTable set = gapTable c.pitch c.planningBand (c.positions set) := by
  unfold planTable
  split
  · next hall => rw [ChainConfig.storedTable, if_pos hconf, hall]
  · rfl

/-- R31: a residue clear of all the landings is clear of any set of them, so such a set has a gap. -/
theorem gapTable_positions_ne_nil {c : ChainConfig} {set : List Nat} (hconf : c.configured = true)
    (hvalid : c.valid = true) (hne : c.positions set ≠ []) :
    gapTable c.pitch c.planningBand (c.positions set) ≠ [] := by
  have hP := pitch_pos_of_valid hconf hvalid
  have hsub := positions_subset_allLandings c set
  have hall : c.allLandings ≠ [] := fun hnil => by
    obtain ⟨position, hmem⟩ := List.exists_mem_of_ne_nil _ hne
    have hposition := hsub hmem
    simp [hnil, ChainConfig.positions] at hposition
  have hstored : c.storedTable ≠ [] := by
    have hgap := hasClearGap_of_valid hvalid
    simp only [ChainConfig.hasClearGap, hconf, Bool.not_true, Bool.false_or, Bool.and_eq_true, Bool.or_eq_true,
      List.isEmpty_iff, Bool.not_eq_true', List.isEmpty_eq_false_iff] at hgap
    exact hgap.2.resolve_left hall
  rw [ChainConfig.storedTable, if_pos hconf] at hstored
  obtain ⟨g, hg⟩ := List.exists_mem_of_ne_nil _ hstored
  have hclear := residueClear_iff.1 (mem_gapFirsts.1 (mem_gapTable.1 hg).1).2
  obtain ⟨g', hg', -⟩ := exists_gap_of_residueClear hP hne (first_lt_of_mem_gapTable hP hg)
    (residueClear_iff.2 fun p hp => hclear p (hsub hp))
  exact List.ne_nil_of_mem hg'

theorem leastWay_lt {pitch : Nat} (hP : 0 < pitch) (earliest : Nat) (table : List Gap) :
    leastWay pitch earliest table < pitch := Nat.mod_lt _ hP

@[simp] theorem leastWay_nil (pitch earliest : Nat) : leastWay pitch earliest [] = 0 := by simp [leastWay]

/-- The least way leads from the earliest residue to the centre of an entry. -/
theorem exists_add_leastWay_modEq {pitch : Nat} {table : List Gap} (hP : 0 < pitch) (hne : table ≠ [])
    (earliest : Nat) : ∃ g ∈ table, earliest + leastWay pitch earliest table ≡ g.centre [MOD pitch] := by
  obtain ⟨g, hg, hleast, -⟩ := exists_foldl_min_eq (f := fun g : Gap => circMinus pitch g.centre earliest) hne
    fun _ => circMinus_lt hP _ _
  refine ⟨g, hg, ?_⟩
  rw [leastWay, hleast, Nat.mod_eq_of_lt (circMinus_lt hP _ _)]
  exact add_circMinus_modEq hP _ _

/-- R33: the residue of the target is the centre of an entry of the table planned with. -/
theorem exists_makePlan_target_modEq {c : ChainConfig} {stored : List Gap} {set : List Nat} (x0 stopping : Nat)
    (hP : 0 < c.pitch) (hne : planTable c stored set ≠ []) :
    ∃ g ∈ planTable c stored set, (makePlan c stored set x0 stopping).target ≡ g.centre [MOD c.pitch] := by
  obtain ⟨g, hg, hcentre⟩ := exists_add_leastWay_modEq hP hne ((x0 + stopping) % c.pitch)
  refine ⟨g, hg, ?_⟩
  rw [makePlan, Nat.ModEq, Nat.mod_mod_of_dvd _ (pitch_dvd_loopLength c), ← Nat.add_assoc]
  exact ((Nat.mod_modEq (x0 + stopping) c.pitch).symm.add_right _).trans hcentre

theorem planningBand_lt_circDist_target {c : ChainConfig} {set : List Nat} {l position : Nat} (x0 stopping : Nat)
    (hconf : c.configured = true) (hvalid : c.valid = true) (hl : l ∈ set) (hposition : c.position? l = some position) :
    c.planningBand < circDist c.pitch (makePlan c c.storedTable set x0 stopping).target position := by
  have hP := pitch_pos_of_valid hconf hvalid
  have hmem : position ∈ c.positions set := mem_positions.2 ⟨l, hl, hposition⟩
  have hne := List.ne_nil_of_mem hmem
  have htable := planTable_storedTable hconf set
  obtain ⟨g, hg, htarget⟩ := exists_makePlan_target_modEq x0 stopping hP
    (htable ▸ gapTable_positions_ne_nil hconf hvalid hne)
  rw [htable] at hg
  obtain ⟨hfirst, hwidth, hcentre⟩ := mem_gapTable.1 hg
  have hfar := le_circDist_gapCentre hP hne (mem_gapFirsts.1 hfirst).2 position hmem
  rw [← hwidth, ← hcentre] at hfar
  rw [circDist_congr_left position htarget]
  omega

/-- Settles O12: the way to the nearest centre is less than a pitch, and the target has that centre's residue. -/
theorem planReachesClearTarget : Obligations.PlanReachesClearTarget := by
  intro c set x0 stopping hconf hvalid p
  have hP := pitch_pos_of_valid hconf hvalid
  have hway : p.brakeAt < c.pitch := leastWay_lt hP _ _
  have hadvance : p.advanceTo = stopping + p.brakeAt := rfl
  refine ⟨by omega, by omega, hadvance, rfl, beq_iff_eq, fun hnone => ?_,
    fun l hl position hposition => planningBand_lt_circDist_target x0 stopping hconf hvalid hl hposition⟩
  have hzero : p.brakeAt = 0 := by
    simp only [p, makePlan, planTable_storedTable hconf, hnone, gapTable_nil, leastWay_nil]
  exact ⟨hzero, by omega⟩

/-! ### The acceptance test (R35) -/

theorem mem_foulingLandings {c : ChainConfig} {x l : Nat} {set : List Nat} :
    l ∈ foulingLandings c x set ↔
      l ∈ set ∧ ∃ position, c.position? l = some position ∧ circDist c.pitch x position ≤ c.acceptanceBand := by
  simp [foulingLandings, fouls, Option.any_eq_true]

theorem accepts_iff {c : ChainConfig} {x : Nat} {set : List Nat} :
    accepts c x set = true ↔
      ∀ l ∈ set, ∀ position, c.position? l = some position → c.acceptanceBand < circDist c.pitch x position := by
  simp [accepts, List.eq_nil_iff_forall_not_mem, mem_foulingLandings]

/-- Settles O13: the test is met when no landing of the set is fouled. -/
theorem acceptanceTest : Obligations.AcceptanceTest := fun _ _ _ =>
  ⟨accepts_iff, fun _ => mem_foulingLandings, fun hrising => hrising.filter _, rfl⟩

end Sys2Proof.Machine
end

section
/-! SUPPORT. SET SUPPLY GROUP (R75): its checks, what its owner answers in each of its three cases, and the statement about
it. -/

namespace Sys2Proof.Machine

/-! ### The checks (R75) -/

theorem supplyGroupRange_check_iff {g capacity : Nat} :
    (!decide (g ≤ 7) || !inRange 1 4 capacity) = true ↔ ¬(g ≤ 7 ∧ 1 ≤ capacity ∧ capacity ≤ 4) := by
  simp only [inRange, ← Bool.not_and, Bool.not_eq_true', Bool.and_eq_false_iff, decide_eq_false_iff_not]
  omega

theorem Supply.groupIdle_check_iff {u : Supply} {g : Nat} :
    ((u.group? g).all fun r => r.moves.isEmpty && r.queue.isEmpty) = true ↔
      ∀ r ∈ u.groups[g]?, r.moves = [] ∧ r.queue = [] := by
  simp [Supply.group?, Option.all_eq_true]

theorem clampTo_zero (high v : Nat) : clampTo 0 high v = min v high := Nat.zero_max _

/-- A value is CLAMPED from above when it lies above the range. -/
theorem min_bne_self (high v : Nat) : (min v high != v) = decide (high < v) := by
  rw [Bool.eq_iff_iff, bne_iff_ne, decide_eq_true_iff]
  omega

/-! ### What the owner answers (R75) -/

section Answers

variable {s : State} {g capacity settle : Nat}

theorem orderSetSupplyGroup_outOfRange (hrange : ¬(g ≤ 7 ∧ 1 ≤ capacity ∧ capacity ≤ 4)) :
    orderSetSupplyGroup g capacity settle s = declined .outOfRange s :=
  if_pos (supplyGroupRange_check_iff.mpr hrange)

theorem orderSetSupplyGroup_busy (hrange : g ≤ 7 ∧ 1 ≤ capacity ∧ capacity ≤ 4)
    (hbusy : ¬∀ r ∈ s.sup.groups[g]?, r.moves = [] ∧ r.queue = []) :
    orderSetSupplyGroup g capacity settle s = declined .wrongState s := by
  have hcheck := Bool.eq_false_iff.mpr (Supply.groupIdle_check_iff.not.mpr hbusy)
  rw [orderSetSupplyGroup, if_neg (supplyGroupRange_check_iff.not_left.mpr hrange), if_pos (by rw [hcheck]; decide)]

theorem orderSetSupplyGroup_idle (hrange : g ≤ 7 ∧ 1 ≤ capacity ∧ capacity ≤ 4)
    (hidle : ∀ r ∈ s.sup.groups[g]?, r.moves = [] ∧ r.queue = []) :
    orderSetSupplyGroup g capacity settle s =
      doneClamped (decide (10 < settle))
        (s.onSup fun u => u.modify g fun r => { r with config := ⟨capacity, min settle 10⟩ }) := by
  rw [orderSetSupplyGroup, if_neg (supplyGroupRange_check_iff.not_left.mpr hrange),
    if_neg (by rw [Supply.groupIdle_check_iff.mpr hidle]; decide), clampTo_zero, ← min_bne_self]

end Answers

/-! ### The order taken whole -/

/-- What the owner makes of its record, and the answer, are all that the order changes. -/
theorem exec_setSupplyGroup {s : State} {tag g capacity settle : Nat} {f : Supply → Supply} {r : Result}
    (hs : s.configReady = true)
    (howner : ∀ s' : State, s'.sup = s.sup → orderSetSupplyGroup g capacity settle s' = (s'.onSup f, r)) :
    exec (.setSupplyGroup tag g capacity settle) s =
      .next ((s.onSup f).answered tag (.setSupplyGroup g capacity settle) r) := by
  obtain ⟨hready, hwriting⟩ := s.configReady_iff.mp hs
  obtain ⟨hagenda, hroom, -, -⟩ := s.ready_iff.mp hready
  refine takeOrder_owned hready (fun _ => hwriting) (by simp [Order.owner]) (howner _ rfl) rfl hroom ?_
  simp [Order.owner, Block.own, ownSup, State.serving, State.onSup, hagenda]

/-! ### A group without a stored configuration (R75), and the statement -/

theorem reset_group_config {g : Nat} (hg : g < 8) : (State.reset.sup.groups[g]?).map (·.config) = some ⟨1, 0⟩ := by
  rw [show State.reset.sup.groups = List.replicate 8 ⟨⟨1, 0⟩, [], []⟩ from rfl, List.getElem?_replicate, if_pos hg]
  rfl

/-- Settles O15: the owner's answer in each of the three cases of R75, and the order taken whole. -/
theorem setSupplyGroup : Obligations.SetSupplyGroup := by
  constructor
  · intro s tag g capacity settle hs o inRange idle
    refine ⟨fun hrange _ => ?outOfRange, fun hrange hbusy => ?busy, fun hrange hidle => ?idle⟩
    case outOfRange => exact exec_setSupplyGroup (f := id) hs fun _ _ => orderSetSupplyGroup_outOfRange hrange
    case busy => exact exec_setSupplyGroup (f := id) hs fun _ hsup => orderSetSupplyGroup_busy hrange (hsup ▸ hbusy)
    case idle => exact exec_setSupplyGroup hs fun _ hsup => orderSetSupplyGroup_idle hrange (hsup ▸ hidle)
  · exact fun _ => reset_group_config

end Sys2Proof.Machine
end

section
/-! SUPPORT. Where a command begins: an order enters the request buffer, an event reaches its block, and FULL RESET loads
the store. What every beginning and every message keeps, every command and every step keep. -/

namespace Sys2Proof.Machine

/-! ### Events -/

/-- The events from outside the blocks, each with the block it reaches; the lead that runs out at a cue's slot is the
sounder line's, and an order that arrives is the service link's. -/
inductive Event : Block → (State → State) → Prop where
  | arrival (tag : Nat) (o : Order) : Event .lnk (linkArrive o.kind tag (some o))
  | receive (b : Byte) (framingError : Bool) : Event .lnk (linkReceive b framingError)
  | gap : Event .lnk linkGap
  | lineBreak : Event .lnk linkBreak
  | frameSent : Event .lnk linkSend
  | writeEnd (good : Bool) : Event .lnk (storeWriteEnd good)
  | count (forward : Bool) : Event .chn (chainCount forward)
  | index : Event .chn chainIndex
  | carTag (t : Tag2) : Event .chn (chainTag t)
  | window : Event .chn chainWindow
  | runup : Event .chn chainRunupTimeout
  | homing : Event .chn chainHomingTimeout
  | safetyOpen : Event .chn chainSafetyOpen
  | safetyClose : Event .chn chainSafetyClose
  | keyOn : Event .chn chainKeyOn
  | keyOff : Event .chn chainKeyOff
  | press (up : Bool) : Event .chn (chainButtonPress up)
  | release (up : Bool) : Event .chn (chainButtonRelease up)
  | settled (g : Nat) (o : MoveOwner) : Event .sup (supplySettleExpiry g o)
  | dipped : Event .sup supplyDipped
  | dipReleased : Event .sup supplyDipReleased
  | restart : Event .sup supplyRestartExpiry
  | slot : Event .flp loopSlot
  | reply (a i j : Byte) (last : ReplyEnd) : Event .flp (loopReply a i j last)
  | missed : Event .flp loopMissed
  | warning (n : Nat) : Event .sht (shutterWarningExpiry n)
  | descent (n : Nat) : Event .sht (shutterDescentTimeout n)
  | clear (n : Nat) : Event .sht (shutterClearExpiry n)
  | hold (n : Nat) : Event .sht (shutterHoldExpiry n)
  | raise (n : Nat) : Event .sht (shutterRaiseTimeout n)
  | urgent (n b : Nat) : Event .cal (callWindowExpiry n b)
  | round (n : Nat) : Event .cal (callRoundExpiry n)
  | element (stamp : Nat) : Event .snd (soundElementEnd stamp)
  | sounding (stamp : Nat) : Event .snd (soundEnd stamp)
  | leadOut (n : Nat) : Event .snd (soundLeadOut n)
  | second : Event .clk clockSecond
  | cueDue (n : Nat) : Event .clk (cueDue n)
  | cueSlot (n : Nat) : Event .clk (cueSlot n)
  | deadline : Event .prg programmeDeadlineExpiry
  | sweep : Event .prg programmeSweepTimeout
  | placing : Event .prg programmePlacingRetry
  | dwell : Event .prg programmeDwellExpiry
  | confirm (z : Nat) : Event .fir (fireConfirmExpiry z)
  | delay : Event .fir fireDelayExpiry
  | ack : Event .fir fireAckExpiry
  | pulse : Event .fir firePulseExpiry

/-- A command is what follows from an event, from the two events of a cue's slot, or from a full reset. -/
inductive Begins (s : State) : State → Prop where
  | event {b : Block} {f : State → State} (h : Event b f) : Begins s (b.own f s)
  | slot (n : Nat) : Begins s (Block.clk.own (cueSlot n) (Block.snd.own (soundLeadOut n) s))
  | reset : Begins s (fullReset s)

/-- An order's command is its arrival. -/
theorem exec_order {c : Instr} {tag : Nat} {o : Order} (h : c.order? = some (tag, o)) (s : State) :
    exec c s = takeOrder tag o s := by
  cases c <;> cases h <;> rfl

/-- Every command settles what it begins. -/
theorem exec_begins (c : Instr) (s : State) : ∃ s₀, Begins s s₀ ∧ exec c s = settle s₀ := by
  rcases h : c.order? with _ | ⟨tag, o⟩
  · cases c <;> try contradiction
    case fullReset => exact ⟨_, .reset, rfl⟩
    case cueSlot n => exact ⟨_, .slot n, rfl⟩
    all_goals exact ⟨_, .event (by constructor), rfl⟩
  · exact ⟨_, .event (.arrival tag o), exec_order h s⟩

/-! ### What commands and steps keep -/

section Keeps

variable {P : State → Prop}

/-- A property that every event, every message and the ROOM report keep is kept by every command other than a reset, and by
a reset that brings it about. -/
theorem exec_keeps (hm : ∀ m s, P s → P (handle m s)) (ha : ∀ s l, P s → P { s with agenda := l })
    (hr : ∀ s, P s → P (tellRoom s)) (he : ∀ b f, Event b f → ∀ s, P s → P (b.own f s))
    (hf : ∀ s, P s → P (fullReset s)) {c : Instr} {s t : State} (hs : P s) (h : exec c s = .next t) : P t := by
  obtain ⟨s₀, hb, hset⟩ := exec_begins c s
  have h₀ : P s₀ := by
    cases hb with
    | event hev => exact he _ _ hev s hs
    | slot n => exact he _ _ (.cueSlot n) _ (he _ _ (.leadOut n) s hs)
    | reset => exact hf s hs
  exact drain_keeps hm ha hr h₀ (hset ▸ h)

/-- The same for a step, which takes the first command waiting or lets 50 ms pass. -/
theorem step_keeps (hm : ∀ m s, P s → P (handle m s)) (ha : ∀ s l, P s → P { s with agenda := l })
    (hp : ∀ s l, P s → P { s with pending := l }) (hr : ∀ s, P s → P (tellRoom s))
    (he : ∀ b f, Event b f → ∀ s, P s → P (b.own f s)) (hf : ∀ s, P s → P (fullReset s)) (ht : ∀ s, P s → P (tick s))
    {s t : State} (hs : P s) (h : step s = .next t) : P t := by
  unfold step at h
  split at h
  · exact exec_keeps hm ha hr he hf (hp _ _ hs) h
  · cases h
    exact ht s hs

end Keeps

/-! ### Whose record a message changes -/

@[simp] theorem Block.own_pending (b : Block) (f : State → State) (s : State) : (b.own f s).pending = s.pending := by
  cases b <;> rfl

@[simp] theorem serve_pending (kind tag : Nat) (o : Order) (s : State) : (serve kind tag o s).pending = s.pending :=
  o.owner.own_pending _ _

@[simp] theorem handle_pending (m : Msg) (s : State) : (handle m s).pending = s.pending := by
  cases m with
  | serve kind tag o => exact serve_pending kind tag o s
  | _ => rfl

/-! ### Enquiries -/

@[simp] theorem inParts_state (data : List Byte) (part : Nat) (s : State) : (inParts data part s).1 = s := by
  unfold inParts; dsimp only; split <;> rfl

/-- The orders that only read (R190 and the READ rule of each chapter). -/
def Order.reads : Order → Bool
  | .readStatus | .readClearance _ | .readShutter _ | .readSupply _ | .readFloor _ _ | .readSounder _ | .readCalls _
  | .readClock _ | .readProgramme | .readFire _ | .readNode _ => true
  | _ => false

theorem serveOrder_reads {o : Order} (ho : o.reads = true) (tag : Nat) (s : State) : (serveOrder tag o s).1 = s := by
  cases o with
  | readClearance | readSupply | readSounder | readCalls | readClock | readFire => exact inParts_state ..
  | readFloor f p =>
    simp only [serveOrder, orderReadFloor]
    split
    · exact inParts_state ..
    · rfl
  | readShutter n =>
    simp only [serveOrder, orderReadShutter]
    split
    · rfl
    · split <;> rfl
  | readNode a =>
    simp only [serveOrder, orderReadNode]
    split
    · rfl
    · split <;> rfl
  | readStatus | readProgramme => rfl
  | _ => contradiction

/-! ### What a full reset leaves of the load -/

/-- `t` is `s` but for the chain's record and the agenda: all that an operation of the chain supervisor changes. -/
def ChainOnly (s t : State) : Prop := t = { s with chn := t.chn, agenda := t.agenda }

namespace ChainOnly

variable {s t : State}

theorem refl (s : State) : ChainOnly s s := rfl

theorem post (h : ChainOnly s t) (ms : List Msg) : ChainOnly s (t.post ms) := by
  unfold ChainOnly at h ⊢; rw [h]; rfl

theorem onChn (h : ChainOnly s t) (f : Chain → Chain) : ChainOnly s (t.onChn f) := by
  unfold ChainOnly at h ⊢; rw [h]; rfl

theorem ask (h : ChainOnly s t) (ms : List SupplyMsg) : ChainOnly s (t.ask ms) := by
  unfold ChainOnly at h ⊢; rw [h]; rfl

theorem ite {p : Prop} [Decidable p] {u : State} (h : ChainOnly s t) (k : ChainOnly s u) :
    ChainOnly s (if p then t else u) := by
  split
  · exact h
  · exact k

theorem enter (h : ChainOnly s t) (st : ChainState) : ChainOnly s (chainEnter st t) := (h.onChn _).post _

theorem withdraw (h : ChainOnly s t) : ChainOnly s (chainWithdraw t) := ite ((h.onChn _).ask _) h

theorem unpark (h : ChainOnly s t) : ChainOnly s (chainUnpark t) := ite ((h.onChn _).post _) h

theorem trip (h : ChainOnly s t) (cause : TripCause) : ChainOnly s (chainTrip cause t) := by
  unfold chainTrip
  split
  · exact (h.onChn _).post _
  · have hwithdrawn : ChainOnly s (chainWithdraw t) := h.withdraw
    have hended := ite (p := t.chn.state.moving) (hwithdrawn.post [.sup (.ended .chain)]) hwithdrawn
    have hunparked {u : State} (k : ChainOnly s u) : ChainOnly s (if cause = .brakeSlip then chainUnpark u else u) :=
      ite k.unpark k
    exact (hunparked ((hended.onChn _).enter .tripped)).post _

theorem afterReset (s : State) : ChainOnly s (chainAfterReset s) := by
  unfold chainAfterReset
  split
  · exact (refl s).trip _
  · exact ite ((refl s).enter _) (refl s)

end ChainOnly

theorem supplyDipped_frame (s : State) : ∃ u a, supplyDipped s = { s with sup := u, agenda := a } := by
  unfold supplyDipped; dsimp only; split <;> exact ⟨_, _, rfl⟩

/-- A full reset is the load of its image, but for the chain's record, the supply's and what they hand on. -/
theorem fullReset_frame (s : State) : ∃ c u a,
    fullReset s = { loaded (s.lnk.loadable.getD State.reset.image) s with chn := c, sup := u, agenda := a } := by
  have h := ChainOnly.afterReset (loaded (s.lnk.loadable.getD State.reset.image) s)
  unfold ChainOnly at h
  unfold fullReset
  dsimp only
  rw [h]
  split
  · obtain ⟨u, a, hu⟩ := supplyDipped_frame _
    exact ⟨_, _, _, hu⟩
  · exact ⟨_, _, _, rfl⟩

theorem fullReset_pending (s : State) : (fullReset s).pending = s.pending := by
  obtain ⟨c, u, a, h⟩ := fullReset_frame s
  rw [h]; rfl

/-- Settles O3: a command ends as the agenda comes to rest, and no event or message reaches the command queue. -/
theorem commandsSettle : Obligations.CommandsSettle := by
  intro c s t h
  refine ⟨?_, ?_⟩
  · exact exec_keeps (P := fun u => u.pending = s.pending) (fun m u hu => (handle_pending m u).trans hu) (fun _ _ hu => hu)
      (fun _ hu => hu) (fun b f _ u hu => (b.own_pending f u).trans hu) (fun u hu => (fullReset_pending u).trans hu) rfl h
  · obtain ⟨s₀, -, hset⟩ := exec_begins c s
    exact drain_next_quiet (hset ▸ h)

/-- Settles O1: a step with a command waiting is that command. -/
theorem stepTakesQueueFront : Obligations.StepTakesQueueFront := fun _ _ _ => rfl

end Sys2Proof.Machine
end

section
/-! SUPPORT. The sounder line's record: who changes it, no two soundings on one zone (R96), the team order list (R104). -/

namespace Sys2Proof.Machine

/-! ### Who changes the record -/

/-- An event of another block leaves the sounder line's record alone. -/
theorem Block.own_snd_of_ne {b : Block} (hb : b ≠ .snd) (f : State → State) (s : State) : (b.own f s).snd = s.snd := by
  cases b with
  | snd => exact absurd rfl hb
  | _ => rfl

theorem serve_snd (kind tag : Nat) (o : Order) (s : State) :
    (serve kind tag o s).snd = if o.owner = .snd then (serveOrder tag o s).1.snd else s.snd := by
  split
  · rename_i h; simp only [serve, h]; rfl
  · rename_i h; exact Block.own_snd_of_ne h _ s

/-- A property of the sounder line's record that each of its own events, messages and orders keeps, every step keeps. -/
theorem step_keeps_snd {Q : Sounder → Prop} (hm : ∀ m s, Q s.snd → Q (soundTake m s).snd)
    (ho : ∀ tag o s, o.owner = .snd → Q s.snd → Q (serveOrder tag o s).1.snd)
    (he : ∀ f, Event .snd f → ∀ s, Q s.snd → Q (f s).snd) (hr : ∀ u, Q u → Q { u with roomDue := false })
    (hf : ∀ s, Q (fullReset s).snd) (ht : ∀ u, Q u → Q u.tick) {s t : State} (hs : Q s.snd) (h : step s = .next t) :
    Q t.snd := by
  refine step_keeps (P := fun s => Q s.snd) ?message (fun _ _ hu => hu) (fun _ _ hu => hu) (fun u hu => hr _ hu) ?event
    (fun u _ => hf u) (fun u hu => ht _ hu) hs h
  case message =>
    intro m u hu
    cases m with
    | snd m => exact hm m u hu
    | serve kind tag o =>
      change Q (serve kind tag o u).snd
      rw [serve_snd]
      split
      · exact ho tag o u ‹_› hu
      · exact hu
    | _ => exact hu
  case event =>
    intro b f hev u hu
    by_cases hb : b = .snd
    · subst hb; exact he f hev u hu
    · rw [Block.own_snd_of_ne hb]; exact hu

/-! ### What leaves the soundings in progress alone -/

@[simp] theorem Sounder.remove_playing (u : Sounder) (p : Sounding → Bool) : (u.remove p).playing = u.playing := rfl

@[simp] theorem Sounder.moveTeam_playing (u : Sounder) (x : Sounding) : (u.moveTeam x).playing = u.playing := by
  unfold Sounder.moveTeam; split <;> rfl

theorem soundArrive_playing (x : Sounding) (r : SoundReport) (s : State) :
    (soundArrive x r s).snd.playing = s.snd.playing := by
  unfold soundArrive
  split
  · rfl
  · split
    · rfl
    · split <;> rfl

theorem soundNew_playing (cls : SoundClass) (pattern : Nat) (zones : List Nat) (repeats : Nat) (o : SoundOrigin)
    (s : State) : (soundNew cls pattern zones repeats o s).snd.playing = s.snd.playing :=
  soundArrive_playing _ _ _

theorem soundPreempted_playing (x : Sounding) (s : State) : (soundPreempted x s).snd.playing = s.snd.playing := by
  unfold soundPreempted
  split
  case h_4 | h_5 => rfl
  all_goals exact soundArrive_playing _ _ _

/-- A full reset leaves no sounding, no reservation, and the team order list as it is at reset. -/
theorem fullReset_snd (s : State) :
    (fullReset s).snd = { State.reset.snd with patterns := (s.lnk.loadable.getD State.reset.image).patterns } := by
  obtain ⟨c, u, a, h⟩ := fullReset_frame s
  rw [h]; rfl

end Sys2Proof.Machine
end

section
/-! SUPPORT. No two soundings in progress hold one zone (R96), and the team order list moves at the start of a call-class
sounding alone (R104). -/

namespace Sys2Proof.Machine

/-! ### Zones apart: the operations on the soundings in progress -/

theorem Sounder.zonesApart_filter {u : Sounder} (h : u.zonesApart) (p : Playing → Bool) :
    { u with playing := u.playing.filter p }.zonesApart := h.filter p

/-- A sounding that starts on free zones shares none with those in progress. -/
theorem Sounder.zonesApart_append {u : Sounder} (h : u.zonesApart) {p : Playing}
    (hfree : ∀ q ∈ u.playing, ∀ z ∈ q.sounding.zones, z ∉ p.sounding.zones) :
    { u with playing := u.playing ++ [p] }.zonesApart :=
  List.pairwise_append.mpr ⟨h, List.pairwise_singleton _ p, fun q hq _ hr => List.mem_singleton.mp hr ▸ hfree q hq⟩

/-- Zones that count as free are held by no sounding in progress. -/
theorem Sounder.not_mem_of_zonesFree {u : Sounder} {zones : List Nat} (h : u.zonesFree zones = true) :
    ∀ q ∈ u.playing, ∀ z ∈ q.sounding.zones, z ∉ zones := by
  intro q hq z hz hzone
  have hnone := List.all_eq_true.mp h z hzone
  rw [Option.isNone_iff_eq_none, Sounder.holder?, List.find?_eq_none] at hnone
  exact hnone q hq (List.contains_iff_mem.mpr hz)

/-- A zone that the fire class takes is held by nothing else. -/
theorem Sounder.zonesApart_fireZone {u : Sounder} (h : u.zonesApart) (cls : SoundClass) (pattern z : Nat) :
    (u.fireZone cls pattern z).zonesApart := by
  unfold Sounder.fireZone
  dsimp only
  split
  · exact h
  · refine Sounder.zonesApart_append (u := { u with playing := u.playing.filter fun p => !p.sounding.zones.contains z })
      (h.filter _) fun q hq y hy hyz => ?_
    rw [List.mem_singleton.mp hyz] at hy
    simpa [hy] using (List.mem_filter.mp hq).2

theorem Sounder.zonesApart_foldl_fireZone {u : Sounder} (h : u.zonesApart) (cls : SoundClass) (pattern : Nat)
    (zones : List Nat) : (zones.foldl (fun u z => u.fireZone cls pattern z) u).zonesApart := by
  induction zones generalizing u with
  | nil => exact h
  | cons z zones ih => exact ih (Sounder.zonesApart_fireZone h cls pattern z)

/-- Whether zones stay apart depends on the soundings in progress alone. -/
theorem Sounder.zonesApart_of_playing {u v : Sounder} (h : u.zonesApart) (hp : v.playing = u.playing) :
    v.zonesApart := by
  unfold Sounder.zonesApart at h ⊢; rwa [hp]

theorem Sounder.zonesApart_of_soundings {u v : Sounder} (h : u.zonesApart)
    (hp : v.playing.map (·.sounding) = u.playing.map (·.sounding)) : v.zonesApart := by
  unfold Sounder.zonesApart at h ⊢
  rw [← List.pairwise_map (f := Playing.sounding) (R := fun x y => ∀ z, z ∈ x.zones → z ∉ y.zones)] at h ⊢
  rwa [hp]

/-! ### Zones apart: messages, events and orders -/

theorem zonesApart_preempt {s : State} (h : s.snd.zonesApart) (which : Playing → Bool) :
    (soundPreempt which s).snd.zonesApart := Sounder.zonesApart_filter h _

theorem zonesApart_reservationPut {s : State} (h : s.snd.zonesApart) (r : Reservation) :
    (soundReservationPut r s).snd.zonesApart := by
  unfold soundReservationPut; dsimp only
  split
  · exact zonesApart_preempt (s := s.onSnd fun u => u.putReservation r) h _
  · exact h

theorem zonesApart_startPass {s : State} (h : s.snd.zonesApart) : (soundStartPass s).snd.zonesApart := by
  unfold soundStartPass
  split
  · exact h
  · rename_i x hx
    have hstart : s.snd.canStart x = true := List.find?_some hx
    have hfree : s.snd.zonesFree x.zones = true := (Bool.and_eq_true_iff.mp hstart).1
    refine Sounder.zonesApart_of_playing (u := { s.snd with playing := s.snd.playing ++ [_] })
      (Sounder.zonesApart_append h ?_) (Sounder.moveTeam_playing _ _)
    exact Sounder.not_mem_of_zonesFree hfree

theorem zonesApart_startCue {s : State} (h : s.snd.zonesApart) (cue pattern repeats : Nat) (zones : List Nat) :
    (soundStartCue cue pattern repeats zones s).snd.zonesApart := by
  unfold soundStartCue
  split
  · exact Sounder.zonesApart_append h (Sounder.not_mem_of_zonesFree ‹_›)
  · exact h

theorem zonesApart_take {s : State} (h : s.snd.zonesApart) (m : SounderMsg) : (soundTake m s).snd.zonesApart := by
  cases m with
  | arrive => exact Sounder.zonesApart_of_playing h (soundNew_playing ..)
  | preempted x => exact Sounder.zonesApart_of_playing h (soundPreempted_playing x s)
  | startPass => exact zonesApart_startPass h
  | cancel o =>
    simp only [soundTake, soundCancel]
    split <;> exact Sounder.zonesApart_filter h _
  | fireOrder cls pattern zones => exact Sounder.zonesApart_foldl_fireZone (zonesApart_preempt h _) cls pattern zones
  | endFire => exact Sounder.zonesApart_filter h _
  | enterReservation =>
    simp only [soundTake, soundEnter]
    split
    · exact h
    · exact zonesApart_reservationPut h _
  | moveReservation =>
    simp only [soundTake, soundMove]
    split
    · exact h
    · split <;> exact zonesApart_reservationPut h _
  | removeReservation =>
    simp only [soundTake, soundRemove]
    split <;> exact h
  | clearReservations => exact h
  | startCue => exact zonesApart_startCue h ..
  | serviceReset => exact List.Pairwise.nil

theorem zonesApart_elementEnd {s : State} (h : s.snd.zonesApart) (stamp : Nat) :
    (soundElementEnd stamp s).snd.zonesApart := by
  refine Sounder.zonesApart_of_soundings h ?_
  simp only [soundElementEnd, State.onSnd_snd, List.map_map]
  refine List.map_congr_left fun p _ => ?_
  simp only [Function.comp_apply, Sounder.nextElement]
  split
  · split
    · rfl
    · split
      · rfl
      · split <;> rfl
  · rfl

theorem zonesApart_event {s : State} (h : s.snd.zonesApart) {f : State → State} (hf : Event .snd f) :
    (f s).snd.zonesApart := by
  cases hf with
  | element stamp => exact zonesApart_elementEnd h stamp
  | sounding stamp =>
    simp only [soundEnd]
    split
    · exact h
    · exact Sounder.zonesApart_filter h _
  | leadOut n => exact h

theorem zonesApart_order {s : State} (h : s.snd.zonesApart) (tag : Nat) {o : Order} (ho : o.owner = .snd) :
    (serveOrder tag o s).1.snd.zonesApart := by
  cases o with
  | setPattern n l =>
    simp only [serveOrder, orderSetPattern]
    split
    · exact h
    · split <;> exact h
  | sound p z r =>
    simp only [serveOrder, orderSound]
    split
    · exact h
    · split
      · exact h
      · exact Sounder.zonesApart_of_playing h (soundNew_playing ..)
  | readSounder p =>
    rw [serveOrder_reads rfl]
    exact h
  | _ => contradiction

/-- Settles O9: a sounding starts on free zones alone, and a zone taken by the fire classes is taken from its holder. -/
theorem stepsKeepZonesApart : Obligations.StepsKeepZonesApart := by
  intro s t _ hs hstep
  refine step_keeps_snd (Q := Sounder.zonesApart) (fun m s h => zonesApart_take h m) (fun tag o s ho h => zonesApart_order h tag ho)
    (fun f hf s h => zonesApart_event h hf) (fun _ h => h) (fun s => ?reset) (fun u h => ?tick) hs hstep
  case reset => rw [fullReset_snd]; exact List.Pairwise.nil
  case tick => exact Sounder.zonesApart_of_soundings h (by simp [Sounder.tick, Function.comp_def])

end Sys2Proof.Machine
end

section
/-! SUPPORT. The team order list (R104): the start of a call-class sounding alone changes it. -/

namespace Sys2Proof.Machine

theorem soundArrive_teamOrder (x : Sounding) (r : SoundReport) (s : State) :
    (soundArrive x r s).snd.teamOrder = s.snd.teamOrder := by
  unfold soundArrive
  split
  · rfl
  · split
    · rfl
    · split <;> rfl

theorem soundNew_teamOrder (cls : SoundClass) (pattern : Nat) (zones : List Nat) (repeats : Nat) (o : SoundOrigin)
    (s : State) : (soundNew cls pattern zones repeats o s).snd.teamOrder = s.snd.teamOrder :=
  soundArrive_teamOrder _ _ _

theorem foldl_fireZone_teamOrder (cls : SoundClass) (pattern : Nat) (zones : List Nat) (u : Sounder) :
    (zones.foldl (fun u z => u.fireZone cls pattern z) u).teamOrder = u.teamOrder := by
  induction zones generalizing u with
  | nil => rfl
  | cons z zones ih =>
    refine (ih _).trans ?_
    unfold Sounder.fireZone; dsimp only
    split <;> rfl

theorem soundReservationPut_teamOrder (r : Reservation) (s : State) :
    (soundReservationPut r s).snd.teamOrder = s.snd.teamOrder := by
  unfold soundReservationPut; dsimp only; split <;> rfl

/-- The start pass moves the team of the sounding it starts (R104). -/
theorem soundStartPass_teamOrder (s : State) :
    (soundStartPass s).snd.teamOrder =
      match s.snd.queue.find? s.snd.canStart with
      | some x =>
        match x.cls.isCall, x.origin with
        | true, .call _ team => (s.snd.teamOrder.filter (· != team)) ++ s.snd.teamOrder.filter (· == team)
        | _, _ => s.snd.teamOrder
      | none => s.snd.teamOrder := by
  unfold soundStartPass
  cases s.snd.queue.find? s.snd.canStart with
  | none => rfl
  | some x =>
    simp only [State.post_snd, State.onSnd_snd, Sounder.moveTeam]
    cases x.cls.isCall <;> cases x.origin <;> rfl

/-- No other message to the sounder line moves a team. -/
theorem soundTake_teamOrder {m : SounderMsg} (hm : m ≠ .startPass) (s : State) :
    (soundTake m s).snd.teamOrder = s.snd.teamOrder := by
  cases m with
  | arrive => exact soundNew_teamOrder ..
  | preempted x =>
    simp only [soundTake, soundPreempted]
    split
    case h_4 | h_5 => rfl
    all_goals exact soundArrive_teamOrder ..
  | startPass => contradiction
  | cancel => simp only [soundTake, soundCancel]; split <;> rfl
  | fireOrder => exact foldl_fireZone_teamOrder ..
  | enterReservation =>
    simp only [soundTake, soundEnter]
    split
    · rfl
    · exact soundReservationPut_teamOrder ..
  | moveReservation =>
    simp only [soundTake, soundMove]
    split
    · rfl
    · split <;> exact soundReservationPut_teamOrder ..
  | removeReservation => simp only [soundTake, soundRemove]; split <;> rfl
  | startCue => simp only [soundTake, soundStartCue]; split <;> rfl
  | endFire | clearReservations | serviceReset => rfl

theorem serveOrder_teamOrder {o : Order} (ho : o.owner = .snd) (tag : Nat) (s : State) :
    (serveOrder tag o s).1.snd.teamOrder = s.snd.teamOrder := by
  cases o with
  | setPattern =>
    simp only [serveOrder, orderSetPattern]
    split
    · rfl
    · split <;> rfl
  | sound =>
    simp only [serveOrder, orderSound]
    split
    · rfl
    · split
      · rfl
      · exact soundNew_teamOrder ..
  | readSounder => rw [serveOrder_reads rfl]
  | _ => contradiction

/-- Settles O10: of the messages that reach the sounder line, and of its orders, the start pass alone moves a team. -/
theorem teamOrderMovesAtCallStart : Obligations.TeamOrderMovesAtCallStart := by
  refine ⟨rfl, fun m s => ?_⟩
  cases m with
  | snd m =>
    by_cases hm : m = .startPass
    · subst hm
      refine (soundStartPass_teamOrder s).trans ?_
      cases s.snd.queue.find? s.snd.canStart <;> rfl
    · refine (soundTake_teamOrder hm s).trans ?_
      split
      · exact absurd (by simp_all) hm
      · rfl
  | serve kind tag o =>
    change (serve kind tag o s).snd.teamOrder = s.snd.teamOrder
    rw [serve_snd]
    split
    · exact serveOrder_teamOrder ‹_› tag s
    · rfl
  | _ => rfl

end Sys2Proof.Machine
end

section
/-! SUPPORT. What every operation of the chain supervisor but a configuration order keeps: the other blocks' records, the
chain's configuration, and rest where the landing shutters bar run permission (R7, R62). -/

namespace Sys2Proof.Machine

/-- What the chain supervisor's operations keep: the other records, the configuration, and a chain at rest while a landing
shutter bars run permission. -/
structure ChainKeeps (s t : State) : Prop where
  only : ChainOnly s t
  config : t.chn.config = s.chn.config
  moving : t.chn.state.moving = true → s.chn.state.moving = true ∨ s.sht.permit = true

namespace ChainKeeps

variable {s t : State}

theorem sht (h : ChainKeeps s t) : t.sht = s.sht := by
  have honly := h.only
  unfold ChainOnly at honly
  rw [honly]

theorem refl (s : State) : ChainKeeps s s := ⟨rfl, rfl, Or.inl⟩

/-! ### The operations they share -/

theorem post (h : ChainKeeps s t) (ms : List Msg) : ChainKeeps s (t.post ms) := ⟨h.only.post ms, h.config, h.moving⟩

theorem notify (h : ChainKeeps s t) (b : NoticeBody) : ChainKeeps s (t.notify b) := h.post _

theorem ask (h : ChainKeeps s t) (ms : List SupplyMsg) : ChainKeeps s (t.ask ms) := ⟨h.only.ask ms, h.config, h.moving⟩

theorem request (h : ChainKeeps s t) (o : MoveOwner) (k : MoveKind) (g : Nat) : ChainKeeps s (t.request o k g) := h.ask _

theorem onChn (h : ChainKeeps s t) {f : Chain → Chain} (hc : (f t.chn).config = t.chn.config)
    (hs : (f t.chn).state = t.chn.state) : ChainKeeps s (t.onChn f) :=
  ⟨h.only.onChn f, hc.trans h.config, fun hm => h.moving (hs ▸ hm)⟩

theorem branch {p : Prop} [Decidable p] {u : State} (h : p → ChainKeeps s t) (k : ChainKeeps s u) :
    ChainKeeps s (if p then t else u) := by
  split
  · exact h ‹_›
  · exact k

theorem ite {p : Prop} [Decidable p] {u : State} (h : ChainKeeps s t) (k : ChainKeeps s u) :
    ChainKeeps s (if p then t else u) := branch (fun _ => h) k

/-- Into a moving state from another, or with the landing shutters' permission. -/
theorem enter (h : ChainKeeps s t) {st : ChainState}
    (hst : st.moving = true → t.chn.state.moving = true ∨ s.sht.permit = true) : ChainKeeps s (chainEnter st t) :=
  ⟨h.only.enter st, h.config, fun hm => (hst hm).elim h.moving .inr⟩

/-- Into a state of rest. -/
theorem rest (h : ChainKeeps s t) {st : ChainState} (hst : st.moving = false) : ChainKeeps s (chainEnter st t) :=
  h.enter fun hm => absurd (hst ▸ hm) Bool.false_ne_true

theorem halt (h : ChainKeeps s t) : ChainKeeps s (chainHalt t) := (h.onChn rfl rfl).rest rfl

theorem unpark (h : ChainKeeps s t) : ChainKeeps s (chainUnpark t) := ite ((h.onChn rfl rfl).post _) h

theorem withdraw (h : ChainKeeps s t) : ChainKeeps s (chainWithdraw t) := ite ((h.onChn rfl rfl).ask _) h

theorem brake (h : ChainKeeps s t) (ht : t.chn.state.moving = true) : ChainKeeps s (chainBrake t) :=
  ((h.onChn rfl rfl).post _).enter fun _ => .inl ht

theorem park (h : ChainKeeps s t) (set : List Nat) : ChainKeeps s (chainPark set t) := ((h.onChn rfl rfl).rest rfl).post _

theorem lost (h : ChainKeeps s t) : ChainKeeps s (chainLost t) := ((h.onChn rfl rfl).post _).unpark

theorem trip (h : ChainKeeps s t) (cause : TripCause) : ChainKeeps s (chainTrip cause t) := by
  unfold chainTrip
  split
  · exact (h.onChn rfl rfl).notify _
  · have hended := ite (p := t.chn.state.moving) (h.withdraw.post [.sup (.ended .chain)]) h.withdraw
    have hunparked {u : State} (k : ChainKeeps s u) : ChainKeeps s (if cause = .brakeSlip then chainUnpark u else u) :=
      ite k.unpark k
    exact (hunparked ((hended.onChn rfl rfl).rest rfl)).notify _

/-! ### Requests, the clearance duty and stop requests -/

theorem askMove (h : ChainKeeps s t) (r : ChainRequest) : ChainKeeps s (chainAsk r t) :=
  ite (h.notify _) ((h.onChn rfl rfl).request ..)

theorem askCreep (h : ChainKeeps s t) (set : List Nat) : ChainKeeps s (chainAskCreep set t) :=
  ite (h.onChn rfl rfl) (ite ((h.withdraw.onChn rfl rfl).notify _) ((h.withdraw.onChn rfl rfl).request ..))

theorem duty (h : ChainKeeps s t) (set : List Nat) : ChainKeeps s (chainDuty set t).1 := by
  unfold chainDuty
  split
  · exact h.park set
  · exact h.askCreep set

theorem dutyAlone (h : ChainKeeps s t) : ChainKeeps s (chainDutyAlone t) := ite ((h.onChn rfl rfl).duty _) h

theorem extend (h : ChainKeeps s t) (set : List Nat) : ChainKeeps s (chainExtend set t).1 := by
  unfold chainExtend
  dsimp only
  split
  · exact (h.onChn rfl rfl).post _
  · exact h.unpark.halt.askCreep _

theorem plan (h : ChainKeeps s t) (set : List Nat) (stopping : Nat) : ChainKeeps s (chainPlan set stopping t) :=
  h.onChn rfl rfl

theorem late (h : ChainKeeps s t) (set : List Nat) : ChainKeeps s (chainLate set t) := h.onChn rfl rfl

theorem stop (h : ChainKeeps s t) (set : List Nat) : ChainKeeps s (chainStop set t).1 := by
  have hmove (hm : t.chn.state.moving = true) (u : State) (hu : ChainKeeps s u) (hsame : u.chn.state = t.chn.state) :
      ChainKeeps s (chainEnter .stopping u) := hu.enter fun _ => .inl (hsame ▸ hm)
  unfold chainStop
  split
  case h_1 hst => split; exacts [hmove (hst ▸ rfl) _ ((h.plan _ _).post _) rfl, h]
  case h_2 hst => split; exacts [hmove (hst ▸ rfl) _ (h.plan _ _) rfl, h]
  case h_3 =>
    split
    · split
      · exact h.late set
      · split; exacts [h, h.plan _ _]
    · exact h
  case h_4 => exact h.late set
  case h_5 =>
    split
    · exact h
    · split; exacts [h.askCreep set, h.duty set]
  case h_6 => exact h.extend set
  all_goals exact h

theorem stopEmpty (h : ChainKeeps s t) : ChainKeeps s (chainStopEmpty t).1 := by
  unfold chainStopEmpty
  split
  case h_1 | h_2 | h_3 | h_4 | h_5 => exact h.brake (by simp [*, ChainState.moving])
  case h_6 | h_7 | h_8 => exact ite h.withdraw h
  all_goals exact h

theorem stopOrder (h : ChainKeeps s t) (landings : List Nat) : ChainKeeps s (chainStopOrder landings t).1 := by
  unfold chainStopOrder
  dsimp only
  split
  · exact h.stopEmpty
  · split
    · exact h
    · exact (ite h.withdraw h).stop _

/-! ### Events from the other blocks -/

theorem join (h : ChainKeeps s t) (l : Nat) : ChainKeeps s (chainJoin l t) :=
  ite h (((h.onChn rfl rfl).post _).stop _)

theorem leave (h : ChainKeeps s t) (l : Nat) : ChainKeeps s (chainLeave l t) := ite h ((h.onChn rfl rfl).post _)

theorem shutterChanged (h : ChainKeeps s t) (permitted faulted : Bool) :
    ChainKeeps s (chainShutterChanged permitted faulted t) := ite (h.trip _) (ite h.dutyAlone h)

theorem abandon (h : ChainKeeps s t) (kind : ChainMove) : ChainKeeps s (chainAbandon kind t) := (h.onChn rfl rfl).post _

/-- Permission to run, as the landing shutters stand, lets a move begin. -/
theorem enter_permitted (h : ChainKeeps s t) {st : ChainState} (hp : s.sht.permit = true) :
    ChainKeeps s (chainEnter st t) := h.enter fun _ => .inr hp

theorem creep (h : ChainKeeps s t) (hp : s.sht.permit = true) : ChainKeeps s (chainCreep t) := by
  have hstarted := (h.onChn (f := fun c => { c with creepSet := [] }) rfl rfl).unpark.enter_permitted
    (st := .creeping) hp
  unfold chainCreep
  exact ite ((hstarted.plan _ _).post _) ((hstarted.plan _ _).onChn rfl rfl)

theorem admitted (kind : ChainMove) (s : State) : ChainKeeps s (chainAdmitted kind s) := by
  have h : ChainKeeps s (s.onChn fun c => { c with request := none }) := (refl s).onChn rfl rfl
  have permit_of_run {c : Chain} (hr : runPermission c s.sht = true) : s.sht.permit = true :=
    (Bool.and_eq_true_iff.mp hr).2
  have permit_of_start {c : Chain} {f : FireCondition} (hr : startPermission c s.sht f = true) :
      s.sht.permit = true := permit_of_run (Bool.and_eq_true_iff.mp (Bool.and_eq_true_iff.mp hr).1).1
  unfold chainAdmitted
  dsimp only
  split
  · exact branch (fun hr => (h.unpark.enter_permitted (permit_of_start hr)).onChn rfl rfl) (h.abandon _)
  · exact branch (fun hr => h.creep (permit_of_run hr)) (h.abandon _)
  · exact branch (fun hr => (h.unpark.enter_permitted (permit_of_run hr)).onChn rfl rfl) (h.abandon _)
  · exact branch (fun hr =>
      (h.unpark.enter_permitted (permit_of_run (Bool.and_eq_true_iff.mp hr).1)).onChn rfl rfl) (h.abandon _)

theorem queueMoved (h : ChainKeeps s t) : ChainKeeps s (chainQueueMoved t) := ite (h.onChn rfl rfl).dutyAlone h

theorem fireChanged (h : ChainKeeps s t) (left : Bool) : ChainKeeps s (chainFireChanged left t) := by
  unfold chainFireChanged
  split
  · exact h
  · split
    · rename_i hst
      refine h.brake ?_
      simp only [Bool.or_eq_true, Bool.and_eq_true, decide_eq_true_eq] at hst
      obtain hst | ⟨hst, -⟩ := hst <;> rw [hst] <;> rfl
    · dsimp only
      split
      · split
        · rename_i hst; exact h.brake (hst ▸ rfl)
        · exact h
      · exact h.stop _

theorem serviceReset (h : ChainKeeps s t) : ChainKeeps s (chainServiceReset t) := by
  have hcleared := (h.withdraw.onChn
    (f := fun c => { c with clearance := [], creepRefused := false, plan := none, creepCount := 0 }) rfl rfl).post
    [.fir .chainChanged]
  unfold chainServiceReset
  dsimp only
  split
  · rename_i hm; exact hcleared.brake (Bool.and_eq_true_iff.mp hm).1
  · exact hcleared

/-! ### Orders other than those of configuration -/

theorem orderRun (h : ChainKeeps s t) : ChainKeeps s (orderRunChain t).1 := by
  unfold orderRunChain
  iterate 5 (split; exact h)
  exact h.askMove _

theorem orderStop (h : ChainKeeps s t) (mask : Nat) : ChainKeeps s (orderStopChain mask t).1 := by
  unfold orderStopChain
  dsimp only
  iterate 2 (split; exact h)
  exact h.stopOrder _

theorem orderHalt (h : ChainKeeps s t) : ChainKeeps s (orderHaltChain t).1 := by
  unfold orderHaltChain
  split
  · exact h
  · split
    case h_1 | h_2 | h_3 | h_4 | h_5 | h_6 => exact h.brake (by simp [*, ChainState.moving])
    case h_7 | h_8 | h_9 | h_10 => exact h.withdraw
    case h_11 => exact h

theorem orderHome (h : ChainKeeps s t) : ChainKeeps s (orderHomeChain t).1 := by
  unfold orderHomeChain
  iterate 3 (split; exact h)
  exact h.askMove _

theorem orderResetTrip (h : ChainKeeps s t) : ChainKeeps s (orderResetChainTrip t).1 := by
  have hcleared := ((h.onChn (f := fun c => { c with trip := none, creepCount := 0 }) rfl rfl).unpark).notify .tripCleared
  unfold orderResetChainTrip
  iterate 2 (split; exact h)
  exact ite (hcleared.rest rfl) hcleared.halt.dutyAlone

theorem take (m : ChainMsg) (s : State) : ChainKeeps s (chainTake m s) := by
  cases m with
  | join l => exact (refl s).join l
  | leave l => exact (refl s).leave l
  | shutterChanged p f => exact (refl s).shutterChanged p f
  | admitted kind => exact admitted kind s
  | queueMoved => exact (refl s).queueMoved
  | fireChanged left => exact (refl s).fireChanged left
  | runForProgramme => exact (refl s).orderRun.post _
  | stopForProgramme => exact ((refl s).orderStop 0).post _
  | serviceReset => exact (refl s).serviceReset

/-! ### Sensors and timers -/

theorem parkLost (h : ChainKeeps s t) : ChainKeeps s (chainParkLost t) :=
  ite h ((h.unpark.rest rfl).notify _).dutyAlone

theorem drift (h : ChainKeeps s t) : ChainKeeps s (chainDrift t) := ite h (ite (h.trip _) (ite h.parkLost h))

theorem count_fields (c : Chain) (forward : Bool) :
    (c.count forward).config = c.config ∧ (c.count forward).state = c.state := by
  unfold Chain.count; dsimp only; split <;> exact ⟨rfl, rfl⟩

theorem count (h : ChainKeeps s t) (forward : Bool) : ChainKeeps s (chainCount forward t) := by
  obtain ⟨hconfig, hstate⟩ := count_fields t.chn forward
  have hcounted := h.onChn (f := fun c => { c.count forward with
    windowCount := c.windowCount + 1, lastForward := forward, plan := c.plan.map fun p => p.count forward }) hconfig hstate
  have hended {p : Prop} [Decidable p] := ite (p := p) ((hcounted.onChn
    (f := fun c => { c with homingTimer := .stopped }) rfl rfl).post [.sup (.ended .chain)]) hcounted
  unfold chainCount
  exact ite hended.drift hended

theorem index (h : ChainKeeps s t) : ChainKeeps s (chainIndex t) := by
  unfold chainIndex
  dsimp only
  split
  · rename_i hst
    exact ((h.onChn rfl rfl).brake (hst ▸ rfl)).post _
  · refine ite h (ite (ite (h.onChn rfl rfl).parkLost (h.onChn rfl rfl)) (h.trip _).lost)

theorem tag (h : ChainKeeps s t) (carTag : Tag2) : ChainKeeps s (chainTag carTag t) := by
  unfold chainTag
  split
  · split
    · exact (h.trip _).lost
    · split
      · exact h.onChn rfl rfl
      · exact ite (h.onChn rfl rfl) (h.trip _).lost
  · exact h

theorem missed (h : ChainKeeps s t) (set : List Nat) : ChainKeeps s (chainMissed set t) :=
  ((h.onChn rfl rfl).halt.notify _).askCreep _

theorem accept (h : ChainKeeps s t) : ChainKeeps s (chainAccept t) :=
  ite (h.park _) (ite (h.missed _) (ite ((h.onChn rfl rfl).missed _) (h.trip _)))

theorem atRest (h : ChainKeeps s t) : ChainKeeps s (chainAtRest t) :=
  ite ((h.onChn rfl rfl).rest rfl) (h.halt.notify _).dutyAlone

theorem judge (h : ChainKeeps s t) (n : Nat) : ChainKeeps s (chainJudge n t) := by
  unfold chainJudge
  dsimp only
  split
  case h_1 hst => exact ite (((h.post _).enter fun _ => .inl (hst ▸ rfl)).notify _) h
  case h_2 => exact ite (h.onChn rfl rfl) (ite (h.onChn rfl rfl) ((h.onChn rfl rfl).trip _))
  case h_3 | h_4 => exact ite h.accept h
  case h_5 => exact ite h.atRest h
  all_goals exact h

theorem window (h : ChainKeeps s t) : ChainKeeps s (chainWindow t) :=
  ite ((h.onChn rfl rfl).trip _) ((h.onChn rfl rfl).judge _)

theorem keyOn (h : ChainKeeps s t) : ChainKeeps s (chainKeyOn t) := by
  have hnoted := h.onChn (f := fun c => { c with keyOn := true }) rfl rfl
  unfold chainKeyOn
  split
  · exact h
  · dsimp only
    split
    · exact hnoted
    · split
      case h_1 | h_2 => exact hnoted.withdraw.unpark.rest rfl
      case h_3 | h_4 | h_5 | h_6 | h_7 => exact hnoted.withdraw.brake (by simp [*, ChainState.moving])
      all_goals exact hnoted.withdraw

theorem keyOff (h : ChainKeeps s t) : ChainKeeps s (chainKeyOff t) := by
  have hnoted := h.onChn (f := fun c => { c with keyOn := false }) rfl rfl
  unfold chainKeyOff
  dsimp only
  split
  · exact h
  · split
    case h_1 => exact hnoted.withdraw.halt.dutyAlone
    case h_2 => exact hnoted.brake (by simp_all [ChainState.moving])
    all_goals exact hnoted

theorem setButton_fields (c : Chain) (up held : Bool) :
    (c.setButton up held).config = c.config ∧ (c.setButton up held).state = c.state := by
  unfold Chain.setButton; split <;> exact ⟨rfl, rfl⟩

theorem press (h : ChainKeeps s t) (up : Bool) : ChainKeeps s (chainButtonPress up t) := by
  obtain ⟨hconfig, hstate⟩ := setButton_fields t.chn up true
  have hnoted := h.onChn (f := fun c => c.setButton up true) hconfig hstate
  unfold chainButtonPress
  refine ite h ?_
  dsimp only
  split
  case h_1 => exact ite hnoted.withdraw (hnoted.askMove _)
  case h_2 => rename_i hst; exact ite (hnoted.brake (by rw [hst]; rfl)) hnoted
  case h_3 => exact hnoted

theorem release (h : ChainKeeps s t) (up : Bool) : ChainKeeps s (chainButtonRelease up t) := by
  obtain ⟨hconfig, hstate⟩ := setButton_fields t.chn up false
  have hnoted := h.onChn (f := fun c => c.setButton up false) hconfig hstate
  unfold chainButtonRelease
  refine ite h ?_
  dsimp only
  split
  case h_1 => exact ite hnoted.withdraw hnoted
  case h_2 => rename_i hst; exact ite (hnoted.brake (by rw [hst]; rfl)) hnoted
  case h_3 => exact hnoted

theorem event {f : State → State} (hf : Event .chn f) (s : State) : ChainKeeps s (f s) := by
  have h := refl s
  cases hf with
  | count forward => exact h.count forward
  | index => exact h.index
  | carTag t => exact h.tag t
  | window => exact h.window
  | runup => exact ite (h.trip _) h
  | homing => exact ite h (ite (h.trip _) (ite (h.trip _) h))
  | safetyOpen => exact ite ((h.onChn rfl rfl).trip _) h
  | safetyClose => exact ite h (ite (h.onChn rfl rfl).dutyAlone (h.onChn rfl rfl))
  | keyOn => exact h.keyOn
  | keyOff => exact h.keyOff
  | press up => exact h.press up
  | release up => exact h.release up

end ChainKeeps

end Sys2Proof.Machine
end

section
/-! SUPPORT. The shutter table: a record read after a record is set; and what every operation of the shutter controller but
SET SHUTTER keeps: the other blocks' records, the configurations, and no landing shutter set on its way while the chain
moves (R62). -/

namespace Sys2Proof.Machine

/-! ### Reading a record -/

theorem present?_eq_some {α : Type} {l : List (Option α)} {n : Nat} {a : α} :
    present? l n = some a ↔ l[n]? = some (some a) := by
  unfold present?
  cases h : l[n]? <;> simp [Option.join]

theorem present?_set_self {α : Type} {l : List (Option α)} {n : Nat} {a : α} (h : present? l n = some a)
    (o : Option α) : present? (l.set n o) n = o := by
  have hn : n < l.length := (List.getElem?_eq_some_iff.mp (present?_eq_some.mp h)).1
  simp [present?, hn]

theorem present?_set_ne {α : Type} {l : List (Option α)} {n m : Nat} (h : n ≠ m) (o : Option α) :
    present? (l.set n o) m = present? l m := by
  simp [present?, List.getElem?_set_ne h]

theorem Shutters.get?_set_self {t : Shutters} {n : Nat} {r : Shutter} (h : t.get? n = some r) (o : Option Shutter) :
    (t.set n o).get? n = o := present?_set_self h o

theorem Shutters.get?_set_ne {t : Shutters} {n m : Nat} (h : n ≠ m) (o : Option Shutter) :
    (t.set n o).get? m = t.get? m := present?_set_ne h o

@[simp] theorem shutterAlter_sht (n : Nat) (old r : Shutter) (s : State) :
    (shutterAlter n old r s).sht = s.sht.set n (some r) := rfl

/-- A changed record is read as changed. -/
theorem shutterChange_get? (n : Nat) (f : Shutter → Shutter) (s : State) :
    (shutterChange n f s).sht.get? n = (s.sht.get? n).map f := by
  unfold shutterChange
  split
  · rename_i r h; rw [shutterAlter_sht, Shutters.get?_set_self h, h]; rfl
  · rename_i h; rw [h]; rfl

/-- A setting that keeps an entry's image under `f` keeps the images of the whole table. -/
theorem map_set_same {α β : Type} (f : α → β) {l : List α} {n : Nat} {a b : α} (h : l[n]? = some a) (hf : f b = f a) :
    (l.set n b).map f = l.map f := by
  obtain ⟨hn, rfl⟩ := List.getElem?_eq_some_iff.mp h
  rw [List.map_set, hf, ← List.getElem_map f (h := by simpa using hn), List.set_getElem_self]

/-! ### The states a shutter returns to -/

theorem Shutter.stillState_still (r : Shutter) : r.stillState.onTheWay = false := by
  unfold Shutter.stillState; split <;> rfl

/-! ### What the operations keep -/

/-- `t` is `s` but for the shutter table and the agenda, no configuration has changed, and while the chain moves every
landing shutter on its way was on its way before. -/
structure ShutterKeeps (s t : State) : Prop where
  only : t = { s with sht := t.sht, agenda := t.agenda }
  config : t.sht.table.map (Option.map Shutter.config) = s.sht.table.map (Option.map Shutter.config)
  way : s.chn.state.moving = true → ∀ n r, t.sht.get? n = some r → r.isLanding = true → r.state.onTheWay = true →
    ∃ q, s.sht.get? n = some q ∧ q.isLanding = true ∧ q.state.onTheWay = true

namespace ShutterKeeps

variable {s t : State} {n : Nat}

theorem chn (h : ShutterKeeps s t) : t.chn = s.chn := by rw [h.only]

theorem refl (s : State) : ShutterKeeps s s := ⟨rfl, rfl, fun _ _ r hr hl hw => ⟨r, hr, hl, hw⟩⟩

theorem trans {u : State} (h : ShutterKeeps s t) (k : ShutterKeeps t u) : ShutterKeeps s u where
  only := by rw [k.only, h.only]
  config := k.config.trans h.config
  way hm n r hr hl hw := by
    obtain ⟨q, hq, hql, hqw⟩ := k.way (h.chn ▸ hm) n r hr hl hw
    exact h.way hm n q hq hql hqw

theorem post (h : ShutterKeeps s t) (ms : List Msg) : ShutterKeeps s (t.post ms) where
  only := by rw [h.only]; rfl
  config := h.config
  way := h.way

theorem notify (h : ShutterKeeps s t) (b : NoticeBody) : ShutterKeeps s (t.notify b) := h.post _

theorem ask (h : ShutterKeeps s t) (ms : List SupplyMsg) : ShutterKeeps s (t.ask ms) where
  only := by rw [h.only]; rfl
  config := h.config
  way := h.way

theorem request (h : ShutterKeeps s t) (o : MoveOwner) (k : MoveKind) (g : Nat) : ShutterKeeps s (t.request o k g) :=
  h.ask _

theorem branch {p : Prop} [Decidable p] {u : State} (h : p → ShutterKeeps s t) (k : ShutterKeeps s u) :
    ShutterKeeps s (if p then t else u) := by
  split
  · exact h ‹_›
  · exact k

theorem ite {p : Prop} [Decidable p] {u : State} (h : ShutterKeeps s t) (k : ShutterKeeps s u) :
    ShutterKeeps s (if p then t else u) := branch (fun _ => h) k

/-- The record `r` of shutter `n` becomes `r'`, on its way only where it was so, where it is a hall shutter's, or where the
chain rests. -/
structure Allows (s : State) (r r' : Shutter) : Prop where
  config : r'.config = r.config
  way : s.chn.state.moving = true → r.isLanding = true → r'.state.onTheWay = true → r.state.onTheWay = true

theorem Allows.still {r r' : Shutter} (hs : r'.state.onTheWay = false := by rfl)
    (hc : r'.config = r.config := by rfl) : Allows s r r' :=
  ⟨hc, fun _ _ hw => absurd (hs ▸ hw) Bool.false_ne_true⟩

theorem Allows.same {r r' : Shutter} (hc : r'.config = r.config := by rfl) (hs : r'.state = r.state := by rfl) :
    Allows s r r' :=
  ⟨hc, fun _ _ hw => hs ▸ hw⟩

theorem Allows.going {r r' : Shutter} (hs : r.state.onTheWay = true) (hc : r'.config = r.config := by rfl) :
    Allows s r r' :=
  ⟨hc, fun _ _ _ => hs⟩

theorem set {r r' : Shutter} (h : ShutterKeeps s t) (hr : t.sht.get? n = some r) (ha : Allows s r r') :
    ShutterKeeps s (t.onSht fun u => u.set n (some r')) where
  only := by rw [h.only]; rfl
  config := (map_set_same (a := some r) (b := some r') (Option.map Shutter.config) (present?_eq_some.mp hr)
    (congrArg some ha.config)).trans h.config
  way hm m q hq hl hw := by
    by_cases hn : n = m
    · subst hn
      obtain rfl : r' = q := Option.some.inj ((Shutters.get?_set_self hr _).symm.trans hq)
      have hland : r.isLanding = true := by
        unfold Shutter.isLanding Shutter.landing? at hl ⊢; rwa [← ha.config]
      exact h.way hm n r hr hland (ha.way hm hland hw)
    · exact h.way hm m q ((Shutters.get?_set_ne hn _).symm.trans hq) hl hw

theorem alter {r r' : Shutter} (h : ShutterKeeps s t) (hr : t.sht.get? n = some r) (ha : Allows s r r') :
    ShutterKeeps s (shutterAlter n r r' t) := (h.set hr ha).post _

theorem change {f : Shutter → Shutter} (h : ShutterKeeps s t)
    (ha : ∀ r, t.sht.get? n = some r → Allows s r (f r)) : ShutterKeeps s (shutterChange n f t) := by
  unfold shutterChange
  split
  · exact h.alter ‹_› (ha _ ‹_›)
  · exact h

theorem goTo (h : ShutterKeeps s t) {st : ShutterState} (hst : st.onTheWay = false) :
    ShutterKeeps s (shutterChange n (fun r => r.goTo st) t) := h.change fun _ _ => .still hst

theorem goStill (h : ShutterKeeps s t) : ShutterKeeps s (shutterChange n (fun r => r.goTo r.stillState) t) :=
  h.change fun r _ => .still r.stillState_still

/-- The warning of a hall shutter, or while the chain rests. -/
theorem warn (h : ShutterKeeps s t)
    (hclear : s.chn.state.moving = true → ∀ r, t.sht.get? n = some r → r.isLanding = false) :
    ShutterKeeps s (shutterWarn n t) := by
  have hallow {r r' : Shutter} (hr : t.sht.get? n = some r) (hc : r'.config = r.config) : Allows s r r' :=
    ⟨hc, fun hm hl => absurd (hclear hm r hr ▸ hl) Bool.false_ne_true⟩
  have hwarned : ShutterKeeps s (shutterChange n (fun r =>
      { r.quiet with state := .warning, warningTimer := Timer.start r.config.warning }) t) :=
    h.change fun r hr => hallow hr rfl
  refine ite (hwarned.change fun r hr => .going ?_) hwarned
  rw [shutterChange_get?, Option.map_eq_some_iff] at hr
  obtain ⟨q, -, rfl⟩ := hr
  rfl

theorem parkedClear {l : Nat} (hl : s.chn.parkedClearOf l = true) : s.chn.state.moving = false := by
  have hst : s.chn.state = .parked := eq_of_beq (Bool.and_eq_true_iff.mp hl).1
  rw [hst]; rfl

theorem fall (h : ShutterKeeps s t) : ShutterKeeps s (shutterFall n t) := by
  unfold shutterFall
  split
  · rename_i hnone
    exact h.warn fun _ r hr => by simpa [hr, Shutter.isLanding] using hnone
  · rename_i l _
    refine branch (fun hl => h.warn fun hm => ?_) (h.change fun _ _ => .still)
    rw [parkedClear (h.chn ▸ hl)] at hm
    contradiction

theorem drop (h : ShutterKeeps s t) : ShutterKeeps s (shutterDrop n t).1 := by
  unfold shutterDrop
  split
  · exact h
  · split
    case h_1 | h_2 => exact h.fall
    case h_3 =>
      dsimp only
      split
      · exact (h.ask _).goTo rfl
      · exact (h.ask _).fall
    case h_4 => exact (h.post _).fall
    all_goals exact h

/-! ### Faults -/

theorem leaveSupply (h : ShutterKeeps s t) (r : Shutter) : ShutterKeeps s (shutterLeaveSupply n r t) := by
  unfold shutterLeaveSupply
  split
  · exact h.ask _
  · exact h.post _
  · exact h

theorem leaveSupply_sht (r : Shutter) (t : State) : (shutterLeaveSupply n r t).sht = t.sht := by
  unfold shutterLeaveSupply; split <;> rfl

theorem fault (h : ShutterKeeps s t) (cause : ShutterCause) : ShutterKeeps s (shutterFault n cause t) := by
  unfold shutterFault
  split
  · exact h
  · rename_i r hr
    exact ((h.leaveSupply r).alter ((leaveSupply_sht r t).symm ▸ hr) (.still)).notify _

/-! ### Raises -/

theorem raise (h : ShutterKeeps s t) : ShutterKeeps s (shutterRaise n t).1 := by
  unfold shutterRaise
  split
  · exact h
  · split
    · exact h
    · split
      case h_2 | h_3 => exact h.goStill
      case h_4 | h_5 =>
        split
        · exact h
        · split
          · exact h
          · exact (h.change fun _ _ => .still).request ..
      all_goals exact h

theorem raiseQuiet (h : ShutterKeeps s t) : ShutterKeeps s (shutterRaiseQuiet n t) := by
  have hraised : ShutterKeeps s (shutterRaise n t).1 := h.raise
  unfold shutterRaiseQuiet
  split
  all_goals rename_i heq; rw [heq] at hraised
  · exact hraised.notify _
  · exact hraised

theorem fireDrop (h : ShutterKeeps s t) : ShutterKeeps s (shutterFireDrop n t) := by
  unfold shutterFireDrop
  split
  · exact h
  · exact ite h.drop h

theorem admitted (h : ShutterKeeps s t) : ShutterKeeps s (shutterAdmitted n t) := by
  unfold shutterAdmitted
  split
  · exact h.post _
  · rename_i r hr
    dsimp only
    refine ite (h.post _) ?_
    split
    · exact ((h.post _).goStill.notify _).fireDrop
    · rename_i hclear
      refine h.change fun q hq => ⟨rfl, fun hm hl => ?_⟩
      obtain rfl : r = q := Option.some.inj (hr.symm.trans hq)
      rw [← h.chn] at hm
      simp [hm, hl] at hclear

theorem paused (h : ShutterKeeps s t) : ShutterKeeps s (shutterPaused n t) :=
  h.change fun r _ => by split <;> exact .same

theorem restarted (h : ShutterKeeps s t) : ShutterKeeps s (shutterRestarted n t) :=
  h.change fun r _ => by split <;> exact .same

/-! ### Inputs -/

theorem close {r : Shutter} (h : ShutterKeeps s t) (hr : t.sht.get? n = some r) : ShutterKeeps s (shutterClose n r t) :=
  (h.alter hr (.still)).notify _

theorem opened {r : Shutter} (h : ShutterKeeps s t) (hr : t.sht.get? n = some r) :
    ShutterKeeps s (shutterOpened n r t) := ((h.post _).alter hr (.still)).notify _

theorem moved (h : ShutterKeeps s t) (old : Position) : ShutterKeeps s (shutterMoved n old t) := by
  unfold shutterMoved
  split
  · exact h
  · rename_i r hr
    dsimp only
    split
    case h_1 => exact h
    case h_2 => exact h.alter hr (.same)
    case h_9 | h_10 => exact ite (h.fault _) (ite (h.close hr) (ite h (h.fault _)))
    case h_11 => exact ite (h.fault _) (ite (h.opened hr) (ite (h.fault _) h))
    all_goals exact ite (h.fault _) (ite (h.fault _) (h.fault _))

theorem fourth (h : ShutterKeeps s t) (hway : ∀ r, t.sht.get? n = some r → r.state.onTheWay = true) :
    ShutterKeeps s (shutterFourth n t) := by
  unfold shutterFourth
  split
  · exact h
  · rename_i r hr
    exact ite ((h.alter hr (.going (hway r hr))).notify _)
      (ite ((h.alter hr (.still)).notify _) (((h.alter hr (.still)).request ..).notify _))

theorem edge (h : ShutterKeeps s t) : ShutterKeeps s (shutterEdge n t) := by
  unfold shutterEdge
  split
  · exact h
  · rename_i r hr
    split
    · rename_i hst
      have hgoing : r.state.onTheWay = true := hst ▸ rfl
      refine ite h (ite ((h.alter hr (.going hgoing)).notify _) (h.fourth fun q hq => ?_))
      exact Option.some.inj (hr.symm.trans hq) ▸ hgoing
    · exact h.alter hr (.same)
    · exact h

theorem link (h : ShutterKeeps s t) : ShutterKeeps s (shutterLink n t) := by
  unfold shutterLink
  split
  · exact h
  · refine ite h ?_
    split
    case h_1 | h_2 | h_3 | h_4 | h_5 | h_6 => exact h.fault _
    case h_11 => exact h
    all_goals exact h.notify _

theorem read (h : ShutterKeeps s t) (i : ShutterInputs) : ShutterKeeps s (shutterRead n i t) := by
  unfold shutterRead
  split
  · exact h.set ‹_› (.same)
  · exact h

theorem inputs (h : ShutterKeeps s t) (i : ShutterInputs) : ShutterKeeps s (shutterInputs n i t) := by
  unfold shutterInputs
  split
  · exact h
  · split
    · exact h.read i
    · exact (h.read i).post _

theorem place (h : ShutterKeeps s t) : ShutterKeeps s (shutterPlace n t) := by
  unfold shutterPlace
  split
  · exact h
  · rename_i r hr
    refine (((ite ((h.set hr (.same)).fault _) (h.alter hr (.still ?_))).notify _).link).fireDrop
    exact Shutter.stillState_still _

theorem found (h : ShutterKeeps s t) (i : ShutterInputs) : ShutterKeeps s (shutterFound n i t) := by
  unfold shutterFound
  split
  · exact h
  · split
    · exact (h.read i).place
    · exact (h.read i).change fun _ _ => .same
    · exact h.read i

theorem lost (h : ShutterKeeps s t) : ShutterKeeps s (shutterLost n t) := by
  unfold shutterLost
  split
  · exact h
  · split
    case h_1 | h_2 => exact h
    all_goals exact h.fault _

/-! ### The park record and service reset -/

theorem release (h : ShutterKeeps s t) : ShutterKeeps s (shutterRelease n t) := by
  unfold shutterRelease
  split
  · exact h
  · rename_i r hr
    refine branch (fun hl => h.warn fun hm => ?_) h
    obtain ⟨l, -, hclear⟩ := (Option.any_eq_true ..).mp (Bool.and_eq_true_iff.mp hl).2
    rw [parkedClear (h.chn ▸ hclear)] at hm
    contradiction

theorem serviceOne (h : ShutterKeeps s t) : ShutterKeeps s (shutterServiceOne n t) := by
  unfold shutterServiceOne
  split
  · exact h
  · split
    case h_1 | h_2 => exact h.goStill
    case h_3 => exact (h.leaveSupply _).goStill
    case h_4 => exact (h.leaveSupply _).goTo rfl
    all_goals exact h

theorem foldl_serviceOne (l : List Nat) (h : ShutterKeeps s t) :
    ShutterKeeps s (l.foldl (fun s n => shutterServiceOne n s) t) := by
  induction l generalizing t with
  | nil => exact h
  | cons n l ih => exact ih h.serviceOne

theorem take (m : ShutterMsg) (s : State) : ShutterKeeps s (shutterTake m s) := by
  have h := refl s
  cases m with
  | drop n => exact h.drop
  | raise n => exact h.raiseQuiet
  | parkChanged => exact h.post _
  | release n => exact h.release
  | admitted n => exact h.admitted
  | paused n => exact h.paused
  | restarted n => exact h.restarted
  | inputs n i => exact h.inputs i
  | position n old => exact h.moved old
  | edge n => exact h.edge
  | link n => exact h.link
  | found n i => exact h.found i
  | lost n => exact h.lost
  | serviceReset => exact foldl_serviceOne _ h

/-! ### Timers -/

theorem event {f : State → State} (hf : Event .sht f) (s : State) : ShutterKeeps s (f s) := by
  have h := refl s
  have hstate {n : Nat} {st : ShutterState} {timer : Shutter → Timer}
      (hany : ((s.sht.get? n).any fun r => r.state == st && (timer r).isRunning) = true) {r : Shutter}
      (hr : s.sht.get? n = some r) : r.state = st := by
    rw [hr] at hany
    exact eq_of_beq (Bool.and_eq_true_iff.mp hany).1
  cases hf with
  | warning n => exact branch (fun hany => h.change fun r hr => .going (by rw [hstate hany hr]; rfl)) h
  | descent n => exact ite (h.fault _) h
  | clear n => exact branch (fun hany => h.change fun r hr => .going (by rw [hstate hany hr]; rfl)) h
  | hold n => exact branch (fun hany => h.fourth fun r hr => by rw [hstate hany hr]; rfl) h
  | raise n => exact ite (h.fault _) h

/-! ### Orders other than SET SHUTTER -/

theorem withShutter {f : Shutter → State × Result} (h : ShutterKeeps s t)
    (hf : ∀ r, t.sht.get? n = some r → ShutterKeeps s (f r).1) : ShutterKeeps s (withShutter n t f).1 := by
  unfold Machine.withShutter
  split
  · exact h
  · split
    · exact h
    · exact hf _ ‹_›

theorem orderDrop (s : State) (n : Nat) : ShutterKeeps s (orderDropShutter n s).1 :=
  (refl s).withShutter fun _ _ => (refl s).drop

theorem orderRaise (s : State) (n : Nat) : ShutterKeeps s (orderRaiseShutter n s).1 :=
  (refl s).withShutter fun _ _ => (refl s).raise

theorem orderForce (s : State) (n : Nat) : ShutterKeeps s (orderForceDrop n s).1 := by
  refine (refl s).withShutter fun r hr => ?_
  split
  · exact refl s
  · split
    · exact refl s
    · rename_i hstill
      refine ((refl s).set hr (.same)).warn fun hm => ?_
      have hrest : s.chn.state.moving = false := by
        simp only [Chain.stationary, Bool.not_eq_true', Bool.not_eq_false, Bool.and_eq_true, Bool.or_eq_true,
          beq_iff_eq] at hstill
        rcases hstill.1 with ((hst | hst) | hst) | hst <;> rw [hst] <;> rfl
      rw [hrest] at hm
      contradiction

theorem orderClear (s : State) (n : Nat) : ShutterKeeps s (orderClearShutterFault n s).1 := by
  refine (refl s).withShutter fun r hr => ?_
  split
  · exact refl s
  · exact (((refl s).alter hr (.still (Shutter.stillState_still _))).notify _).fireDrop

end ShutterKeeps

end Sys2Proof.Machine
end

section
/-! SUPPORT. No landing shutter is on its way while the chain moves (R62), through every message, event and order. -/

namespace Sys2Proof.Machine

/-- The invariant, shutter by shutter. -/
theorem State.landingSafe_iff (s : State) : s.landingSafe = true ↔
    (s.chn.state.moving = true → ∀ n r, s.sht.get? n = some r → r.isLanding = true → r.state.onTheWay = false) := by
  have hall : (s.sht.table.all fun o => o.all fun r => !r.isLanding || !r.state.onTheWay) = true ↔
      ∀ n r, s.sht.get? n = some r → r.isLanding = true → r.state.onTheWay = false := by
    simp only [List.all_eq_true, Option.all_eq_true, Bool.or_eq_true, Bool.not_eq_true']
    constructor
    · intro h n r hr hl
      have := h (some r) (List.mem_of_getElem? (present?_eq_some.mp hr)) r rfl
      simpa [hl] using this
    · intro h o ho r hr
      obtain ⟨n, hn⟩ := List.getElem?_of_mem ho
      have := h n r (present?_eq_some.mpr (hr ▸ hn))
      cases hl : r.isLanding
      · exact .inl rfl
      · exact .inr (this hl)
  unfold State.landingSafe
  rw [Bool.or_eq_true, hall, Bool.not_eq_true']
  cases s.chn.state.moving <;> simp

/-- Permission to run means that no landing shutter is on its way (R7). -/
theorem Shutters.still_of_permit {t : Shutters} (h : t.permit = true) {n : Nat} {r : Shutter} (hr : t.get? n = some r)
    (hl : r.isLanding = true) : r.state.onTheWay = false := by
  simp only [Shutters.permit, List.all_eq_true, Option.all_eq_true] at h
  have hpermits := h (some r) (List.mem_of_getElem? (present?_eq_some.mp hr)) r rfl
  rw [hl] at hpermits
  cases hst : r.state <;> simp_all [ShutterState.permits, ShutterState.onTheWay]

theorem ChainKeeps.landingSafe {s t : State} (h : ChainKeeps s t) (hs : s.landingSafe = true) : t.landingSafe = true := by
  rw [State.landingSafe_iff] at hs ⊢
  rw [h.sht]
  intro hm n r hr hl
  obtain hmoving | hpermit := h.moving hm
  · exact hs hmoving n r hr hl
  · exact Shutters.still_of_permit hpermit hr hl

theorem ShutterKeeps.landingSafe {s t : State} (h : ShutterKeeps s t) (hs : s.landingSafe = true) :
    t.landingSafe = true := by
  rw [State.landingSafe_iff] at hs ⊢
  rw [h.chn]
  intro hm n r hr hl
  by_contra hway
  obtain ⟨q, hq, hql, hqw⟩ := h.way hm n r hr hl (by simpa using hway)
  rw [hs hm n q hq hql] at hqw
  contradiction

/-! ### The configuration orders -/

/-- What a configuration order of the chain does beside the configuration: it brings no chain into motion. -/
structure ChainRests (s t : State) : Prop where
  only : ChainOnly s t
  rests : t.chn.state.moving = true → s.chn.state.moving = true

namespace ChainRests

variable {s t : State}

theorem landingSafe (h : ChainRests s t) (hs : s.landingSafe = true) : t.landingSafe = true := by
  have honly := h.only
  rw [State.landingSafe_iff] at hs ⊢
  unfold ChainOnly at honly
  rw [honly]
  exact fun hm => hs (h.rests hm)

theorem refl (s : State) : ChainRests s s := ⟨rfl, id⟩

theorem post (h : ChainRests s t) (ms : List Msg) : ChainRests s (t.post ms) := ⟨h.only.post ms, h.rests⟩

theorem onChn (h : ChainRests s t) {f : Chain → Chain} (hs : (f t.chn).state = t.chn.state) :
    ChainRests s (t.onChn f) := ⟨h.only.onChn f, fun hm => h.rests (hs ▸ hm)⟩

theorem ite {p : Prop} [Decidable p] {u : State} (h : ChainRests s t) (k : ChainRests s u) :
    ChainRests s (if p then t else u) := by
  split
  · exact h
  · exact k

theorem rest (h : ChainRests s t) {st : ChainState} (hst : st.moving = false) : ChainRests s (chainEnter st t) :=
  ⟨h.only.enter st, fun hm => absurd (hst ▸ hm) Bool.false_ne_true⟩

theorem lost (h : ChainRests s t) : ChainRests s (chainLost t) := by
  have hlost := (h.onChn (f := fun c => { c with known := false, lastCar := none, plan := none }) rfl).post [.fir .chainChanged]
  exact ite ((hlost.onChn rfl).post _) hlost

theorem configure (h : ChainRests s t) (config : ChainConfig) (rebuild : Bool) :
    ChainRests s (chainConfigure config rebuild t) := by
  have hset {p : Prop} [Decidable p] := ite (p := p) ((h.onChn (f := fun c => { c with config := config }) rfl).post [.clr])
    (h.onChn (f := fun c => { c with config := config }) rfl)
  exact ite (hset.rest rfl) hset

theorem refit (h : ChainRests s t) : ChainRests s (t.onChn Chain.refit) :=
  h.onChn (by unfold Chain.refit; dsimp only; split <;> rfl)

end ChainRests

theorem orderSetChainGeometry_rests (g : GeometryFields) (s : State) : ChainRests s (orderSetChainGeometry g s).1 := by
  unfold orderSetChainGeometry
  dsimp only
  iterate 4 (split; exact .refl s)
  exact ((ChainRests.refl s).lost.configure _ _).refit

theorem orderSetLanding_rests (n : Nat) (fields : Option LandingFields) (s : State) :
    ChainRests s (orderSetLanding n fields s).1 := by
  unfold orderSetLanding
  iterate 3 (split; exact .refl s)
  split
  · unfold orderLandingPresent
    dsimp only
    iterate 3 (split; exact .refl s)
    exact (ChainRests.refl s).lost.configure _ _
  · unfold orderLandingAbsent
    dsimp only
    iterate 2 (split; exact .refl s)
    exact (ChainRests.refl s).lost.configure _ _

theorem orderSetChainTiming_rests (t : TimingFields) (s : State) : ChainRests s (orderSetChainTiming t s).1 := by
  unfold orderSetChainTiming
  dsimp only
  iterate 3 (split; exact .refl s)
  exact (ChainRests.refl s).configure _ _

/-- A record freshly set, or absent, is not on its way. -/
theorem orderSetShutter_landingSafe (n : Nat) (fields : Option ShutterFields) {s : State} (hs : s.landingSafe = true) :
    (orderSetShutter n fields s).1.landingSafe = true := by
  have hreplace (new : Option Shutter) (hnew : ∀ r ∈ new, r.state.onTheWay = false) :
      (shutterReplace n (s.sht.get? n) new s).landingSafe = true := by
    rw [State.landingSafe_iff] at hs ⊢
    intro hm m r hr hl
    change (s.sht.set n new).get? m = some r at hr
    by_cases hn : n = m
    · subst hn
      have hmem := present?_eq_some.mp hr
      exact hnew r (by simpa [Shutters.set, List.getElem?_set] using (List.getElem?_eq_some_iff.mp hmem).2)
    · exact hs hm m r ((Shutters.get?_set_ne hn _).symm.trans hr) hl
  unfold orderSetShutter
  dsimp only
  iterate 3 (split; exact hs)
  cases fields with
  | none => exact hreplace none fun _ h => absurd h (Option.not_mem_none _)
  | some f =>
    dsimp only
    iterate 2 (split; exact hs)
    exact hreplace (some f.config.fresh) fun r hr => Option.mem_some_iff.mp hr ▸ rfl

theorem orderSetShutter_chn (n : Nat) (fields : Option ShutterFields) (s : State) :
    (orderSetShutter n fields s).1.chn = s.chn := by
  unfold orderSetShutter
  dsimp only
  iterate 3 (split; rfl)
  cases fields with
  | none => rfl
  | some f =>
    dsimp only
    iterate 2 (split; rfl)
    rfl

/-! ### Orders and steps -/

/-- An event of one block keeps the invariant, where the chain's touches no shutter and the shutters' not the chain. -/
theorem Block.own_landingSafe {b : Block} {f : State → State} {s : State} (hs : s.landingSafe = true)
    (hchn : b = .chn → (f s).landingSafe = true ∧ (f s).sht = s.sht)
    (hsht : b = .sht → (f s).landingSafe = true ∧ (f s).chn = s.chn) : (b.own f s).landingSafe = true := by
  cases b with
  | chn =>
    obtain ⟨h, hsame⟩ := hchn rfl
    unfold State.landingSafe at h ⊢
    rwa [hsame] at h
  | sht =>
    obtain ⟨h, hsame⟩ := hsht rfl
    unfold State.landingSafe at h ⊢
    rwa [hsame] at h
  | _ => exact hs

theorem ChainKeeps.safe {s t : State} (h : ChainKeeps s t) (hs : s.landingSafe = true) :
    t.landingSafe = true ∧ t.sht = s.sht := ⟨h.landingSafe hs, h.sht⟩

theorem ChainRests.safe {s t : State} (h : ChainRests s t) (hs : s.landingSafe = true) :
    t.landingSafe = true ∧ t.sht = s.sht :=
  ⟨h.landingSafe hs, by have honly := h.only; unfold ChainOnly at honly; rw [honly]⟩

theorem ShutterKeeps.safe {s t : State} (h : ShutterKeeps s t) (hs : s.landingSafe = true) :
    t.landingSafe = true ∧ t.chn = s.chn := ⟨h.landingSafe hs, h.chn⟩

theorem serveOrder_chn_safe {o : Order} (ho : o.owner = .chn) (tag : Nat) {s : State} (hs : s.landingSafe = true) :
    (serveOrder tag o s).1.landingSafe = true ∧ (serveOrder tag o s).1.sht = s.sht := by
  have h := ChainKeeps.refl s
  cases o with
  | runChain => exact h.orderRun.safe hs
  | stopChain mask => exact (h.orderStop mask).safe hs
  | haltChain => exact h.orderHalt.safe hs
  | homeChain => exact h.orderHome.safe hs
  | resetChainTrip => exact h.orderResetTrip.safe hs
  | setChainGeometry g => exact (orderSetChainGeometry_rests g s).safe hs
  | setLanding n f => exact (orderSetLanding_rests n f s).safe hs
  | setChainTiming t => exact (orderSetChainTiming_rests t s).safe hs
  | readClearance => rw [serveOrder_reads rfl]; exact ⟨hs, rfl⟩
  | _ => contradiction

theorem serveOrder_sht_safe {o : Order} (ho : o.owner = .sht) (tag : Nat) {s : State} (hs : s.landingSafe = true) :
    (serveOrder tag o s).1.landingSafe = true ∧ (serveOrder tag o s).1.chn = s.chn := by
  cases o with
  | dropShutter n => exact (ShutterKeeps.orderDrop s n).safe hs
  | forceDrop n => exact (ShutterKeeps.orderForce s n).safe hs
  | raiseShutter n => exact (ShutterKeeps.orderRaise s n).safe hs
  | clearShutterFault n => exact (ShutterKeeps.orderClear s n).safe hs
  | setShutter n f => exact ⟨orderSetShutter_landingSafe n f hs, orderSetShutter_chn n f s⟩
  | readShutter => rw [serveOrder_reads rfl]; exact ⟨hs, rfl⟩
  | _ => contradiction

theorem handle_landingSafe (m : Msg) {s : State} (hs : s.landingSafe = true) : (handle m s).landingSafe = true := by
  cases m with
  | chn m => exact Block.own_landingSafe (b := .chn) hs (fun _ => (ChainKeeps.take m s).safe hs) nofun
  | sht m => exact Block.own_landingSafe (b := .sht) hs nofun fun _ => (ShutterKeeps.take m s).safe hs
  | serve kind tag o =>
    exact Block.own_landingSafe (b := o.owner) hs (fun ho => serveOrder_chn_safe ho tag hs) fun ho =>
      serveOrder_sht_safe ho tag hs
  | _ => exact hs

theorem event_landingSafe {b : Block} {f : State → State} (hf : Event b f) {s : State} (hs : s.landingSafe = true) :
    (b.own f s).landingSafe = true := by
  refine Block.own_landingSafe hs (fun hb => ?_) fun hb => ?_ <;> subst hb
  · exact (ChainKeeps.event hf s).safe hs
  · exact (ShutterKeeps.event hf s).safe hs

/-- After a full reset every shutter is UNSEEN. -/
theorem fullReset_landingSafe (s : State) : (fullReset s).landingSafe = true := by
  obtain ⟨c, u, a, h⟩ := fullReset_frame s
  rw [h, State.landingSafe_iff]
  intro _ n r hr _
  have hmem := List.mem_of_getElem? (present?_eq_some.mp hr)
  simp only [loaded, List.mem_map] at hmem
  obtain ⟨o, -, ho⟩ := hmem
  obtain ⟨i, -, rfl⟩ := Option.map_eq_some_iff.mp ho
  rfl

theorem tick_landingSafe {s : State} (hs : s.landingSafe = true) : (tick s).landingSafe = true := by
  rw [State.landingSafe_iff] at hs ⊢
  intro hm n r hr hl
  have hget : (tick s).sht.get? n = (s.sht.get? n).map Shutter.tick := by
    simp only [tick, Shutters.get?, present?, List.getElem?_map]
    cases s.sht.table[n]? <;> rfl
  obtain ⟨q, hq, rfl⟩ := Option.map_eq_some_iff.mp (hget ▸ hr)
  exact hs hm n q hq hl

/-- Settles O8: the chain begins to move only with the landing shutters' permission, and a landing shutter is set on its way
only beside a chain at rest. -/
theorem stepsKeepLandingsSafe : Obligations.StepsKeepLandingsSafe := by
  intro s t _ hs hstep
  exact step_keeps (P := fun s => s.landingSafe = true) (fun m _ h => handle_landingSafe m h) (fun _ _ h => h)
    (fun _ _ h => h) (fun _ h => h) (fun _ _ hf _ h => event_landingSafe hf h) (fun s _ => fullReset_landingSafe s)
    (fun _ h => tick_landingSafe h) hs hstep

end Sys2Proof.Machine
end

section
/-! SUPPORT. What one block makes of its own record, whatever reaches it; and what every step keeps of one record. -/

namespace Sys2Proof.Machine

/-- Whatever a block takes: a message, an order it owns, or an event. -/
inductive Takes : Block → (State → State) → Prop where
  | chn (m : ChainMsg) : Takes .chn (chainTake m)
  | sht (m : ShutterMsg) : Takes .sht (shutterTake m)
  | sup (m : SupplyMsg) : Takes .sup (supplyTake m)
  | flr (m : FloorMsg) : Takes .flr (floorTake m)
  | snd (m : SounderMsg) : Takes .snd (soundTake m)
  | cal (m : CallMsg) : Takes .cal (callTake m)
  | clk (m : ClockMsg) : Takes .clk (clockTake m)
  | prg (m : ProgrammeMsg) : Takes .prg (programmeTake m)
  | fir (m : FireMsg) : Takes .fir (fireTake m)
  | lnk (m : LinkMsg) : Takes .lnk (linkTake m)
  | order {b : Block} (tag : Nat) (o : Order) (ho : o.owner = b) : Takes b fun s => (serveOrder tag o s).1
  | event {b : Block} {f : State → State} (hf : Event b f) : Takes b f

/-- A property that whatever a block takes keeps, the stored table, the agenda and the queue aside, every step keeps. -/
theorem step_keeps_own {P : State → Prop} (ho : ∀ b f, Takes b f → ∀ s, P s → P (b.own f s))
    (hc : ∀ s c, P s → P { s with clr := c }) (ha : ∀ s l, P s → P { s with agenda := l })
    (hp : ∀ s l, P s → P { s with pending := l }) (hr : ∀ s, P s → P (tellRoom s)) (hf : ∀ s, P s → P (fullReset s))
    (ht : ∀ s, P s → P (tick s)) {s t : State} (hs : P s) (h : step s = .next t) : P t := by
  refine step_keeps ?message ha hp hr (fun b f hev s h => ho b f (.event hev) s h) hf ht hs h
  intro m s hs
  cases m with
  | chn m => exact ho _ _ (.chn m) s hs
  | clr => exact hc s _ hs
  | sht m => exact ho _ _ (.sht m) s hs
  | sup m => exact ho _ _ (.sup m) s hs
  | flr m => exact ho _ _ (.flr m) s hs
  | snd m => exact ho _ _ (.snd m) s hs
  | cal m => exact ho _ _ (.cal m) s hs
  | clk m => exact ho _ _ (.clk m) s hs
  | prg m => exact ho _ _ (.prg m) s hs
  | fir m => exact ho _ _ (.fir m) s hs
  | lnk m => exact ho _ _ (.lnk m) s hs
  | serve kind tag o => exact ha _ _ (ho _ _ (.order tag o rfl) s hs)

end Sys2Proof.Machine
end

section
/-! SUPPORT. The service link's buffers keep to their places (R184 to R186), and its transmitter is never idle beside a
waiting frame. -/

namespace Sys2Proof.Machine

theorem Link.bounded_iff (k : Link) : k.bounded = true ↔
    k.requests.length ≤ 2 ∧ k.answers.length ≤ 4 ∧ k.notices.length ≤ 32 ∧ k.count < 256 := by
  simp only [Link.bounded, Bool.and_eq_true, decide_eq_true_eq, and_assoc]
  rfl

namespace Link

variable {k : Link}

theorem choose_bounded (h : k.bounded = true) : k.choose.bounded = true := by
  rw [bounded_iff] at h ⊢
  obtain ⟨hrequests, hanswers, hnotices, hcount⟩ := h
  unfold choose
  split
  · rename_i heq; rw [heq] at hanswers; exact ⟨hrequests, Nat.le_of_succ_le hanswers, hnotices, hcount⟩
  · rename_i hnone heq
    rw [heq] at hnotices
    exact ⟨hrequests, hanswers, Nat.le_of_succ_le hnotices, Nat.mod_lt _ (by decide)⟩
  · exact ⟨hrequests, hanswers, hnotices, hcount⟩

theorem start_bounded (h : k.bounded = true) : k.start.bounded = true := by
  unfold start
  split
  · exact choose_bounded h
  · exact h

theorem takeNotice_bounded (h : k.bounded = true) (n : Notice) : (k.takeNotice n).bounded = true := by
  rw [bounded_iff] at h ⊢
  obtain ⟨hrequests, hanswers, hnotices, hcount⟩ := h
  unfold takeNotice
  split
  · rename_i hroom
    exact ⟨hrequests, hanswers, by simpa [Config.noticePlaces] using hroom, hcount⟩
  · refine ⟨hrequests, hanswers, ?_, hcount⟩
    dsimp only
    split
    · rename_i hinfo
      obtain ⟨m, hm, hcls⟩ := List.any_eq_true.mp (Bool.and_eq_true_iff.mp hinfo).2
      have hone := List.length_eraseP_of_mem (p := fun m => m.body.cls == .info) hm hcls
      have hpos := List.length_pos_of_mem hm
      simp only [List.length_append, List.length_singleton, hone]
      omega
    · exact hnotices

theorem putAnswer_bounded (h : k.bounded = true) (a : Answer) : (k.putAnswer a).bounded = true := by
  unfold putAnswer
  split
  · rename_i hroom
    rw [hasRoom_iff] at hroom
    rw [bounded_iff] at h ⊢
    obtain ⟨hrequests, -, hnotices, hcount⟩ := h
    exact ⟨hrequests, by simpa using hroom, hnotices, hcount⟩
  · exact h

/-- A frame chosen leaves nothing waiting beside an idle transmitter. -/
theorem choose_prompt (k : Link) : k.choose.wantsToSend = false := by
  unfold choose
  split
  · rfl
  · rfl
  · rename_i ha hn; simp [wantsToSend, ha, hn]

end Link

/-- What every change of the link's record keeps: its places, and no frame waiting beside an idle transmitter. -/
structure LinkKeeps (k l : Link) : Prop where
  bounded : k.bounded = true → l.bounded = true
  prompt : k.wantsToSend = false → l.wantsToSend = false

namespace LinkKeeps

theorem refl (k : Link) : LinkKeeps k k := ⟨id, id⟩

theorem trans {k l m : Link} (h : LinkKeeps k l) (i : LinkKeeps l m) : LinkKeeps k m :=
  ⟨i.bounded ∘ h.bounded, i.prompt ∘ h.prompt⟩

theorem start {k l : Link} (h : k.bounded = true → l.bounded = true) : LinkKeeps k l.start :=
  ⟨fun hk => l.start_bounded (h hk), fun _ => l.start_prompt⟩

theorem arrive (kind tag : Nat) (o : Option Order) (s : State) :
    LinkKeeps s.lnk (linkArrive kind tag o s).lnk := by
  unfold linkArrive
  dsimp only
  split
  · exact start fun h => Link.putAnswer_bounded h _
  · split
    · exact start fun h => Link.putAnswer_bounded h _
    · rename_i hroom
      refine ⟨fun h => ?_, id⟩
      rw [Link.bounded_iff] at h ⊢
      obtain ⟨-, hanswers, hnotices, hcount⟩ := h
      exact ⟨by simpa [Config.requestPlaces, Nat.lt_succ_iff] using hroom, hanswers, hnotices, hcount⟩

theorem process (s : State) : LinkKeeps s.lnk (linkProcess s).lnk := by
  unfold linkProcess
  split
  · exact refl _
  · dsimp only
    split
    · exact refl _
    · split
      · exact refl _
      · split <;> exact refl _

theorem answer (kind tag : Nat) (r : Result) (s : State) : LinkKeeps s.lnk (linkAnswer kind tag r s).lnk := by
  refine start fun h => ?_
  have hput := Link.putAnswer_bounded h ⟨kind, tag, r⟩
  rw [Link.bounded_iff] at h hput ⊢
  exact ⟨(List.length_tail ..).trans_le ((Nat.sub_le ..).trans h.1), hput.2⟩

theorem send (s : State) : LinkKeeps s.lnk (linkSend s).lnk := ⟨Link.choose_bounded, fun _ => Link.choose_prompt _⟩

theorem receive (b : Byte) (framingError : Bool) (s : State) : LinkKeeps s.lnk (linkReceive b framingError s).lnk := by
  have hphase (a : Assembler) : LinkKeeps s.lnk (s.onLnk fun k => { k with assembler := a }).lnk := ⟨id, id⟩
  unfold linkReceive
  dsimp only
  split
  · exact hphase _
  · split
    · exact hphase _
    · split <;> exact hphase _
    · split
      · exact hphase _
      · split
        · exact (hphase .hunt).trans (arrive ..)
        · exact hphase _

theorem writeEnd (good : Bool) (s : State) : LinkKeeps s.lnk (storeWriteEnd good s).lnk := by
  unfold storeWriteEnd
  split
  · exact refl _
  · exact ⟨id, id⟩

theorem order {o : Order} (ho : o.owner = .lnk) (tag : Nat) (s : State) :
    LinkKeeps s.lnk (serveOrder tag o s).1.lnk := by
  cases o with
  | readStatus => exact refl _
  | commitConfiguration =>
    simp only [serveOrder, orderCommitConfiguration]
    split
    · exact refl _
    · exact ⟨id, id⟩
  | serviceReset =>
    simp only [serveOrder, orderServiceReset]
    split <;> exact refl _
  | _ => contradiction

theorem takes {f : State → State} (hf : Takes .lnk f) (s : State) : LinkKeeps s.lnk (f s).lnk := by
  cases hf with
  | lnk m =>
    cases m with
    | notice b => exact start fun h => Link.takeNotice_bounded h _
    | answer kind tag r => exact answer kind tag r s
    | process => exact process s
  | order tag o ho => exact order ho tag s
  | event hf =>
    cases hf with
    | arrival tag o => exact arrive _ tag _ s
    | receive b e => exact receive b e s
    | gap => exact ⟨id, id⟩
    | lineBreak =>
      refine ⟨fun _ => rfl, fun _ => ?_⟩
      simp [linkBreak, Link.reset, Link.wantsToSend]
    | frameSent => exact send s
    | writeEnd good => exact writeEnd good s

end LinkKeeps

end Sys2Proof.Machine
end

section
/-! SUPPORT. The sounder line keeps its places and its patterns (R94, R101, R106). -/

namespace Sys2Proof.Machine

theorem insertBy_length {α : Type} (before : α → α → Bool) (a : α) (l : List α) :
    (insertBy before a l).length = l.length + 1 := by
  induction l with
  | nil => rfl
  | cons b l ih =>
    unfold insertBy
    split
    · exact congrArg (· + 1) ih
    · rfl

theorem sortBy_length {α : Type} (before : α → α → Bool) (l : List α) : (sortBy before l).length = l.length := by
  induction l with
  | nil => rfl
  | cons a l ih => exact (insertBy_length ..).trans (congrArg (· + 1) ih)

theorem Sounder.bounded_iff (u : Sounder) : u.bounded = true ↔ u.queue.length ≤ 24 ∧ u.reservations.length ≤ 16 := by
  simp only [Sounder.bounded, Bool.and_eq_true, decide_eq_true_eq]
  rfl

/-- What every change of the sounder line's record but SET PATTERN keeps: its places and its patterns. -/
structure SounderKeeps (u v : Sounder) : Prop where
  patterns : v.patterns = u.patterns
  bounded : u.bounded = true → v.bounded = true

namespace SounderKeeps

variable {u v w : Sounder}

theorem refl (u : Sounder) : SounderKeeps u u := ⟨rfl, id⟩

theorem trans (h : SounderKeeps u v) (k : SounderKeeps v w) : SounderKeeps u w :=
  ⟨k.patterns.trans h.patterns, k.bounded ∘ h.bounded⟩

/-- Neither list grows. -/
theorem shrink (hp : v.patterns = u.patterns) (hq : v.queue.length ≤ u.queue.length)
    (hr : v.reservations.length ≤ u.reservations.length) : SounderKeeps u v := by
  refine ⟨hp, fun h => ?_⟩
  rw [Sounder.bounded_iff] at h ⊢
  exact ⟨hq.trans h.1, hr.trans h.2⟩

/-- A sounding joins a queue with room. -/
theorem join (x : Sounding) (r : SoundReport) {s : State} (hroom : s.snd.queue.length < 24) :
    SounderKeeps s.snd (soundJoin x r s).snd := by
  refine ⟨rfl, fun h => ?_⟩
  rw [Sounder.bounded_iff] at h ⊢
  refine ⟨?_, h.2⟩
  change (sortBy _ (s.snd.queue ++ [x])).length ≤ 24
  rw [sortBy_length, List.length_append, List.length_singleton]
  exact hroom

/-- A fold that keeps what it holds or takes the next entry ends on an entry of the list, or on what it began with. -/
theorem mem_of_foldl_choose {α : Type} {f : Option α → α → Option α} (hf : ∀ m x, f m x = m ∨ f m x = some x) {l : List α}
    {m : Option α} {y : α} (h : l.foldl f m = some y) : y ∈ l ∨ m = some y := by
  induction l generalizing m with
  | nil => exact .inr h
  | cons x l ih =>
    obtain hl | hm := ih h
    · exact .inl (List.mem_cons_of_mem _ hl)
    · obtain hkeep | htake := hf m x
      · exact .inr (hkeep ▸ hm)
      · rw [htake] at hm; cases hm; exact .inl List.mem_cons_self

/-- The CALL sounding that leaves a full queue is one of it. -/
theorem newestCall_mem {y : Sounding} (h : u.newestCall = some y) : y ∈ u.queue := by
  refine (mem_of_foldl_choose (fun m x => ?_) h).elim (fun hy => (List.mem_filter.mp hy).1) nofun
  cases m with
  | none => exact .inr rfl
  | some z =>
    dsimp only
    split
    · exact .inr rfl
    · exact .inl rfl

theorem arrive (x : Sounding) (r : SoundReport) (s : State) : SounderKeeps s.snd (soundArrive x r s).snd := by
  unfold soundArrive
  split
  · exact join x r ‹_›
  · split
    · exact refl _
    · split
      · rename_i y hy
        have hmem := newestCall_mem hy
        have hlt : (s.snd.queue.filter fun z => z.stamp != y.stamp).length < s.snd.queue.length :=
          List.length_filter_lt_length_iff_exists.mpr ⟨y, hmem, by simp⟩
        have hshrink : SounderKeeps s.snd { s.snd with queue := s.snd.queue.filter fun z => z.stamp != y.stamp } :=
          shrink rfl hlt.le le_rfl
        refine ⟨rfl, fun h => (hshrink.trans (join x r (s := (s.onSnd fun u =>
          { u with queue := u.queue.filter fun z => z.stamp != y.stamp }).post _) ?_)).bounded h⟩
        have hbound := ((Sounder.bounded_iff _).mp h).1
        exact hlt.trans_le hbound
      · exact refl _

theorem new (cls : SoundClass) (pattern : Nat) (zones : List Nat) (repeats : Nat) (o : SoundOrigin) (s : State) :
    SounderKeeps s.snd (soundNew cls pattern zones repeats o s).snd :=
  .trans (v := { s.snd with nextStamp := s.snd.nextStamp + 1 }) ⟨rfl, id⟩
    (arrive _ .queued (s.onSnd fun u => { u with nextStamp := u.nextStamp + 1 }))

theorem preempted (x : Sounding) (s : State) : SounderKeeps s.snd (soundPreempted x s).snd := by
  unfold soundPreempted
  split
  case h_4 | h_5 => exact refl _
  all_goals exact arrive ..

theorem remove (u : Sounder) (p : Sounding → Bool) : SounderKeeps u (u.remove p) :=
  shrink rfl (List.length_filter_le ..) le_rfl

theorem moveTeam (u : Sounder) (x : Sounding) : SounderKeeps u (u.moveTeam x) := by
  unfold Sounder.moveTeam
  split
  · exact shrink rfl (sortBy_length ..).le le_rfl
  · exact refl _

theorem startPass (s : State) : SounderKeeps s.snd (soundStartPass s).snd := by
  unfold soundStartPass
  split
  · exact refl _
  · rename_i x _
    have hremoved := remove s.snd fun z => z.stamp == x.stamp
    have hbegun (l : List Playing) : SounderKeeps s.snd { s.snd.remove (fun z => z.stamp == x.stamp) with playing := l } :=
      hremoved.trans ⟨rfl, id⟩
    exact (hbegun _).trans (moveTeam _ x)

theorem preempt (which : Playing → Bool) (s : State) : SounderKeeps s.snd (soundPreempt which s).snd := ⟨rfl, id⟩

theorem fireZone (u : Sounder) (cls : SoundClass) (pattern z : Nat) : SounderKeeps u (u.fireZone cls pattern z) := by
  unfold Sounder.fireZone
  dsimp only
  split
  · exact refl _
  · exact ⟨rfl, id⟩

theorem foldl_fireZone (u : Sounder) (cls : SoundClass) (pattern : Nat) (zones : List Nat) :
    SounderKeeps u (zones.foldl (fun u z => u.fireZone cls pattern z) u) := by
  induction zones generalizing u with
  | nil => exact refl u
  | cons z zones ih => exact (fireZone u cls pattern z).trans (ih _)

/-- A reservation with a place of its own, or one of those that stand. -/
theorem putReservation {r : Reservation} (hroom : u.reservationsFull r.cue = false) :
    SounderKeeps u (u.putReservation r) := by
  refine ⟨rfl, fun h => ?_⟩
  rw [Sounder.bounded_iff] at h ⊢
  refine ⟨h.1, ?_⟩
  change (insertBy _ r _).length ≤ 16
  rw [insertBy_length]
  by_cases hown : u.reservations.any fun q => q.cue == r.cue
  · obtain ⟨q, hq, hcue⟩ := List.any_eq_true.mp hown
    have hlt : (u.reservations.filter fun q => q.cue != r.cue).length < u.reservations.length :=
      List.length_filter_lt_length_iff_exists.mpr ⟨q, hq, by simpa using hcue⟩
    exact hlt.trans_le h.2
  · have hshort : u.reservations.length < 16 := Nat.lt_of_not_le fun hle => by
      simp [Sounder.reservationsFull, hown, Config.reservationPlaces, hle] at hroom
    exact Nat.lt_of_le_of_lt (List.length_filter_le ..) hshort

theorem reservationPut {r : Reservation} {s : State} (hroom : s.snd.reservationsFull r.cue = false) :
    SounderKeeps s.snd (soundReservationPut r s).snd := by
  unfold soundReservationPut
  dsimp only
  split
  · exact (putReservation hroom).trans (preempt _ (s.onSnd fun u => u.putReservation r))
  · exact putReservation hroom

theorem take (m : SounderMsg) (s : State) : SounderKeeps s.snd (soundTake m s).snd := by
  cases m with
  | arrive => exact new ..
  | preempted x => exact preempted x s
  | startPass => exact startPass s
  | cancel o =>
    simp only [soundTake, soundCancel]
    split <;> exact (remove s.snd _).trans ⟨rfl, id⟩
  | fireOrder cls pattern zones => exact (preempt _ s).trans (foldl_fireZone _ cls pattern zones)
  | enterReservation cue start length zones =>
    simp only [soundTake, soundEnter]
    split
    · exact refl _
    · rename_i hfull
      exact reservationPut (r := makeReservation cue start _ length zones) (Bool.eq_false_iff.mpr hfull)
  | moveReservation cue start lead =>
    simp only [soundTake, soundMove]
    split
    · exact refl _
    · rename_i r hr
      have hcue : r.cue = cue := by simpa using List.find?_some hr
      have hown : s.snd.reservationsFull cue = false := by
        have hany : (s.snd.reservations.any fun q => q.cue == cue) = true :=
          List.any_eq_true.mpr ⟨r, List.mem_of_find?_eq_some hr, by simpa using hcue⟩
        simp [Sounder.reservationsFull, hany]
      have hput := reservationPut (r := makeReservation cue start lead r.length r.zones) hown
      split <;> exact hput
  | removeReservation =>
    simp only [soundTake, soundRemove]
    split
    · exact shrink rfl le_rfl (List.length_filter_le ..)
    · exact refl _
  | clearReservations => exact shrink rfl le_rfl (Nat.zero_le _)
  | startCue =>
    simp only [soundTake, soundStartCue]
    split
    · exact ⟨rfl, id⟩
    · exact refl _
  | serviceReset => exact shrink rfl (Nat.zero_le _) (Nat.zero_le _)
  | endFire => exact ⟨rfl, id⟩

theorem event {f : State → State} (hf : Event .snd f) (s : State) : SounderKeeps s.snd (f s).snd := by
  cases hf with
  | element stamp => exact ⟨rfl, id⟩
  | sounding stamp =>
    simp only [soundEnd]
    split
    · exact refl _
    · exact ⟨rfl, id⟩
  | leadOut n => exact shrink rfl le_rfl (List.length_map ..).le

end SounderKeeps

/-- SET PATTERN changes neither list. -/
theorem orderSetPattern_bounded (n : Nat) (l : List ElementFields) {s : State} (h : s.snd.bounded = true) :
    (orderSetPattern n l s).1.snd.bounded = true := by
  unfold orderSetPattern
  iterate 2 (split; exact h)
  exact h

theorem orderSound_keeps (tag p z r : Nat) (s : State) : SounderKeeps s.snd (orderSound tag p z r s).1.snd := by
  unfold orderSound
  dsimp only
  iterate 2 (split; exact .refl _)
  exact .new ..

theorem Takes.snd_bounded {f : State → State} (hf : Takes .snd f) {s : State} (h : s.snd.bounded = true) :
    (f s).snd.bounded = true := by
  cases hf with
  | snd m => exact (SounderKeeps.take m s).bounded h
  | event hf => exact (SounderKeeps.event hf s).bounded h
  | order tag o ho =>
    change (serveOrder tag o s).1.snd.bounded = true
    cases o with
    | setPattern n l => exact orderSetPattern_bounded n l h
    | sound p z r => exact (orderSound_keeps tag p z r s).bounded h
    | readSounder => rwa [serveOrder_reads rfl]
    | _ => contradiction

end Sys2Proof.Machine
end

section
/-! SUPPORT. The supply admission unit keeps to its places and capacities (R67, R69), and the groups' configurations. -/

namespace Sys2Proof.Machine

def Group.bounded (r : Group) : Bool :=
  decide (r.queue.length ≤ Config.moveQueuePlaces) && decide (r.moves.length ≤ r.config.capacity)

theorem Group.bounded_iff (r : Group) :
    r.bounded = true ↔ r.queue.length ≤ 16 ∧ r.moves.length ≤ r.config.capacity := by
  simp only [Group.bounded, Bool.and_eq_true, decide_eq_true_eq]
  rfl

theorem Supply.bounded_iff (u : Supply) : u.bounded = true ↔ ∀ (g : Nat) (r : Group), u.groups[g]? = some r → r.bounded = true := by
  unfold Supply.bounded
  rw [List.all_eq_true]
  constructor
  · exact fun h g r hr => h r (List.mem_of_getElem? hr)
  · intro h r hr
    obtain ⟨g, hg⟩ := List.getElem?_of_mem hr
    exact h g r hg

/-- What a change of a group's record other than SET SUPPLY GROUP keeps. -/
structure GroupKeeps (r r' : Group) : Prop where
  config : r'.config = r.config
  bounded : r.bounded = true → r'.bounded = true

/-- Neither list of the group grows. -/
theorem GroupKeeps.shrink {r r' : Group} (hc : r'.config = r.config) (hq : r'.queue.length ≤ r.queue.length)
    (hm : r'.moves.length ≤ r.moves.length) : GroupKeeps r r' := by
  refine ⟨hc, fun h => ?_⟩
  rw [Group.bounded_iff] at h ⊢
  rw [hc]
  exact ⟨hq.trans h.1, hm.trans h.2⟩

/-- What every change of the supply's record but SET SUPPLY GROUP keeps, group by group. -/
def SupplyKeeps (u v : Supply) : Prop := ∀ g : Nat, Option.Rel GroupKeeps u.groups[g]? v.groups[g]?

namespace SupplyKeeps

variable {u v w : Supply}

theorem refl (u : Supply) : SupplyKeeps u u := fun g => by
  cases u.groups[g]? with
  | none => exact .none
  | some r => exact .some ⟨rfl, id⟩

theorem trans (h : SupplyKeeps u v) (k : SupplyKeeps v w) : SupplyKeeps u w := fun g => by
  have hg := h g
  have kg := k g
  cases hu : u.groups[g]? <;> cases hv : v.groups[g]? <;> cases hw : w.groups[g]? <;> rw [hu, hv] at hg <;>
    rw [hv, hw] at kg <;> cases hg <;> cases kg
  · exact .none
  · rename_i h₁ h₂; exact .some ⟨h₂.config.trans h₁.config, h₂.bounded ∘ h₁.bounded⟩

theorem bounded (h : SupplyKeeps u v) (hu : u.bounded = true) : v.bounded = true := by
  rw [Supply.bounded_iff] at hu ⊢
  intro g r hr
  have hg := h g
  rw [hr] at hg
  generalize hq : u.groups[g]? = o at hg
  cases hg with
  | some hkeep => exact hkeep.bounded (hu g _ hq)

theorem configs (h : SupplyKeeps u v) : v.groups.map (·.config) = u.groups.map (·.config) := by
  refine List.ext_getElem? fun g => ?_
  rw [List.getElem?_map, List.getElem?_map]
  have hg := h g
  generalize u.groups[g]? = o at hg
  generalize v.groups[g]? = p at hg
  cases hg with
  | none => rfl
  | some hkeep => exact congrArg some hkeep.config

theorem map {f : Group → Group} (hv : v.groups = u.groups.map f) (hf : ∀ r, GroupKeeps r (f r)) : SupplyKeeps u v :=
  fun g => by
    rw [hv, List.getElem?_map]
    cases u.groups[g]? with
    | none => exact .none
    | some r => exact .some (hf r)

theorem modify {g : Nat} {f : Group → Group} (hv : v.groups = u.groups.modify g f)
    (hf : ∀ r, u.groups[g]? = some r → GroupKeeps r (f r)) : SupplyKeeps u v := fun k => by
  rw [hv, List.getElem?_modify]
  cases hr : u.groups[k]? with
  | none => exact .none
  | some r =>
    refine .some ?_
    split
    · rename_i hk; exact hf r (hk ▸ hr)
    · exact ⟨rfl, id⟩

theorem request (owner : MoveOwner) (kind : MoveKind) (g : Nat) (s : State) :
    SupplyKeeps s.sup (supplyRequest owner kind g s).sup := by
  unfold supplyRequest
  split
  · exact refl _
  · rename_i r hr
    split
    · exact refl _
    · rename_i hroom
      refine modify rfl fun q hq => ⟨rfl, fun h => ?_⟩
      obtain rfl : r = q := Option.some.inj (hr.symm.trans hq)
      rw [Group.bounded_iff] at h ⊢
      refine ⟨?_, h.2⟩
      have hlt : r.queue.length < 16 := Nat.lt_of_not_le fun hle => by simp [Config.moveQueuePlaces, hle] at hroom
      dsimp only
      split <;> simpa using hlt

theorem pass (g : Nat) (s : State) : SupplyKeeps s.sup (supplyPass g s).sup := by
  unfold supplyPass
  split
  · exact refl _
  · rename_i r hr
    split
    · exact refl _
    · rename_i hqueue
      split
      · rename_i hslot
        refine modify rfl fun p hp => ⟨rfl, fun h => ?_⟩
        obtain rfl : r = p := Option.some.inj (hr.symm.trans hp)
        rw [Group.bounded_iff, hqueue] at h
        rw [Group.bounded_iff]
        have hlt : r.moves.length < r.config.capacity := of_decide_eq_true (Bool.and_eq_true_iff.mp hslot).2
        exact ⟨Nat.le_of_succ_le h.1, by simpa using hlt⟩
      · exact refl _

theorem withdraw (owner : MoveOwner) (s : State) : SupplyKeeps s.sup (supplyWithdraw owner s).sup := by
  unfold supplyWithdraw
  split
  · exact refl _
  · exact modify rfl fun r _ => .shrink rfl (List.length_filter_le ..) le_rfl

theorem released (owner : MoveOwner) (s : State) : SupplyKeeps s.sup (supplyReleased owner s).sup := by
  unfold supplyReleased
  split
  · exact refl _
  · exact modify rfl fun r _ => .shrink rfl le_rfl (List.length_filter_le ..)

theorem ended (owner : MoveOwner) (s : State) : SupplyKeeps s.sup (supplyEnded owner s).sup := by
  unfold supplyEnded
  split
  · exact refl _
  · split
    · exact released owner s
    · exact modify rfl fun r _ => .shrink rfl le_rfl (List.length_map ..).le

theorem dropSettled_length (owner : MoveOwner) (l : List Move) : (dropSettled owner l).length ≤ l.length := by
  induction l with
  | nil => exact le_rfl
  | cons m l ih =>
    unfold dropSettled
    split
    · exact Nat.le_succ _
    · exact Nat.succ_le_succ ih

theorem event {f : State → State} (hf : Event .sup f) (s : State) : SupplyKeeps s.sup (f s).sup := by
  cases hf with
  | settled g o =>
    unfold supplySettleExpiry
    split
    · exact modify rfl fun r _ => .shrink rfl le_rfl (dropSettled_length ..)
    · exact refl _
  | dipped =>
    unfold supplyDipped
    dsimp only
    split
    · exact refl _
    · exact map rfl fun r => .shrink rfl le_rfl (List.length_map ..).le
  | dipReleased =>
    unfold supplyDipReleased
    dsimp only
    split <;> exact refl _
  | restart =>
    unfold supplyRestartExpiry
    split
    · exact refl _
    · split
      · exact map rfl fun r => .shrink rfl le_rfl (List.length_map ..).le
      · exact refl _

theorem take (m : SupplyMsg) (s : State) : SupplyKeeps s.sup (supplyTake m s).sup := by
  cases m with
  | request owner kind g => exact request owner kind g s
  | withdraw owner => exact withdraw owner s
  | ended owner => exact ended owner s
  | released owner => exact released owner s
  | pass g => exact pass g s
  | serviceReset => exact map rfl fun r => .shrink rfl (Nat.zero_le _) le_rfl

theorem tick (u : Supply) : SupplyKeeps u u.tick := map rfl fun _ => .shrink rfl le_rfl (List.length_map ..).le

end SupplyKeeps

/-- SET SUPPLY GROUP takes an empty group alone (R75). -/
theorem orderSetSupplyGroup_bounded (g capacity settle : Nat) {s : State} (h : s.sup.bounded = true) :
    (orderSetSupplyGroup g capacity settle s).1.sup.bounded = true := by
  unfold orderSetSupplyGroup
  split
  · exact h
  · split
    · exact h
    · rename_i hempty
      rw [Supply.bounded_iff] at h ⊢
      intro k r hr
      change (s.sup.groups.modify g _)[k]? = some r at hr
      rw [List.getElem?_modify] at hr
      obtain ⟨q, hq, rfl⟩ := Option.map_eq_some_iff.mp hr
      split
      · rename_i hk
        subst hk
        have hidle : q.moves.isEmpty = true ∧ q.queue.isEmpty = true := by
          simpa [Supply.group?, hq] using hempty
        rw [Group.bounded_iff]
        simp_all
      · exact h k q hq

theorem Takes.sup_bounded {f : State → State} (hf : Takes .sup f) {s : State} (h : s.sup.bounded = true) :
    (f s).sup.bounded = true := by
  cases hf with
  | sup m => exact (SupplyKeeps.take m s).bounded h
  | event hf => exact (SupplyKeeps.event hf s).bounded h
  | order tag o ho =>
    change (serveOrder tag o s).1.sup.bounded = true
    cases o with
    | setSupplyGroup g c t => exact orderSetSupplyGroup_bounded g c t h
    | readSupply => rwa [serveOrder_reads rfl]
    | _ => contradiction

end Sys2Proof.Machine
end

section
/-! SUPPORT. The call dispatcher keeps to its places (R118) and, but for its configuration orders, its configuration (R113,
R115 to R117). -/

namespace Sys2Proof.Machine

/-- What every change of the call dispatcher's record keeps but that of its configuration orders: the stations, duty
lists, patterns, duty flags and timing, and the places of the call list. -/
structure CallsKeeps (c d : Calls) : Prop where
  stations : d.stations.map (Option.map Station.config) = c.stations.map (Option.map Station.config)
  rings : d.teams.map (·.ring) = c.teams.map (·.ring)
  teamPatterns : d.teams.map (·.pattern) = c.teams.map (·.pattern)
  staffPatterns : d.staff.map (·.pattern) = c.staff.map (·.pattern)
  onDuty : d.staff.map (·.onDuty) = c.staff.map (·.onDuty)
  timing : d.timing = c.timing
  bounded : c.calls.length ≤ 32 → d.calls.length ≤ 32

/-- A change of one entry that keeps its image under `g` keeps the images of the whole list. -/
theorem map_modify_same {α β : Type} (g : α → β) {f : α → α} (hf : ∀ a, g (f a) = g a) (l : List α) (n : Nat) :
    (l.modify n f).map g = l.map g := by
  refine List.ext_getElem? fun k => ?_
  simp only [List.getElem?_map, List.getElem?_modify]
  cases l[k]? with
  | none => rfl
  | some a =>
    refine congrArg some ?_
    dsimp only
    split
    · exact hf a
    · rfl

namespace CallsKeeps

variable {c d e : Calls}

theorem refl (c : Calls) : CallsKeeps c c := ⟨rfl, rfl, rfl, rfl, rfl, rfl, id⟩

theorem trans (h : CallsKeeps c d) (k : CallsKeeps d e) : CallsKeeps c e where
  stations := k.stations.trans h.stations
  rings := k.rings.trans h.rings
  teamPatterns := k.teamPatterns.trans h.teamPatterns
  staffPatterns := k.staffPatterns.trans h.staffPatterns
  onDuty := k.onDuty.trans h.onDuty
  timing := k.timing.trans h.timing
  bounded := k.bounded ∘ h.bounded

/-- What comes after a change: for goals whose last change is the known one. -/
theorem after (k : CallsKeeps d e) (h : CallsKeeps c d) : CallsKeeps c e := h.trans k

/-- Only the calls change, and grow no more in number. -/
theorem calls {l : List Call} {n : Nat} (hl : l.length ≤ c.calls.length) :
    CallsKeeps c { c with calls := l, nextNumber := n } := ⟨rfl, rfl, rfl, rfl, rfl, rfl, hl.trans⟩

theorem mapCall (c : Calls) (n : Nat) (f : Call → Call) : CallsKeeps c (c.mapCall n f) :=
  calls (n := c.nextNumber) (List.length_map ..).le

theorem mapStation (c : Calls) (n : Nat) {f : Station → Station} (hf : ∀ st, (f st).config = st.config := by intro; rfl) :
    CallsKeeps c (c.mapStation n f) where
  stations := map_modify_same _ (fun o => by cases o <;> simp [hf]) _ _
  rings := rfl
  teamPatterns := rfl
  staffPatterns := rfl
  onDuty := rfl
  timing := rfl
  bounded := id

theorem staff (c : Calls) (m : Nat) {f : Staff → Staff} (hp : ∀ x, (f x).pattern = x.pattern)
    (hd : ∀ x, (f x).onDuty = x.onDuty) : CallsKeeps c { c with staff := c.staff.modify m f } where
  stations := rfl
  rings := rfl
  teamPatterns := rfl
  staffPatterns := map_modify_same _ hp _ _
  onDuty := map_modify_same _ hd _ _
  timing := rfl
  bounded := id

theorem teams (c : Calls) (n : Nat) {f : Team → Team} (hr : ∀ x, (f x).ring = x.ring)
    (hp : ∀ x, (f x).pattern = x.pattern) : CallsKeeps c { c with teams := c.teams.modify n f } where
  stations := rfl
  rings := map_modify_same _ hr _ _
  teamPatterns := map_modify_same _ hp _ _
  staffPatterns := rfl
  onDuty := rfl
  timing := rfl
  bounded := id

theorem assign (c : Calls) (n team place member : Nat) : CallsKeeps c (c.assign n team place member) :=
  (teams { c.mapCall n fun r => { r with member := some member } with
      staff := c.staff.modify member fun m => { m with assigned := some n } } team
    (f := fun t => { t with pointer := (place + 1) % t.ring.length }) (fun _ => rfl) fun _ => rfl).after
    ((staff (c.mapCall n fun r => { r with member := some member }) member (f := fun m => { m with assigned := some n })
      (fun _ => rfl) fun _ => rfl).after (mapCall c n _))

theorem release (c : Calls) (r : Call) : CallsKeeps c (c.release r) := by
  unfold Calls.release
  split
  · exact refl c
  · exact (mapCall c r.number _).trans (staff _ _ (fun _ => rfl) fun _ => rfl)

theorem clearButton (c : Calls) (r : Call) : CallsKeeps c (c.clearButton r) := by
  unfold Calls.clearButton
  split
  · exact mapStation c _ fun _ => rfl
  · exact refl c

theorem spend (c : Calls) (r : Call) : CallsKeeps c (c.spend r) := by
  unfold Calls.spend
  split
  · exact mapStation c _ fun _ => rfl
  · exact refl c

/-- A call joins a list with room. -/
theorem append {r : Call} (hroom : c.calls.length < 32) : CallsKeeps c (c.append r) :=
  ⟨rfl, rfl, rfl, rfl, rfl, rfl, fun _ => by simpa [Calls.append] using hroom⟩

/-! ### Rounds, dispatch and closing -/

theorem round (n : Nat) (s : State) : CallsKeeps s.cal (callRound n s).cal := by
  unfold callRound
  split
  · exact refl _
  · exact mapCall _ n _

theorem report (n : Nat) (report : SoundReport) (s : State) : CallsKeeps s.cal (callReport n report s).cal := by
  unfold callReport
  split
  · exact refl _
  · split
    case h_3 => exact (mapCall _ n _).trans (spend _ _)
    case h_6 => exact refl _
    all_goals exact mapCall _ n _

theorem dispatch (again : Bool) (n : Nat) (s : State) : CallsKeeps s.cal (callDispatch again n s).cal := by
  unfold callDispatch
  split
  · exact refl _
  · split
    · exact (round n _).after (assign ..)
    · dsimp only
      split <;> exact mapCall _ n _

theorem foldl_dispatch (l : List Call) (s : State) :
    CallsKeeps s.cal (l.foldl (fun s r => callDispatch true r.number s) s).cal := by
  induction l generalizing s with
  | nil => exact refl _
  | cons r l ih => exact (ih _).after (dispatch true r.number s)

theorem closed (c : Calls) (r : Call) (n : Nat) : CallsKeeps c
    { (c.release r).clearButton r with calls := (c.release r).calls.filter fun x => x.number != n } := by
  have hlist : ((c.release r).clearButton r).calls = (c.release r).calls := by
    unfold Calls.clearButton; split <;> rfl
  refine ((release c r).trans (clearButton _ r)).trans (calls (n := _) ?_)
  rw [hlist]
  exact List.length_filter_le ..

theorem close (n : Nat) (reason : CallReason) (s : State) : CallsKeeps s.cal (callClose n reason s).cal := by
  unfold callClose
  split
  · exact refl _
  · exact closed _ _ n

theorem release_numbers (c : Calls) (r : Call) : (c.release r).calls.map (·.number) = c.calls.map (·.number) := by
  unfold Calls.release
  split
  · rfl
  · simp only [Calls.mapCall, List.map_map]
    refine List.map_congr_left fun x _ => ?_
    simp only [Function.comp_apply]
    split <;> rfl

/-- A call that closes leaves a place. -/
theorem close_length_lt {n : Nat} {r : Call} {s : State} (reason : CallReason) (hr : s.cal.call? n = some r) :
    (callClose n reason s).cal.calls.length < s.cal.calls.length := by
  have hnumber : r.number = n := by simpa using List.find?_some hr
  have hmem : n ∈ (s.cal.release r).calls.map (·.number) := by
    rw [release_numbers]
    exact List.mem_map.mpr ⟨r, List.mem_of_find?_eq_some hr, hnumber⟩
  obtain ⟨x, hx, hxn⟩ := List.mem_map.mp hmem
  have hlength : (s.cal.release r).calls.length = s.cal.calls.length := by
    simpa using congrArg List.length (release_numbers s.cal r)
  simp only [callClose, hr, State.post_cal, State.onCal_cal]
  rw [← hlength]
  exact List.length_filter_lt_length_iff_exists.mpr ⟨x, hx, by simp [hxn]⟩

/-! ### Placing -/

theorem opens {station button team : Nat} {s : State} (hroom : s.cal.calls.length < 32) :
    CallsKeeps s.cal (callOpen station button team s).cal :=
  (dispatch ..).after ((mapStation _ _).after (append hroom))

theorem urgent (n : Nat) (s : State) : CallsKeeps s.cal (callUrgent n s).1.cal := by
  unfold callUrgent
  split
  · exact refl _
  · split
    · exact refl _
    · split
      · exact refl _
      · dsimp only
        split
        · exact (round n _).after (mapCall s.cal n _)
        · exact mapCall s.cal n _

/-- A button's call opens only in a list with room. -/
theorem placing_opens_room {station button team : Nat} {s : State} (h : placing station button s = .opens team) :
    s.cal.calls.length < 32 := by
  unfold placing at h
  repeat' split at h
  all_goals first
    | contradiction
    | exact Nat.lt_of_not_le ‹_›

theorem press (address button : Nat) (s : State) : CallsKeeps s.cal (callPress address button s).cal := by
  unfold callPress
  split
  · exact refl _
  · split
    case h_3 => exact urgent _ s
    case h_5 h => exact opens (placing_opens_room h)
    all_goals exact refl _

/-- Room for a SWEEP or WARDEN call is room. -/
theorem room {s t : State} (h : callRoom s = some t) :
    CallsKeeps s.cal t.cal ∧ (s.cal.calls.length ≤ 32 → t.cal.calls.length < 32) := by
  unfold callRoom at h
  split at h
  · rename_i hlt
    cases h
    exact ⟨refl _, fun _ => hlt⟩
  · obtain ⟨r, hr, rfl⟩ := Option.map_eq_some_iff.mp h
    refine ⟨close .., fun hbound => ?_⟩
    obtain ⟨q, hq⟩ : ∃ q, s.cal.call? r.number = some q :=
      Option.isSome_iff_exists.mp (List.find?_isSome.mpr ⟨r, List.mem_of_find?_eq_some hr, by simp⟩)
    exact (close_length_lt _ hq).trans_le hbound

/-- A call that joins the list where there was room, and what follows. -/
theorem joins {s t : State} {r : Call} {v : Calls} (h : callRoom s = some t) (k : CallsKeeps (t.cal.append r) v) :
    CallsKeeps s.cal v := by
  obtain ⟨hkeep, hroom⟩ := room h
  have happend : CallsKeeps s.cal (t.cal.append r) :=
    ⟨hkeep.stations, hkeep.rings, hkeep.teamPatterns, hkeep.staffPatterns, hkeep.onDuty, hkeep.timing,
      fun hbound => by simpa [Calls.append] using hroom hbound⟩
  exact happend.trans k

theorem placeSweep (f : Nat) (s : State) : CallsKeeps s.cal (callPlaceSweep f s).cal := by
  unfold callPlaceSweep
  dsimp only
  split
  · exact refl _
  · split
    · exact refl _
    · split
      · exact refl _
      · exact (round ..).after (joins ‹_› (refl _))

theorem placeWarden (f : Nat) (s : State) : CallsKeeps s.cal (callPlaceWarden f s).cal := by
  unfold callPlaceWarden
  split
  · exact refl _
  · split
    · exact refl _
    · rename_i h
      dsimp only
      split
      · exact joins h (refl _)
      · exact (round ..).after (joins h (refl _))

theorem lampOnly (n : Nat) (mark : Bool) (s : State) : CallsKeeps s.cal (callLampOnly n mark s).cal := by
  unfold callLampOnly
  split
  · exact refl _
  · split
    · exact refl _
    · split
      · exact mapCall s.cal n _
      · exact (round n _).after (mapCall s.cal n _)

/-! ### Timers, acknowledgement and loss -/

theorem escalate (r : Call) (s : State) : CallsKeeps s.cal (callEscalate r s).cal := by
  have hreleased := (release s.cal r).trans (mapCall _ r.number fun x =>
    { x with escalations := x.escalations + 1, rounds := 0, roundTimer := .stopped })
  unfold callEscalate
  dsimp only
  split <;> exact (dispatch ..).after hreleased

theorem roundExpiry (n : Nat) (s : State) : CallsKeeps s.cal (callRoundExpiry n s).cal := by
  unfold callRoundExpiry
  split
  · exact refl _
  · split
    · exact refl _
    · split
      · exact round n s
      · split
        · exact escalate _ s
        · exact close n _ s

theorem ackAt (station : Nat) (st : Station) (s : State) : CallsKeeps s.cal (callAckAt station st s).cal := by
  unfold callAckAt
  dsimp only
  split
  · split <;> exact close ..
  · split
    · exact close ..
    · exact refl _

theorem acknowledge (address : Nat) (s : State) : CallsKeeps s.cal (callAcknowledge address s).cal := by
  unfold callAcknowledge
  split
  · exact ackAt ..
  · exact refl _

theorem foldl_stopWindows (l : List Nat) (c : Calls) :
    CallsKeeps c (l.foldl (fun c n => c.mapStation n fun st => { st with window := st.window.map fun _ => .stopped }) c) := by
  induction l generalizing c with
  | nil => exact refl c
  | cons n l ih => exact (ih _).after (mapStation c n)

theorem offer (last : Option Nat) (numbers : List Nat) (s : State) : CallsKeeps s.cal (callOffer last numbers s).cal := by
  unfold callOffer
  split
  · exact refl _
  · split
    · exact refl _
    · split
      · exact round _ s
      · exact refl _

theorem serviceReset (s : State) : CallsKeeps s.cal (callServiceReset s).cal where
  stations := by simp [callServiceReset, Function.comp_def]
  rings := rfl
  teamPatterns := rfl
  staffPatterns := by simp [callServiceReset, Function.comp_def]
  onDuty := by simp [callServiceReset, Function.comp_def]
  timing := rfl
  bounded _ := Nat.zero_le _

theorem take (m : CallMsg) (s : State) : CallsKeeps s.cal (callTake m s).cal := by
  cases m with
  | press address button => exact press address button s
  | acknowledge address => exact acknowledge address s
  | report n r => exact report n r s
  | offer last numbers => exact offer last numbers s
  | close n reason => exact close n reason s
  | unassignedPass => exact foldl_dispatch _ s
  | placeSweep f => exact placeSweep f s
  | placeWarden f => exact placeWarden f s
  | lampOnly n mark => exact lampOnly n mark s
  | stationLost address => exact foldl_stopWindows _ _
  | serviceReset => exact serviceReset s
  | room | flush | withdrawSweep | fireChanged => exact refl _

theorem event {f : State → State} (hf : Event .cal f) (s : State) : CallsKeeps s.cal (f s).cal := by
  cases hf with
  | urgent n b => exact mapStation _ n fun _ => rfl
  | round n => exact roundExpiry n s

theorem tick (c : Calls) : CallsKeeps c c.tick where
  stations := by simp [Calls.tick, Function.comp_def]
  rings := rfl
  teamPatterns := rfl
  staffPatterns := rfl
  onDuty := rfl
  timing := rfl
  bounded h := by simpa [Calls.tick] using h

/-! ### Orders -/

theorem placeCall (station button : Nat) (s : State) : CallsKeeps s.cal (orderPlaceCall station button s).1.cal := by
  unfold orderPlaceCall
  split
  case h_3 => exact urgent _ s
  case h_5 h => exact opens (placing_opens_room h)
  all_goals exact refl _

theorem cancelCall (n : Nat) (s : State) : CallsKeeps s.cal (orderCancelCall n s).1.cal := by
  unfold orderCancelCall
  split
  · exact close n _ s
  · exact refl _

theorem redispatch (n : Nat) (s : State) : CallsKeeps s.cal (callRedispatch n s).cal := by
  unfold callRedispatch
  split
  · exact refl _
  · rename_i r _
    exact (dispatch ..).after ((mapCall _ n _).after (release s.cal r))

end CallsKeeps

/-- SET DUTY changes the duty flag of the member, and then only what a dispatch changes (R116). -/
theorem orderSetDuty_keeps (member : Nat) (onDuty : Bool) (s : State) :
    ∃ c : Calls, (c = s.cal ∨ c = { s.cal with staff := s.cal.staff.modify member fun m => { m with onDuty := onDuty } }) ∧
      CallsKeeps c (orderSetDuty member onDuty s).1.cal := by
  unfold orderSetDuty
  split
  · exact ⟨_, .inl rfl, .refl _⟩
  · split
    · exact ⟨_, .inl rfl, .refl _⟩
    · refine ⟨_, .inr rfl, ?_⟩
      dsimp only
      split
      · exact .refl _
      · split
        · exact .redispatch _ (s.onCal fun c =>
            { c with staff := c.staff.modify member fun m => { m with onDuty := onDuty } })
        · exact .refl _

/-- No order lets the call list grow beyond its places. -/
theorem serveOrder_calls_length {o : Order} (ho : o.owner = .cal) (tag : Nat) {s : State}
    (h : s.cal.calls.length ≤ 32) : (serveOrder tag o s).1.cal.calls.length ≤ 32 := by
  cases o with
  | placeCall st b => exact (CallsKeeps.placeCall st b s).bounded h
  | cancelCall n => exact (CallsKeeps.cancelCall n s).bounded h
  | setStation n f =>
    simp only [serveOrder, orderSetStation]
    iterate 2 (split; exact h)
    exact h
  | loadDutyList t st l =>
    simp only [serveOrder, orderLoadDutyList]
    split
    · exact h
    · split <;> exact h
  | setTeam t p => simp only [serveOrder, orderSetTeam]; split <;> exact h
  | setStaff m p => simp only [serveOrder, orderSetStaff]; split <;> exact h
  | setDuty m b =>
    obtain ⟨c, hc, hkeep⟩ := orderSetDuty_keeps m b s
    obtain rfl | rfl := hc <;> exact hkeep.bounded h
  | setCallTiming f => exact h
  | readCalls => rwa [serveOrder_reads rfl]
  | _ => contradiction

theorem Takes.cal_bounded {f : State → State} (hf : Takes .cal f) {s : State} (h : s.cal.calls.length ≤ 32) :
    (f s).cal.calls.length ≤ 32 := by
  cases hf with
  | cal m => exact (CallsKeeps.take m s).bounded h
  | event hf => exact (CallsKeeps.event hf s).bounded h
  | order tag o ho => exact serveOrder_calls_length ho tag h

end Sys2Proof.Machine
end

section
/-! SUPPORT. No table outgrows its places and the transmitter stays prompt, through every step. -/

namespace Sys2Proof.Machine

theorem State.bounded_iff (s : State) : s.bounded = true ↔
    s.lnk.bounded = true ∧ s.sup.bounded = true ∧ s.snd.bounded = true ∧ s.cal.calls.length ≤ 32 := by
  simp only [State.bounded, Calls.bounded, Bool.and_eq_true, decide_eq_true_eq, and_assoc]
  rfl

/-- Whatever a block takes keeps the places of its own record. -/
theorem Takes.bounded {b : Block} {f : State → State} (hf : Takes b f) {s : State} (h : s.bounded = true) :
    (b.own f s).bounded = true := by
  rw [State.bounded_iff] at h ⊢
  obtain ⟨hlnk, hsup, hsnd, hcal⟩ := h
  cases b with
  | lnk => exact ⟨(LinkKeeps.takes hf s).bounded hlnk, hsup, hsnd, hcal⟩
  | sup => exact ⟨hlnk, hf.sup_bounded hsup, hsnd, hcal⟩
  | snd => exact ⟨hlnk, hsup, hf.snd_bounded hsnd, hcal⟩
  | cal => exact ⟨hlnk, hsup, hsnd, hf.cal_bounded hcal⟩
  | _ => exact ⟨hlnk, hsup, hsnd, hcal⟩

theorem Takes.prompt {b : Block} {f : State → State} (hf : Takes b f) {s : State} (h : s.lnk.wantsToSend = false) :
    (b.own f s).lnk.wantsToSend = false := by
  cases b with
  | lnk => exact (LinkKeeps.takes hf s).prompt h
  | _ => exact h

theorem ChainOnly.sup {s t : State} (h : ChainOnly s t) : t.sup = s.sup := by
  unfold ChainOnly at h; rw [h]

theorem supplyDipped_keeps (s : State) : SupplyKeeps s.sup (supplyDipped s).sup := SupplyKeeps.event .dipped s

/-- A full reset leaves nothing in any queue. -/
theorem fullReset_bounded (s : State) : (fullReset s).bounded = true := by
  have hsup : (fullReset s).sup.bounded = true := by
    have hloaded : (loaded (s.lnk.loadable.getD State.reset.image) s).sup.bounded = true := by
      rw [Supply.bounded_iff]
      intro g r hr
      simp only [loaded, List.getElem?_map, Option.map_eq_some_iff] at hr
      obtain ⟨c, -, rfl⟩ := hr
      simp [Group.bounded_iff]
    rw [← (ChainOnly.afterReset _).sup] at hloaded
    unfold fullReset
    dsimp only
    split
    · exact (supplyDipped_keeps _).bounded hloaded
    · exact hloaded
  rw [State.bounded_iff]
  obtain ⟨c, u, a, h⟩ := fullReset_frame s
  rw [h] at hsup ⊢
  exact ⟨rfl, hsup, rfl, Nat.zero_le _⟩

theorem tick_bounded {s : State} (h : s.bounded = true) : (tick s).bounded = true := by
  rw [State.bounded_iff] at h ⊢
  obtain ⟨hlnk, hsup, hsnd, hcal⟩ := h
  refine ⟨hlnk, (SupplyKeeps.tick s.sup).bounded hsup, ?_, (CallsKeeps.tick s.cal).bounded hcal⟩
  exact (SounderKeeps.shrink (u := s.snd) (v := s.snd.tick) rfl le_rfl (List.length_map ..).le).bounded hsnd

/-- Settles O7: each block keeps the places of its own tables, and the link's every change ends with a transmitter that has
made its choice. -/
theorem stepsKeepBounds : Obligations.StepsKeepBounds := by
  intro s t _ hstep
  constructor
  · intro hs
    exact step_keeps_own (P := fun s => s.bounded = true) (fun _ _ hf _ h => hf.bounded h) (fun _ _ h => h)
      (fun _ _ h => h) (fun _ _ h => h) (fun _ h => h) (fun s _ => fullReset_bounded s) (fun _ h => tick_bounded h) hs hstep
  · intro hs
    refine step_keeps_own (P := fun s => s.lnk.wantsToSend = false) (fun _ _ hf _ h => hf.prompt h) (fun _ _ h => h)
      (fun _ _ h => h) (fun _ _ h => h) (fun _ h => h) (fun s _ => ?_) (fun _ h => h) hs hstep
    obtain ⟨c, u, a, h⟩ := fullReset_frame s
    rw [h]
    rfl

end Sys2Proof.Machine
end

section
/-! SUPPORT. What the programme unit, the floor table, the store clock and the field loop keep of their configuration: all
of it, but for their configuration orders (R90, R133, R142, R180). -/

namespace Sys2Proof.Machine

/-! ### The programme settings (R142) -/

section Programme

variable (s : State)

@[simp] theorem programmeStep_settings (st : ProgrammeStep) : (programmeStep st s).prg.settings = s.prg.settings := rfl

@[simp] theorem programmeFinish_settings : (programmeFinish s).prg.settings = s.prg.settings := rfl

@[simp] theorem programmeSounded_settings : (programmeSounded s).prg.settings = s.prg.settings := by
  unfold programmeSounded; dsimp only; split <;> rfl

@[simp] theorem programmeReport_settings (st : ProgrammeStep) (r : SoundReport) :
    (programmeReport st r s).prg.settings = s.prg.settings := by
  unfold programmeReport
  split
  · rfl
  · cases r with
    | ended | dropped => exact programmeSounded_settings s
    | _ => rfl

@[simp] theorem programmeFloorDone_settings : (programmeFloorDone s).prg.settings = s.prg.settings := by
  unfold programmeFloorDone; split <;> rfl

@[simp] theorem programmeSecure_settings (f : Nat) : (programmeSecure f s).prg.settings = s.prg.settings := by
  unfold programmeSecure
  dsimp only
  split
  · rfl
  · exact programmeFloorDone_settings _

@[simp] theorem programmeDwellGo_settings : (programmeDwellGo s).prg.settings = s.prg.settings := by
  unfold programmeDwellGo
  split
  · rfl
  · split <;> rfl

@[simp] theorem programmeSweepAnswer_settings (f : Nat) (a : SweepAnswer) :
    (programmeSweepAnswer f a s).prg.settings = s.prg.settings := by
  unfold programmeSweepAnswer
  split
  · rfl
  · cases a with
    | placed | full => rfl
    | wrongState =>
      dsimp only
      split
      · exact programmeSecure_settings s f
      · exact programmeFloorDone_settings _

@[simp] theorem programmeRaised_settings : (programmeRaised s).prg.settings = s.prg.settings := by
  unfold programmeRaised; split <;> rfl

@[simp] theorem programmeRaise_settings : (programmeRaise s).prg.settings = s.prg.settings := by
  unfold programmeRaise
  split
  · rfl
  · dsimp only
    split
    · rfl
    · exact programmeRaised_settings _

@[simp] theorem programmeOpenCue_settings : (programmeOpenCue s).prg.settings = s.prg.settings := by
  unfold programmeOpenCue
  split
  · rfl
  · dsimp only; split <;> rfl

@[simp] theorem programmeFloorReport_settings (f : Nat) (left entered : FloorState) :
    (programmeFloorReport f left entered s).prg.settings = s.prg.settings := by
  unfold programmeFloorReport
  split
  · rfl
  · split
    · exact programmeSecure_settings s f
    · split
      · refine (programmeFloorDone_settings _).trans ?_
        split <;> rfl
      · split
        · refine (programmeRaised_settings _).trans ?_
          dsimp only [State.onPrg]
          split
          · rfl
          · split <;> rfl
        · rfl

@[simp] theorem programmeChainState_settings (st : ChainState) :
    (programmeChainState st s).prg.settings = s.prg.settings := by
  unfold programmeChainState; split <;> rfl

@[simp] theorem programmeStopAnswer_settings (r : Result) : (programmeStopAnswer r s).prg.settings = s.prg.settings := by
  unfold programmeStopAnswer
  split
  · rfl
  · cases r <;> rfl

@[simp] theorem programmeRunAnswer_settings (r : Result) : (programmeRunAnswer r s).prg.settings = s.prg.settings := by
  unfold programmeRunAnswer
  cases r with
  | declined => dsimp only; split <;> rfl
  | _ => rfl

@[simp] theorem programmeAbort_settings (o : ProgrammeOutcome) : (programmeAbort o s).prg.settings = s.prg.settings := by
  unfold programmeAbort; split <;> rfl

theorem programmeTake_settings (m : ProgrammeMsg) : (programmeTake m s).prg.settings = s.prg.settings := by
  cases m <;> simp [programmeTake]

end Programme

theorem Event.prg_settings {f : State → State} (hf : Event .prg f) (s : State) :
    (f s).prg.settings = s.prg.settings := by
  cases hf with
  | deadline =>
    unfold programmeDeadlineExpiry
    split
    · rfl
    · split <;> rfl
  | sweep => unfold programmeSweepTimeout; split <;> rfl
  | placing => unfold programmePlacingRetry; split <;> rfl
  | dwell => unfold programmeDwellExpiry; split <;> rfl

/-! ### The floors' configurations (R90) -/

/-- The floors' configurations are those of `s`. -/
def FloorKeeps (s t : State) : Prop := t.flr.table.map (·.config) = s.flr.table.map (·.config)

namespace FloorKeeps

variable {s t : State}

theorem refl (s : State) : FloorKeeps s s := rfl

theorem ite {p : Prop} [Decidable p] {u : State} (h : FloorKeeps s t) (k : FloorKeeps s u) :
    FloorKeeps s (if p then t else u) := by
  split
  · exact h
  · exact k

/-- The same for an order's state beside its answer. -/
theorem fst {p : Prop} [Decidable p] {a b : State × Result} (h : FloorKeeps s a.1) (k : FloorKeeps s b.1) :
    FloorKeeps s (if p then a else b).1 := by
  split
  · exact h
  · exact k

theorem modify (h : FloorKeeps s t) (f : Nat) {g : Floor → Floor} (hg : ∀ r, (g r).config = r.config := by intro; rfl) :
    FloorKeeps s (t.onFlr fun u => u.modify f g) := (map_modify_same _ hg _ _).trans h

theorem enter (h : FloorKeeps s t) (f : Nat) (st : FloorState) (cause : FloorCause) (faulted : Option Nat)
    (declined : Option (List Nat)) (notOpen : Option (List (Nat × ShutterState))) :
    FloorKeeps s (floorEnter f st cause faulted declined notOpen t) := by
  unfold floorEnter
  split
  · exact h
  · exact h.modify f

theorem test (h : FloorKeeps s t) (f : Nat) : FloorKeeps s (floorTest f t) := by
  unfold floorTest
  split
  · exact h
  · refine ite h ?_
    split
    case h_1 => exact ite (h.enter ..) h
    case h_2 => exact ite h (ite (h.enter ..) (h.enter ..))
    all_goals exact h

theorem serviceOne (h : FloorKeeps s t) (f : Nat) : FloorKeeps s (floorServiceOne f t) := by
  unfold floorServiceOne
  split
  · exact h
  · split
    case h_1 | h_2 | h_3 | h_4 => exact h.enter ..
    all_goals exact h

theorem foldl_serviceOne (l : List Nat) (h : FloorKeeps s t) :
    FloorKeeps s (l.foldl (fun s f => floorServiceOne f s) t) := by
  induction l generalizing t with
  | nil => exact h
  | cons f l ih => exact ih (h.serviceOne f)

theorem take (m : FloorMsg) (s : State) : FloorKeeps s (floorTake m s) := by
  have h := refl s
  cases m with
  | beginClosing f => exact ite (h.enter ..) h
  | confirm f c => exact ite ((h.modify f).enter ..) h
  | secure f => exact ite ((h.enter ..).modify f) h
  | raise f => exact ite ((h.enter ..).modify f) h
  | endStep f => exact (h.modify f).test f
  | shutterChanged f n left entered =>
    refine test ?_ f
    unfold floorRedrop
    exact ite h h
  | recheck f => exact h.test f
  | declare f => exact ite h (h.enter ..)
  | release f => exact ite (h.enter ..) h
  | serviceReset => exact foldl_serviceOne _ h

theorem orderState (f code : Nat) (s : State) : FloorKeeps s (orderSetFloorState f code s).1 := by
  have h := refl s
  unfold orderSetFloorState
  split
  case h_1 =>
    refine fst h (fst h (fst h (fst h ?_)))
    exact h.enter ..
  case h_2 => exact h

end FloorKeeps

/-! ### The cues' configurations (R133) -/

/-- The cues' configurations are those of `s`. -/
def CueKeeps (s t : State) : Prop := t.clk.cues.map (·.config) = s.clk.cues.map (·.config)

namespace CueKeeps

variable {s t : State}

theorem refl (s : State) : CueKeeps s s := rfl

theorem ite {p : Prop} [Decidable p] {u : State} (h : CueKeeps s t) (k : CueKeeps s u) :
    CueKeeps s (if p then t else u) := by
  split
  · exact h
  · exact k

theorem mapCue (h : CueKeeps s t) (n : Nat) {g : Cue → Cue} (hg : ∀ q, (g q).config = q.config := by intro; rfl) :
    CueKeeps s (t.onClk fun c => c.mapCue n g) := (map_modify_same _ hg _ _).trans h

theorem await_config (q : Cue) : (o : Option (Occurrence × Nat)) → (q.await o).config = q.config
  | none => rfl
  | some (_, _) => rfl

theorem afterDone_config (c : Clock) (q : Cue) : (c.afterDone q).config = q.config := by
  unfold Clock.afterDone
  generalize c.idle q = idle
  generalize weekOffset c.now = offset
  cases idle <;> cases q.occurrence <;> exact await_config ..

theorem done (h : CueKeeps s t) (n : Nat) : CueKeeps s (cueDone n t) :=
  have hdone : CueKeeps s { t with clk := t.clk.mapCue n t.clk.afterDone } :=
    (map_modify_same _ (afterDone_config t.clk) _ _).trans h
  hdone

theorem reserve (h : CueKeeps s t) (n : Nat) : CueKeeps s (cueReserve n t) := by
  unfold cueReserve
  split
  · exact h
  · exact ite (h.done n) (h.mapCue n)

theorem fresh (h : CueKeeps s t) (n : Nat) (q : Cue) : CueKeeps s (cueFresh n q t) := by
  unfold cueFresh
  split
  case h_1 o d _ _ =>
    have hawait := h.mapCue n (g := fun q => q.await (some (o, d))) fun q => await_config q _
    exact ite (hawait.done n) (ite (hawait.reserve n) hawait)
  case h_2 => exact h.mapCue n (g := fun q => q.await none) fun q => await_config q _

theorem rebuild (h : CueKeeps s t) (n : Nat) (cut : Bool) : CueKeeps s (cueRebuild n cut t) := by
  unfold cueRebuild
  split
  · exact h
  · refine fresh ?_ n _
    exact ite (p := (cut && _) = true) h h

theorem take (m : ClockMsg) (s : State) : CueKeeps s (clockTake m s) := by
  have h := refl s
  cases m with
  | started n => exact h.mapCue n
  | ended n =>
    simp only [clockTake, cueEnded]
    split
    · exact h
    · exact ite (done (t := s.post _) h n) h
  | clashed n =>
    simp only [clockTake, cueClashed]
    split
    · exact h
    · exact ite h (ite (h.mapCue n) (done (t := s.post _) h n))
  | rebuild n cut => exact h.rebuild n cut
  | serviceReset => exact h

theorem event {f : State → State} (hf : Event .clk f) (s : State) : CueKeeps s (f s) := by
  have h := refl s
  cases hf with
  | second =>
    have hsame : (s.clk.cues.map fun q => if q.phase = .waiting then { q with lead := q.lead - 1 } else q).map (·.config) =
        s.clk.cues.map (·.config) := by
      rw [List.map_map]
      refine List.map_congr_left fun q _ => ?_
      simp only [Function.comp_apply]
      split <;> rfl
    unfold clockSecond CueKeeps Clock.second
    dsimp only [State.onClk]
    split
    · rfl
    · split <;> exact hsame
  | cueDue n => exact ite (h.reserve n) h
  | cueSlot n =>
    unfold cueSlot
    split
    · exact h
    · exact ite h h

end CueKeeps

/-! ### The kinds of the nodes (R180) -/

/-- The kinds of the nodes are those of `s`. -/
def NodeKeeps (s t : State) : Prop := t.flp.nodes.map (Option.map Node.kind) = s.flp.nodes.map (Option.map Node.kind)

namespace NodeKeeps

theorem mapNode (f : Loop) (a : Nat) {g : Node → Node} (hg : ∀ n, (g n).kind = n.kind := by intro; rfl) :
    (f.mapNode a g).nodes.map (Option.map Node.kind) = f.nodes.map (Option.map Node.kind) := by
  unfold Loop.mapNode
  split
  · rfl
  · exact map_modify_same _ (fun o => by cases o <;> simp [hg]) _ _

theorem missed (s : State) : NodeKeeps s (loopMissed s) := by
  unfold loopMissed
  split
  · rfl
  · dsimp only
    split <;> exact mapNode ..

theorem event {f : State → State} (hf : Event .flp f) (s : State) : NodeKeeps s (f s) := by
  cases hf with
  | slot => unfold loopSlot; dsimp only; split <;> rfl
  | reply a i j last =>
    unfold loopReply
    dsimp only
    split
    · rfl
    · split
      · split
        · exact mapNode ..
        · rfl
      · exact missed s
  | missed => exact missed s

end NodeKeeps

end Sys2Proof.Machine
end

section
/-! SUPPORT. What the fire response unit keeps of its configuration: all of it, but for its configuration orders (R169). -/

namespace Sys2Proof.Machine

/-- The fire settings, the zones' floors and the inputs' configurations are those of `s`. -/
structure FireKeeps (s t : State) : Prop where
  settings : t.fir.settings = s.fir.settings
  zones : t.fir.zones.map (·.floors) = s.fir.zones.map (·.floors)
  inputs : t.fir.inputs.map (Option.map Detector.config) = s.fir.inputs.map (Option.map Detector.config)

namespace FireKeeps

variable {s t u : State}

theorem refl (s : State) : FireKeeps s s := ⟨rfl, rfl, rfl⟩

theorem ite {p : Prop} [Decidable p] (h : FireKeeps s t) (k : FireKeeps s u) : FireKeeps s (if p then t else u) := by
  split
  · exact h
  · exact k

/-- The same for an order's state beside its answer. -/
theorem fst {p : Prop} [Decidable p] {a b : State × Result} (h : FireKeeps s a.1) (k : FireKeeps s b.1) :
    FireKeeps s (if p then a else b).1 := by
  split
  · exact h
  · exact k

/-- A state with the same record of the fire response unit. -/
theorem same (h : FireKeeps s t) (hu : u.fir = t.fir) : FireKeeps s u := by
  obtain ⟨hs, hz, hi⟩ := h
  exact ⟨hu ▸ hs, hu ▸ hz, hu ▸ hi⟩

theorem post (h : FireKeeps s t) (ms : List Msg) : FireKeeps s (t.post ms) := h.same rfl

theorem notify (h : FireKeeps s t) (b : NoticeBody) : FireKeeps s (t.notify b) := h.same rfl

/-- A change of the timers, the condition and the held set alone. -/
theorem onFir (h : FireKeeps s t) {f : Fire → Fire} (hs : (f t.fir).settings = t.fir.settings := by rfl)
    (hz : (f t.fir).zones = t.fir.zones := by rfl) (hi : (f t.fir).inputs = t.fir.inputs := by rfl) :
    FireKeeps s (t.onFir f) :=
  ⟨hs.trans h.settings, (congrArg _ hz).trans h.zones, (congrArg _ hi).trans h.inputs⟩

theorem mapZone (h : FireKeeps s t) (z : Nat) {g : FireZone → FireZone}
    (hg : ∀ r, (g r).floors = r.floors := by intro; rfl) : FireKeeps s (t.onFir fun f => f.mapZone z g) :=
  ⟨h.settings, (map_modify_same _ hg _ _).trans h.zones, h.inputs⟩

theorem setInput (h : FireKeeps s t) {n : Nat} {d d' : Detector} (hd : t.fir.input? n = some d)
    (hc : d'.config = d.config) : FireKeeps s (t.onFir fun f => { f with inputs := f.inputs.set n (some d') }) :=
  ⟨h.settings, h.zones, (map_set_same (a := some d) (b := some d') (Option.map Detector.config)
    (present?_eq_some.mp hd) (congrArg some hc)).trans h.inputs⟩

/-! ### The operations -/

theorem hold (h : FireKeeps s t) : FireKeeps s (fireHold t) := by
  unfold fireHold
  exact ite h (ite (h.onFir.notify _) h.onFir)

theorem condition (h : FireKeeps s t) (c : FireCondition) : FireKeeps s (fireCondition c t) := (h.onFir.post _).hold

theorem depart (h : FireKeeps s t) : FireKeeps s (fireDepart t) := by
  unfold fireDepart
  exact ite (h.onFir.condition _) ((h.onFir (f := fun f => { f with heldWait := true })).onFir.condition _)

theorem alarm (h : FireKeeps s t) (z : Nat) : FireKeeps s (fireAlarm z t) := by
  unfold fireAlarm
  exact ite ((h.mapZone z).post _) ((h.mapZone z).post _)

theorem lapse (h : FireKeeps s t) (z : Nat) : FireKeeps s (fireLapse z t) := (h.mapZone z).notify _

theorem enterAlarm (h : FireKeeps s t) (n : Nat) (d : Detector) : FireKeeps s (fireEnterAlarm n d t) := by
  unfold fireEnterAlarm
  exact ite (h.alarm _) ((h.mapZone _).notify _)

theorem quietChange (h : FireKeeps s t) (n : Nat) (d : Detector) (zone : ZoneState) (old new : DetectorState) :
    FireKeeps s (fireQuietChange n d zone old new t) := by
  unfold fireQuietChange
  cases new with
  | alarm => exact h.enterAlarm n d
  | fault => exact ite ((h.mapZone _).notify _) h
  | normal => exact ite ((h.mapZone _).notify _) h

theorem inputChange (h : FireKeeps s t) (n : Nat) (new : DetectorState) : FireKeeps s (fireInputChange n new t) := by
  unfold fireInputChange
  split
  case h_1 => exact h
  case h_2 d hd =>
    have hset := h.setInput (d' := { d with state := new }) hd rfl
    refine ite h ?_
    dsimp only
    split
    · exact ite (ite (hset.alarm _) hset) (ite (hset.lapse _) hset)
    · exact hset
    · exact hset.quietChange ..
    · exact hset

theorem foldl_inputChange (l : List Nat) (new : DetectorState) (h : FireKeeps s t) :
    FireKeeps s (l.foldl (fun s n => fireInputChange n new s) t) := by
  induction l generalizing t with
  | nil => exact h
  | cons n l ih => exact ih (h.inputChange n new)

theorem take (m : FireMsg) (s : State) : FireKeeps s (fireTake m s) := by
  have h := refl s
  cases m with
  | slot address slot st =>
    simp only [fireTake, fireSlot]
    split
    · exact h.inputChange ..
    · exact h
  | nodeLost address => exact foldl_inputChange _ _ h
  | depart => exact h.depart
  | dropsOrdered => exact (h.onFir (f := fun f => { f with heldWait := false })).hold
  | hallDrops => exact h.post _
  | soundings =>
    simp only [fireTake, fireSoundings]
    exact ite (h.post _) (h.post _)
  | resound => exact h.post _
  | wardens => exact h.post _
  | report z => exact h.notify _
  | watchdog =>
    simp only [fireTake, fireWatchdog]
    constructor <;> (dsimp only [State.onFir]; split <;> rfl)
  | condition c => exact h.condition c
  | chainChanged => exact h.hold

theorem event {f : State → State} (hf : Event .fir f) (s : State) : FireKeeps s (f s) := by
  have h := refl s
  cases hf with
  | confirm z => exact ite (h.alarm z) h
  | delay => exact ite (h.onFir.post _) h
  | ack => exact ite (h.onFir.notify _) h
  | pulse => exact ite h.onFir h

theorem orderAcknowledge (s : State) : FireKeeps s (orderAcknowledgeFire s).1 :=
  have h := refl s
  fst h (fst (h.onFir.notify _) h)

theorem orderSilence (s : State) : FireKeeps s (orderSilence s).1 := by
  have h := refl s
  unfold Machine.orderSilence
  split
  · exact h.onFir.post _
  · exact h.onFir.post _
  · exact h
  · exact h

theorem resetZone_floors (f : Fire) (z : Nat) (r : FireZone) : (f.resetZone z r).floors = r.floors := by
  unfold Fire.resetZone
  split <;> rfl

theorem orderReset (s : State) : FireKeeps s (orderResetFire s).1 := by
  have h := refl s
  unfold orderResetFire
  refine fst h ?_
  split
  · exact h
  · refine FireKeeps.mk rfl ?_ rfl
    refine List.ext_getElem? fun k => ?_
    simp only [done, State.post, State.onFir, List.getElem?_map, List.getElem?_mapIdx]
    cases s.fir.zones[k]? with
    | none => rfl
    | some r => exact congrArg some (resetZone_floors ..)

end FireKeeps

end Sys2Proof.Machine
end

section
/-! SUPPORT. The image of the part (R188): what its validity says table by table, and that the configuration orders of
every block but the chain keep it. -/

namespace Sys2Proof.Machine

/-! ### Tables -/

theorem tableOf_iff {α : Type} {size : Nat} {l : List α} {p : α → Bool} :
    tableOf size l p = true ↔ l.length = size ∧ ∀ (n : Nat) (a : α), l[n]? = some a → p a = true := by
  simp only [tableOf, Bool.and_eq_true, beq_iff_eq, List.all_eq_true]
  refine and_congr_right fun _ => ⟨fun h n a hn => h a (List.mem_of_getElem? hn), fun h a ha => ?_⟩
  obtain ⟨n, hn⟩ := List.getElem?_of_mem ha
  exact h n a hn

/-- Two tables of one size whose entries meet the same test. -/
theorem tableOf_mono {α : Type} {size : Nat} {l : List α} {p q : α → Bool} (h : tableOf size l p = true)
    (hpq : ∀ (n : Nat) (a : α), l[n]? = some a → p a = true → q a = true) : tableOf size l q = true := by
  rw [tableOf_iff] at h ⊢
  obtain ⟨hsize, hall⟩ := h
  exact ⟨hsize, fun n a hn => hpq n a hn (hall n a hn)⟩

theorem tableOf_set {α β : Type} {size : Nat} {l : List α} {f : α → β} {p : β → Bool} (h : tableOf size (l.map f) p = true)
    (n : Nat) {a : α} (ha : p (f a) = true) : tableOf size ((l.set n a).map f) p = true := by
  rw [tableOf_iff] at h ⊢
  obtain ⟨hsize, hall⟩ := h
  rw [List.length_map] at hsize
  refine ⟨by simpa using hsize, fun m b hm => ?_⟩
  rw [List.map_set, List.getElem?_set] at hm
  split at hm
  · split at hm
    · cases hm; exact ha
    · cases hm
  · exact hall m b hm

theorem tableOf_modify {α β : Type} {size : Nat} {l : List α} {f : α → β} {p : β → Bool}
    (h : tableOf size (l.map f) p = true) (n : Nat) {g : α → α} (hg : ∀ a, l[n]? = some a → p (f a) = true → p (f (g a)) = true) :
    tableOf size ((l.modify n g).map f) p = true := by
  rw [tableOf_iff] at h ⊢
  obtain ⟨hsize, hall⟩ := h
  rw [List.length_map] at hsize
  refine ⟨by simpa using hsize, fun m b hm => ?_⟩
  rw [List.getElem?_map, List.getElem?_modify] at hm
  obtain ⟨a, ha, rfl⟩ := Option.map_eq_some_iff.mp hm
  split at ha
  · subst n
    obtain ⟨a₀, ha₀, rfl⟩ := Option.map_eq_some_iff.mp ha
    exact hg a₀ ha₀ (hall m (f a₀) (by simp [ha₀]))
  · rw [id_map'] at ha
    exact hall m (f a) (by simp [ha])

theorem tableOf_length {α : Type} {size : Nat} {l : List α} {p : α → Bool} (h : tableOf size l p = true) :
    l.length = size := (tableOf_iff.mp h).1

/-! ### Clamped values -/

theorem clampTo_inRange {low high : Nat} (h : low ≤ high) (v : Nat) : inRange low high (clampTo low high v) = true := by
  unfold inRange clampTo
  rw [Bool.and_eq_true, decide_eq_true_eq, decide_eq_true_eq]
  omega

theorem clampTo_clampTo {low high : Nat} (h : low ≤ high) (v : Nat) :
    clampTo low high (clampTo low high v) = clampTo low high v := by
  simp only [clampTo]
  omega

theorem clampTo_le {low high : Nat} (h : low ≤ high) (v : Nat) : clampTo low high v ≤ high := by
  simp only [clampTo]
  omega

theorem mem_maskSet {size mask k : Nat} (h : k ∈ maskSet size mask) : k < size :=
  List.mem_range.mp (List.mem_filter.mp h).1

theorem maskSet_all {size mask bound : Nat} (h : size ≤ bound + 1) :
    (maskSet size mask).all (fun k => decide (k ≤ bound)) = true :=
  List.all_eq_true.mpr fun _ hk => decide_eq_true (Nat.le_of_lt_succ ((mem_maskSet hk).trans_le h))

/-! ### The parts of a valid image -/

/-- A valid image, table by table. -/
structure StoreImage.Valid (i : StoreImage) : Prop where
  chain : i.chain.valid = true
  shutters : (tableOf 48 i.shutters fun o => o.all i.shutterValid) = true
  groups : (tableOf 8 i.groups fun c => inRange 1 4 c.capacity && decide (c.settle ≤ 10)) = true
  floors : (tableOf 8 i.floors fun c =>
    c.zones.all (fun z => decide (z ≤ 7)) && decide (c.sweepTeam ≤ 11) && decide (c.wardenTeam ≤ 11)) = true
  patterns : (tableOf 32 i.patterns fun l =>
    inRange 1 16 l.length && l.all fun e => e.tone.all (fun t => decide (t ≤ 3)) && inRange 1 40 e.length) = true
  stations : (tableOf 24 i.stations fun o => o.all fun c => c.inRange && i.isKind c.node .station) = true
  rings : (tableOf 12 i.rings fun l => decide (l.length ≤ 16) && l.all fun m => decide (m ≤ 63)) = true
  teamPatterns : (tableOf 12 i.teamPatterns fun p => decide (p ≤ 31)) = true
  staffPatterns : (tableOf 64 i.staffPatterns fun p => decide (p ≤ 31)) = true
  onDuty : (tableOf 64 i.onDuty fun _ => true) = true
  callTiming : (i.callTiming.clamped == i.callTiming) = true
  cues : (tableOf 24 i.cues fun c =>
    decide (c.time ≤ 86399) && c.days.all (fun d => decide (d ≤ 6)) && decide (c.pattern ≤ 31) &&
      c.zones.all (fun z => decide (z ≤ 7)) && inRange 1 4 c.repeats && inRange 60 240 c.retryInterval &&
      decide (c.retryLimit ≤ 3)) = true
  programmeRange : i.programme.inRange = true
  programmeClamped : (i.programme.clamped == i.programme) = true
  zones : (tableOf 8 i.zones fun l => l.all fun f => decide (f ≤ 7)) = true
  detectors : (tableOf 64 i.detectors fun o =>
    o.all fun c => decide (c.slot ≤ 3) && decide (c.zone ≤ 7) && i.isKind c.node .detector) = true
  fireRange : i.fire.inRange = true
  fireClamped : (i.fire.clamped == i.fire) = true
  nodes : (tableOf 64 i.nodes fun _ => true) = true

theorem StoreImage.valid_iff (i : StoreImage) : i.valid = true ↔ i.Valid := by
  simp only [valid, floorsValid, callsValid, clockValid, fireValid, Bool.and_eq_true]
  constructor
  · rintro ⟨⟨⟨⟨h1, ⟨⟨h2, h3⟩, h4⟩, h5⟩, ⟨⟨⟨⟨h6, h7⟩, h8⟩, h9⟩, h10⟩, h11⟩, ⟨h12, h13⟩, h14⟩, ⟨⟨⟨h15, h16⟩, h17⟩, h18⟩, h19⟩
    exact ⟨h1, h2, h3, h4, h5, h6, h7, h8, h9, h10, h11, h12, h13, h14, h15, h16, h17, h18, h19⟩
  · rintro ⟨h1, h2, h3, h4, h5, h6, h7, h8, h9, h10, h11, h12, h13, h14, h15, h16, h17, h18, h19⟩
    exact ⟨⟨⟨⟨h1, ⟨⟨h2, h3⟩, h4⟩, h5⟩, ⟨⟨⟨⟨h6, h7⟩, h8⟩, h9⟩, h10⟩, h11⟩, ⟨h12, h13⟩, h14⟩, ⟨⟨⟨h15, h16⟩, h17⟩, h18⟩, h19⟩

/-- The field loop's question about an address is the image's. -/
theorem image_isKind (s : State) (a : Nat) (k : NodeKind) : s.image.isKind a k = s.flp.isKind a k := by
  unfold StoreImage.isKind Loop.isKind Loop.node?
  by_cases ha : a = 0
  · simp [ha]
  · have hmap : present? (s.flp.nodes.map (Option.map Node.kind)) (a - 1) = (present? s.flp.nodes (a - 1)).map Node.kind := by
      unfold present?
      rw [List.getElem?_map]
      cases s.flp.nodes[a - 1]? <;> rfl
    simp only [State.image, hmap, ha, if_false]
    cases present? s.flp.nodes (a - 1) <;> simp [ha]

/-! ### The configuration orders, block by block -/

/-- The settings of a configuration order are those of a valid image again. -/
def KeepsValid (f : State → State × Result) (b : Block) : Prop :=
  ∀ s : State, s.image.Valid → (b.own (fun s => (f s).1) s).image.Valid

section Orders

theorem keepsValid_setSupplyGroup (g capacity settle : Nat) : KeepsValid (orderSetSupplyGroup g capacity settle) .sup := by
  intro s h
  unfold orderSetSupplyGroup
  simp only [Block.own, ownSup]
  split
  · exact h
  split
  · exact h
  rename_i hrange _
  simp only [Bool.or_eq_true, Bool.not_eq_true', not_or, Bool.not_eq_false] at hrange
  refine { h with groups := tableOf_modify h.groups g fun r _ _ => ?_ }
  simp only [hrange.2, Bool.true_and, decide_eq_true_eq]
  exact clampTo_le (Nat.zero_le _) _

theorem keepsValid_setFloor (f zones sweepTeam wardenTeam : Nat) :
    KeepsValid (orderSetFloor f zones sweepTeam wardenTeam) .flr := by
  intro s h
  unfold orderSetFloor
  simp only [Block.own, ownFlr]
  split
  · exact h
  split
  · exact h
  split
  · exact h
  rename_i hrange _ _
  simp only [Bool.not_eq_true', Bool.not_eq_false, Bool.and_eq_true, decide_eq_true_eq] at hrange
  obtain ⟨⟨-, hsweep⟩, hwarden⟩ := hrange
  refine { h with floors := tableOf_modify h.floors f fun r _ _ => ?_ }
  simp only [maskSet_all (Nat.le_refl _), hsweep, hwarden, decide_true, Bool.and_self]

theorem keepsValid_setPattern (n : Nat) (l : List ElementFields) : KeepsValid (orderSetPattern n l) .snd := by
  intro s h
  unfold orderSetPattern
  simp only [Block.own, ownSnd]
  split
  · exact h
  split
  · exact h
  rename_i hrange _
  simp only [Bool.not_eq_true', Bool.not_eq_false, Bool.and_eq_true, decide_eq_true_eq] at hrange
  obtain ⟨⟨-, hlength⟩, hall⟩ := hrange
  have hpatterns := h.patterns
  rw [← List.map_id s.image.patterns] at hpatterns
  refine { h with patterns := ?_ }
  refine (congrArg (tableOf 32 · _) (List.map_id _)).symm.trans (tableOf_set hpatterns n ?_)
  simp only [id, List.length_map, hlength, Bool.true_and, List.all_map, List.all_eq_true, Function.comp_apply,
    Bool.and_eq_true]
  intro e he
  have hin := List.all_eq_true.mp hall e he
  refine ⟨?_, clampTo_inRange (by decide) _⟩
  unfold ElementFields.element
  simp only [ElementFields.inRange, Bool.and_eq_true, Bool.or_eq_true, beq_iff_eq, decide_eq_true_eq] at hin
  obtain ⟨-, hone | htone⟩ := hin
  · simp [hone]
  · by_cases hk : e.kind = 0 <;> simp [hk, htone]

theorem keepsValid_setStation (n : Nat) (fields : Option StationFields) : KeepsValid (orderSetStation n fields) .cal := by
  intro s h
  unfold orderSetStation
  simp only [Block.own, ownCal]
  split
  · exact h
  split
  · exact h
  rename_i hrange _
  simp only [Bool.or_eq_true, Bool.not_eq_true', not_or, Bool.not_eq_false] at hrange
  refine { h with stations := tableOf_set h.stations n ?_ }
  cases fields with
  | none => rfl
  | some f =>
    have hin := hrange.2
    simp only [Option.map_some, Option.all_some, ← image_isKind] at hin
    exact hin

theorem keepsValid_loadDutyList (team start : Nat) (entries : List Nat) :
    KeepsValid (orderLoadDutyList team start entries) .cal := by
  intro s h
  unfold orderLoadDutyList
  simp only [Block.own, ownCal]
  split
  · exact h
  split
  · exact h
  rename_i hrange
  simp only [Bool.not_eq_true', Bool.not_eq_false, Bool.and_eq_true, decide_eq_true_eq] at hrange
  obtain ⟨⟨hstart, hroom⟩, hentries⟩ := hrange
  refine { h with rings := ?_, teamPatterns := ?_ }
  · refine tableOf_modify h.rings team fun t _ hring => ?_
    simp only [Bool.and_eq_true, decide_eq_true_eq] at hring ⊢
    refine ⟨?_, ?_⟩
    · rw [List.length_append, List.length_take]
      omega
    · rw [List.all_append, hentries, Bool.and_true]
      exact List.all_eq_true.mpr fun m hm => List.all_eq_true.mp hring.2 m (List.mem_of_mem_take hm)
  · exact tableOf_modify h.teamPatterns team fun t _ ht => ht

theorem keepsValid_setTeam (team pattern : Nat) : KeepsValid (orderSetTeam team pattern) .cal := by
  intro s h
  unfold orderSetTeam
  simp only [Block.own, ownCal]
  split
  · exact h
  rename_i hrange
  simp only [Bool.not_eq_true', Bool.not_eq_false, Bool.and_eq_true, decide_eq_true_eq] at hrange
  exact { h with
    rings := tableOf_modify h.rings team fun t _ ht => ht
    teamPatterns := tableOf_modify h.teamPatterns team fun t _ _ => decide_eq_true hrange.2 }

theorem keepsValid_setStaff (member pattern : Nat) : KeepsValid (orderSetStaff member pattern) .cal := by
  intro s h
  unfold orderSetStaff
  simp only [Block.own, ownCal]
  split
  · exact h
  rename_i hrange
  simp only [Bool.not_eq_true', Bool.not_eq_false, Bool.and_eq_true, decide_eq_true_eq] at hrange
  exact { h with
    onDuty := tableOf_modify h.onDuty member fun _ _ _ => rfl
    staffPatterns := tableOf_modify h.staffPatterns member fun t _ _ => decide_eq_true hrange.2 }

/-- A record of the dispatcher with the configuration of another is as valid. -/
theorem CallsKeeps.valid {s t : State} (k : CallsKeeps t.cal s.cal) (h : ({ s with cal := t.cal } : State).image.Valid) :
    s.image.Valid := by
  obtain ⟨hstations, hrings, hteam, hstaff, hduty, htiming, -⟩ := k
  have himage : s.image = ({ s with cal := t.cal } : State).image := by
    simp only [State.image, hstations, hrings, hteam, hstaff, hduty, htiming]
  exact himage ▸ h

theorem keepsValid_setDuty (member : Nat) (onDuty : Bool) : KeepsValid (orderSetDuty member onDuty) .cal := by
  intro s h
  obtain ⟨c, hc, k⟩ := orderSetDuty_keeps member onDuty s
  refine CallsKeeps.valid (s := Block.own .cal (fun s => (orderSetDuty member onDuty s).1) s) (t := { s with cal := c }) k ?_
  obtain rfl | rfl := hc
  · exact h
  · exact { h with
      onDuty := tableOf_modify h.onDuty member fun _ _ _ => rfl
      staffPatterns := tableOf_modify h.staffPatterns member fun _ _ ht => ht }

theorem keepsValid_setCallTiming (f : CallTimingFields) : KeepsValid (orderSetCallTiming f) .cal := by
  intro s h
  refine { h with callTiming := beq_iff_eq.mpr ?_ }
  simp [Block.own, ownCal, orderSetCallTiming, doneClamped, State.image, State.onCal, CallTimingFields.clamped, clampTo_clampTo]

theorem keepsValid_setCue (n : Nat) (f : CueFields) : KeepsValid (orderSetCue n f) .clk := by
  intro s h
  unfold orderSetCue
  simp only [Block.own, ownClk]
  split
  · exact h
  rename_i hrange
  simp only [CueFields.inRange, Bool.not_eq_true', Bool.not_eq_false, Bool.and_eq_true, decide_eq_true_eq] at hrange
  obtain ⟨-, ⟨⟨htime, -⟩, hpattern⟩, -⟩ := hrange
  refine { h with cues := tableOf_modify h.cues n fun _ _ _ => ?_ }
  simp only [CueFields.config, htime, hpattern, maskSet_all (Nat.le_refl _), clampTo_inRange (show 1 ≤ 4 by decide),
    clampTo_inRange (show 60 ≤ 240 by decide), clampTo_le (show 0 ≤ 3 by decide), decide_true, Bool.and_self]

theorem keepsValid_setProgramme (f : ProgrammeFields) : KeepsValid (orderSetProgramme f) .prg := by
  intro s h
  unfold orderSetProgramme
  simp only [Block.own, ownPrg]
  split
  · exact h
  split
  · exact h
  rename_i hrange _
  simp only [Bool.not_eq_true', Bool.not_eq_false] at hrange
  refine { h with programmeRange := hrange, programmeClamped := beq_iff_eq.mpr ?_ }
  simp [doneClamped, State.image, State.onPrg, ProgrammeFields.clamped, clampTo_clampTo]

theorem keepsValid_setFireZone (z floors : Nat) : KeepsValid (orderSetFireZone z floors) .fir := by
  intro s h
  unfold orderSetFireZone
  simp only [Block.own, ownFir]
  split
  · exact h
  split
  · exact h
  split
  · exact h
  exact { h with zones := tableOf_modify h.zones z fun _ _ _ => maskSet_all (Nat.le_refl _) }

theorem keepsValid_setFireResponse (f : FireFields) : KeepsValid (orderSetFireResponse f) .fir := by
  intro s h
  unfold orderSetFireResponse
  simp only [Block.own, ownFir]
  split
  · exact h
  split
  · exact h
  rename_i _ hrange
  simp only [Bool.not_eq_true', Bool.not_eq_false] at hrange
  refine { h with fireRange := hrange, fireClamped := beq_iff_eq.mpr ?_ }
  simp [doneClamped, State.image, State.onFir, FireFields.clamped, clampTo_clampTo]

end Orders

end Sys2Proof.Machine
end

section
/-! SUPPORT. The configuration orders of the chain, of the shutters, of the detector inputs and of the nodes keep the image
valid (R24, R64, R169, R180). -/

namespace Sys2Proof.Machine

theorem mem_numbersWhere {α : Type} {l : List α} {p : α → Bool} {n : Nat} :
    n ∈ numbersWhere l p ↔ ∃ a, l[n]? = some a ∧ p a = true := by
  simp only [numbersWhere, List.mem_filter, List.mem_range, Option.any_eq_true]
  constructor
  · rintro ⟨-, a, ha, hp⟩
    exact ⟨a, ha, hp⟩
  · rintro ⟨a, ha, hp⟩
    exact ⟨(List.getElem?_eq_some_iff.mp ha).1, a, ha, hp⟩

theorem mem_presentWhere {α : Type} {l : List (Option α)} {p : α → Bool} {n : Nat} :
    n ∈ presentWhere l p ↔ ∃ a, present? l n = some a ∧ p a = true := by
  simp only [presentWhere, mem_numbersWhere, present?_eq_some]
  constructor
  · rintro ⟨_ | a, ho, hp⟩
    · cases hp
    · exact ⟨a, ho, hp⟩
  · rintro ⟨a, ho, hp⟩
    exact ⟨some a, ho, hp⟩

theorem sideTaken_eq_false {ls : List (Option Landing)} {n : Nat} {l : Landing} :
    sideTaken ls n l = false ↔
      ∀ m r, present? ls m = some r → r.floor = l.floor → r.up = l.up → m = n := by
  simp only [sideTaken, Bool.not_eq_false', List.all_eq_true, mem_presentWhere, beq_iff_eq, Bool.and_eq_true]
  exact ⟨fun h m r hr hf hu => h m ⟨r, hr, hf, hu⟩, fun h m ⟨r, hr, hf, hu⟩ => h m r hr hf hu⟩

/-- A valid chain configuration, part by part. -/
structure ChainConfig.Valid (c : ChainConfig) : Prop where
  geometry : c.geometry.all GeometryFields.inRange = true
  timing : (c.timing.all fun t => t.inRange && t.clamped == t) = true
  size : c.landings.length = 16
  landings : ∀ n l, present? c.landings n = some l → l.floor ≤ 7 ∧ l.position < c.loopLength
  sides : ∀ n l, present? c.landings n = some l → sideTaken c.landings n l = false
  gap : c.hasClearGap = true

theorem ChainConfig.valid_iff (c : ChainConfig) : c.valid = true ↔ c.Valid := by
  have hlandings : (tableOf 16 c.landings fun o => o.all fun l => decide (l.floor ≤ 7) && decide (l.position < c.loopLength)) = true ↔
      c.landings.length = 16 ∧ ∀ n l, present? c.landings n = some l → l.floor ≤ 7 ∧ l.position < c.loopLength := by
    rw [tableOf_iff]
    refine and_congr_right fun _ => ⟨fun h n l hl => ?_, fun h n o ho => ?_⟩
    · simpa using h n (some l) (present?_eq_some.mp hl)
    · cases o with
      | none => rfl
      | some l => simpa using h n l (present?_eq_some.mpr ho)
  have hsides (hsize : c.landings.length = 16) :
      ((List.range 16).all fun n => (present? c.landings n).all fun l => !sideTaken c.landings n l) = true ↔
      ∀ n l, present? c.landings n = some l → sideTaken c.landings n l = false := by
    simp only [List.all_eq_true, List.mem_range, Option.all_eq_true, Bool.not_eq_true']
    refine ⟨fun h n l hl => h n ?_ l hl, fun h n _ l hl => h n l hl⟩
    exact hsize ▸ (List.getElem?_eq_some_iff.mp (present?_eq_some.mp hl)).1
  simp only [valid, Bool.and_eq_true]
  constructor
  · rintro ⟨⟨⟨⟨hgeometry, htiming⟩, htable⟩, hside⟩, hgap⟩
    obtain ⟨hsize, hall⟩ := hlandings.mp htable
    exact ⟨hgeometry, htiming, hsize, hall, (hsides hsize).mp hside, hgap⟩
  · rintro ⟨hgeometry, htiming, hsize, hall, hside, hgap⟩
    exact ⟨⟨⟨⟨hgeometry, htiming⟩, hlandings.mpr ⟨hsize, hall⟩⟩, (hsides hsize).mpr hside⟩, hgap⟩

namespace ChainConfig.Valid

variable {c : ChainConfig}

theorem setGeometry (h : c.Valid) {g : GeometryFields} (hg : g.inRange = true)
    (hl : (c.landings.all fun o => o.all fun l => decide (l.position < g.cars * g.pitch)) = true)
    (hgap : ({ c with geometry := some g } : ChainConfig).hasClearGap = true) :
    ({ c with geometry := some g } : ChainConfig).Valid where
  geometry := hg
  timing := h.timing
  size := h.size
  landings n l hn := by
    have hpos := List.all_eq_true.mp hl (some l) (List.mem_of_getElem? (present?_eq_some.mp hn))
    exact ⟨(h.landings n l hn).1, of_decide_eq_true hpos⟩
  sides := h.sides
  gap := hgap

theorem setTiming (h : c.Valid) {t : TimingFields} (ht : t.inRange = true)
    (hgap : ({ c with timing := some t.clamped } : ChainConfig).hasClearGap = true) :
    ({ c with timing := some t.clamped } : ChainConfig).Valid where
  geometry := h.geometry
  timing := by
    have hclamped : t.clamped.clamped = t.clamped := by
      simp [TimingFields.clamped, clampTo_clampTo]
    have hrange : t.clamped.inRange = true := ht
    simp [hclamped, hrange]
  size := h.size
  landings := h.landings
  sides := h.sides
  gap := hgap

/-- The present landings after one is set: itself, and the others as they were. -/
theorem present?_set_cases {ls : List (Option Landing)} {n m : Nat} {o : Option Landing} {l : Landing}
    (h : present? (ls.set n o) m = some l) : m = n ∧ o = some l ∨ m ≠ n ∧ present? ls m = some l := by
  rw [present?_eq_some, List.getElem?_set] at h
  split at h
  · split at h
    · exact .inl ⟨Eq.symm ‹_›, Option.some.inj h⟩
    · cases h
  · exact .inr ⟨Ne.symm ‹_›, present?_eq_some.mpr h⟩

theorem setLanding (h : c.Valid) {n : Nat} {o : Option Landing}
    (ho : ∀ l ∈ o, (l.floor ≤ 7 ∧ l.position < c.loopLength) ∧ sideTaken c.landings n l = false)
    (hgap : ({ c with landings := c.landings.set n o } : ChainConfig).hasClearGap = true) :
    ({ c with landings := c.landings.set n o } : ChainConfig).Valid where
  geometry := h.geometry
  timing := h.timing
  size := (List.length_set ..).trans h.size
  landings m l hm := by
    obtain ⟨-, rfl⟩ | ⟨-, hm⟩ := present?_set_cases hm
    · exact (ho l rfl).1
    · exact h.landings m l hm
  sides m l hm := by
    refine sideTaken_eq_false.mpr fun k r hk hf hu => ?_
    obtain ⟨rfl, rfl⟩ | ⟨hmn, hold⟩ := present?_set_cases hm
    · obtain ⟨rfl, -⟩ | ⟨-, hk⟩ := present?_set_cases hk
      · rfl
      · exact sideTaken_eq_false.mp (ho l rfl).2 k r hk hf hu
    · obtain ⟨rfl, rfl⟩ | ⟨-, hk⟩ := present?_set_cases hk
      · exact absurd (sideTaken_eq_false.mp (ho r rfl).2 m l hold hf.symm hu.symm) hmn
      · exact sideTaken_eq_false.mp (h.sides m l hold) k r hk hf hu
  gap := hgap

end ChainConfig.Valid

/-! ### The chain's orders -/

/-- A valid image keeps its validity under a chain configuration whose landings serve the shutters. -/
theorem StoreImage.Valid.setChain {i : StoreImage} (h : i.Valid) {c : ChainConfig} (hc : c.Valid)
    (hl : ∀ (n : Nat) (q : ShutterConfig), i.shutters[n]? = some (some q) → landingOnFloor i.chain.landings q.kind q.floor = true →
      landingOnFloor c.landings q.kind q.floor = true) : ({ i with chain := c } : StoreImage).Valid :=
  { h with
    chain := c.valid_iff.mpr hc
    shutters := tableOf_mono h.shutters fun n o ho hv => by
      cases o with
      | none => rfl
      | some q =>
        simp only [Option.all_some, shutterValid, Bool.and_eq_true] at hv ⊢
        obtain ⟨⟨⟨⟨⟨⟨⟨hfloor, hland⟩, hkind⟩, hslot⟩, hgroup⟩, hwarn⟩, hdescent⟩, hraise⟩ := hv
        exact ⟨⟨⟨⟨⟨⟨⟨hfloor, hl n q ho hland⟩, hkind⟩, hslot⟩, hgroup⟩, hwarn⟩, hdescent⟩, hraise⟩ }

@[simp] theorem chainUnpark_config (s : State) : (chainUnpark s).chn.config = s.chn.config := by
  unfold chainUnpark
  split <;> rfl

@[simp] theorem chainLost_config (s : State) : (chainLost s).chn.config = s.chn.config := chainUnpark_config _

@[simp] theorem chainConfigure_config (c : ChainConfig) (rebuild : Bool) (s : State) :
    (chainConfigure c rebuild s).chn.config = c := by
  unfold chainConfigure
  dsimp only
  split
  · split <;> rfl
  · split <;> rfl

theorem Chain.refit_config (c : Chain) : c.refit.config = c.config := by
  unfold Chain.refit
  dsimp only
  split <;> rfl

theorem image_setChain (f : State → State) (s : State) :
    (Block.chn.own f s).image = { s.image with chain := (f s).chn.config } := rfl

theorem keepsValid_setChainGeometry (g : GeometryFields) : KeepsValid (orderSetChainGeometry g) .chn := by
  intro s h
  rw [image_setChain]
  unfold orderSetChainGeometry
  dsimp only
  split
  · exact h
  split
  · exact h
  split
  · exact h
  split
  · exact h
  rename_i hrange hlandings hgap
  simp only [Bool.not_eq_true', Bool.not_eq_false] at hrange hlandings hgap
  simp only [done, State.onChn, Chain.refit_config, chainConfigure_config]
  exact h.setChain (((ChainConfig.valid_iff _).mp h.chain).setGeometry hrange hlandings hgap) fun _ _ _ => id

theorem keepsValid_setChainTiming (t : TimingFields) : KeepsValid (orderSetChainTiming t) .chn := by
  intro s h
  rw [image_setChain]
  unfold orderSetChainTiming
  dsimp only
  split
  · exact h
  split
  · exact h
  split
  · exact h
  rename_i hrange hgap
  simp only [Bool.not_eq_true', Bool.not_eq_false] at hrange hgap
  simp only [doneClamped, chainConfigure_config]
  exact h.setChain (((ChainConfig.valid_iff _).mp h.chain).setTiming hrange hgap) fun _ _ _ => id

theorem namesLanding_of_shutter {s : State} {n l : Nat} {q : ShutterConfig} (h : s.image.shutters[n]? = some (some q))
    (hq : q.kind = .landing l) : s.sht.namesLanding l = true := by
  simp only [State.image, List.getElem?_map, Option.map_eq_some_iff] at h
  obtain ⟨o, ho, r, rfl, rfl⟩ := h
  refine List.any_eq_true.mpr ⟨some r, List.mem_of_getElem? ho, ?_⟩
  simp [Shutter.landing?, hq]

/-- The shutters' landings stand where one landing is set that no shutter names, or whose floor stays. -/
theorem landingOnFloor_set {s : State} {n : Nat} {o : Option Landing}
    (ho : s.sht.namesLanding n = true → ∀ r, present? s.chn.config.landings n = some r → ∃ l ∈ o, l.floor = r.floor) :
    ∀ (m : Nat) (q : ShutterConfig), s.image.shutters[m]? = some (some q) →
      landingOnFloor s.chn.config.landings q.kind q.floor = true →
      landingOnFloor (s.chn.config.landings.set n o) q.kind q.floor = true := by
  intro m q hq hland
  rcases hk : q.kind with _ | l
  · rfl
  · rw [hk] at hland
    simp only [landingOnFloor, Option.any_eq_true] at hland ⊢
    obtain ⟨r, hr, hf⟩ := hland
    by_cases hn : n = l
    · subst hn
      obtain ⟨l', rfl, hl'⟩ := ho (namesLanding_of_shutter hq hk) r hr
      exact ⟨l', present?_set_self hr _, hl' ▸ hf⟩
    · exact ⟨r, (present?_set_ne hn _).trans hr, hf⟩

theorem keepsValid_setLanding (n : Nat) (fields : Option LandingFields) : KeepsValid (orderSetLanding n fields) .chn := by
  intro s h
  have hchain := (ChainConfig.valid_iff _).mp h.chain
  rw [image_setChain]
  unfold orderSetLanding
  split
  · exact h
  split
  · exact h
  split
  · exact h
  cases fields with
  | some f =>
    simp only [orderLandingPresent]
    split
    · exact h
    split
    · exact h
    split
    · exact h
    rename_i hrange hmoves hgap
    simp only [Bool.or_eq_true, Bool.not_eq_true', not_or, Bool.not_eq_false, Bool.not_eq_true, LandingFields.inRange,
      Bool.and_eq_true, decide_eq_true_eq] at hrange hgap
    obtain ⟨⟨⟨hfloor, -⟩, hposition⟩, hside⟩ := hrange
    simp only [done, chainConfigure_config]
    refine h.setChain (hchain.setLanding ?_ hgap) (landingOnFloor_set fun hnamed r hr => ⟨_, rfl, ?_⟩)
    · intro l hl
      obtain rfl := Option.mem_some_iff.mp hl
      exact ⟨⟨hfloor, hposition⟩, hside⟩
    · simp only [hnamed, hr, Option.any_some, Bool.and_true, bne_iff_ne, ne_eq, Classical.not_not] at hmoves
      exact hmoves.symm
  | none =>
    simp only [orderLandingAbsent]
    split
    · exact h
    split
    · exact h
    rename_i hnamed hgap
    simp only [Bool.not_eq_true', Bool.not_eq_false] at hgap
    simp only [done, chainConfigure_config]
    refine h.setChain (hchain.setLanding (fun l hl => absurd hl (Option.not_mem_none l)) hgap)
      (landingOnFloor_set fun hn => absurd hn hnamed)

/-! ### The shutters -/

theorem keepsValid_setShutter (n : Nat) (fields : Option ShutterFields) : KeepsValid (orderSetShutter n fields) .sht := by
  intro s h
  unfold orderSetShutter
  simp only [Block.own, ownSht]
  split
  · exact h
  split
  · exact h
  split
  · exact h
  cases fields with
  | none => exact { h with shutters := tableOf_set h.shutters n rfl }
  | some f =>
    dsimp only
    split
    · exact h
    split
    · exact h
    rename_i hrange _
    simp only [shutterFieldsInRange, Bool.not_eq_true', Bool.not_eq_false, Bool.and_eq_true, decide_eq_true_eq,
      ← image_isKind] at hrange
    obtain ⟨⟨⟨⟨⟨hfloor, -⟩, hland⟩, hkind⟩, hslot⟩, hgroup⟩ := hrange
    refine { h with shutters := tableOf_set h.shutters n ?_ }
    change s.image.shutterValid f.config = true
    simp only [StoreImage.shutterValid, Bool.and_eq_true, decide_eq_true_eq]
    exact ⟨⟨⟨⟨⟨⟨⟨hfloor, hland⟩, hkind⟩, hslot⟩, hgroup⟩, clampTo_le (by decide) _⟩, clampTo_inRange (by decide) _⟩,
      clampTo_inRange (by decide) _⟩

/-! ### The detector inputs -/

/-- The image with the fire configuration of a state is valid. -/
def FireValid (i : StoreImage) (t : State) : Prop :=
  ({ i with
    zones := t.fir.zones.map (·.floors), detectors := t.fir.inputs.map (Option.map Detector.config)
    fire := t.fir.settings } : StoreImage).Valid

theorem FireKeeps.fireValid {s t : State} (k : FireKeeps s t) {i : StoreImage} (h : FireValid i s) : FireValid i t := by
  obtain ⟨hsettings, hzones, hinputs⟩ := k
  unfold FireValid at h ⊢
  rwa [hsettings, hzones, hinputs]

theorem FireValid.setInput {i : StoreImage} {s : State} (h : FireValid i s) (n : Nat) {o : Option Detector}
    (ho : (∀ d ∈ o, (decide (d.config.slot ≤ 3) && decide (d.config.zone ≤ 7) && i.isKind d.config.node .detector) = true)) :
    FireValid i (s.onFir fun f => { f with inputs := f.inputs.set n o }) :=
  { h with detectors := tableOf_set h.detectors n (by
      cases o with
      | none => rfl
      | some d => exact ho d rfl) }

theorem fireRemoveInput_fireValid {i : StoreImage} {s : State} (h : FireValid i s) (n : Nat) :
    FireValid i (fireRemoveInput n s) := by
  have hset := FireKeeps.refl (s.onFir fun f => { f with inputs := f.inputs.set n none })
  have hvalid := h.setInput n (o := none) fun _ hd => absurd hd (Option.not_mem_none _)
  unfold fireRemoveInput
  split
  · exact h
  · dsimp only
    split
    · split
      · exact hvalid
      · exact ((hset.mapZone _).notify _).fireValid hvalid
    · split
      · exact hvalid
      · exact (hset.lapse _).fireValid hvalid
    · exact hvalid

theorem keepsValid_setDetectorInput (n : Nat) (fields : Option DetectorFields) :
    KeepsValid (orderSetDetectorInput n fields) .fir := by
  intro s h
  change FireValid s.image (orderSetDetectorInput n fields s).1
  have hs : FireValid s.image s := h
  unfold orderSetDetectorInput
  split
  · exact hs
  split
  · exact hs
  cases fields with
  | none => exact fireRemoveInput_fireValid hs n
  | some f =>
    dsimp only
    split
    · exact hs
    split
    · exact hs
    rename_i hrange _
    simp only [DetectorFields.inRange, Bool.not_eq_true', Bool.not_eq_false, Bool.and_eq_true, decide_eq_true_eq] at hrange
    obtain ⟨⟨⟨hslot, hzone⟩, -⟩, hkind⟩ := hrange
    refine ((FireKeeps.refl _).inputChange _ _).fireValid ((fireRemoveInput_fireValid hs n).setInput n ?_)
    intro d hd
    obtain rfl := Option.mem_some_iff.mp hd
    simp only [Bool.and_eq_true, decide_eq_true_eq, image_isKind]
    exact ⟨⟨hslot, hzone⟩, hkind⟩

/-! ### The nodes -/

/-- The image with other node kinds is valid where no record names a node whose kind changes. -/
theorem StoreImage.Valid.setNodes {i : StoreImage} (h : i.Valid) {l : List (Option NodeKind)}
    (hsize : (tableOf 64 l fun _ => true) = true)
    (hkind : ∀ a k, (∃ (n : Nat) (q : ShutterConfig), i.shutters[n]? = some (some q) ∧ q.node = a) ∨
      (∃ (n : Nat) (q : StationConfig), i.stations[n]? = some (some q) ∧ q.node = a) ∨
      (∃ (n : Nat) (q : DetectorConfig), i.detectors[n]? = some (some q) ∧ q.node = a) →
      i.isKind a k = true → ({ i with nodes := l } : StoreImage).isKind a k = true) :
    ({ i with nodes := l } : StoreImage).Valid :=
  { h with
    shutters := tableOf_mono h.shutters fun n o ho hv => by
      cases o with
      | none => rfl
      | some q =>
        simp only [Option.all_some, shutterValid, Bool.and_eq_true] at hv ⊢
        obtain ⟨⟨⟨⟨⟨⟨⟨hfloor, hland⟩, hk⟩, hslot⟩, hgroup⟩, hwarn⟩, hdescent⟩, hraise⟩ := hv
        exact ⟨⟨⟨⟨⟨⟨⟨hfloor, hland⟩, hkind _ _ (.inl ⟨n, q, ho, rfl⟩) hk⟩, hslot⟩, hgroup⟩, hwarn⟩, hdescent⟩, hraise⟩
    stations := tableOf_mono h.stations fun n o ho hv => by
      cases o with
      | none => rfl
      | some q =>
        simp only [Option.all_some, Bool.and_eq_true] at hv ⊢
        exact ⟨hv.1, hkind _ _ (.inr (.inl ⟨n, q, ho, rfl⟩)) hv.2⟩
    detectors := tableOf_mono h.detectors fun n o ho hv => by
      cases o with
      | none => rfl
      | some q =>
        simp only [Option.all_some, Bool.and_eq_true] at hv ⊢
        exact ⟨hv.1, hkind _ _ (.inr (.inr ⟨n, q, ho, rfl⟩)) hv.2⟩
    nodes := hsize }

theorem any_of_map_getElem? {α β : Type} {l : List (Option α)} {f : α → β} {n : Nat} {b : β} {p : α → Bool}
    (h : (l.map (Option.map f))[n]? = some (some b)) (hp : ∀ a, f a = b → p a = true) :
    (l.any fun o => o.any p) = true := by
  rw [List.getElem?_map] at h
  obtain ⟨o, ho, hb⟩ := Option.map_eq_some_iff.mp h
  obtain ⟨a, rfl, hfa⟩ := Option.map_eq_some_iff.mp hb
  exact List.any_eq_true.mpr ⟨some a, List.mem_of_getElem? ho, hp a hfa⟩

/-- A node that a record names is named. -/
theorem nodeNamed_of_record {s : State} {a : Nat}
    (h : (∃ (n : Nat) (q : ShutterConfig), s.image.shutters[n]? = some (some q) ∧ q.node = a) ∨
      (∃ (n : Nat) (q : StationConfig), s.image.stations[n]? = some (some q) ∧ q.node = a) ∨
      ∃ (n : Nat) (q : DetectorConfig), s.image.detectors[n]? = some (some q) ∧ q.node = a) : nodeNamed s a = true := by
  unfold nodeNamed
  obtain ⟨n, q, hq, rfl⟩ | ⟨n, q, hq, rfl⟩ | ⟨n, q, hq, rfl⟩ := h
  · rw [any_of_map_getElem? hq (by rintro _ rfl; exact beq_self_eq_true _)]
    rfl
  · rw [any_of_map_getElem? hq (by rintro _ rfl; exact beq_self_eq_true _), Bool.or_true]
    rfl
  · rw [any_of_map_getElem? hq (by rintro _ rfl; exact beq_self_eq_true _), Bool.or_true]

theorem keepsValid_setNode (a code : Nat) : KeepsValid (orderSetNode a code) .flp := by
  intro s h
  unfold orderSetNode
  simp only [Block.own, ownFlp]
  split
  case h_2 => exact h
  case h_1 kind hrange _ =>
  split
  · exact h
  split
  · exact h
  rename_i hnamed
  refine h.setNodes (tableOf_set h.nodes _ rfl) fun b k hb hkind => ?_
  have hne : a - 1 ≠ b - 1 := by
    intro heq
    have hpos : 1 ≤ a := by
      simp only [inRange, Bool.and_eq_true, decide_eq_true_eq] at hrange
      exact hrange.1
    simp only [image_isKind, Loop.isKind, Option.any_eq_true] at hkind
    obtain ⟨node, hnode, -⟩ := hkind
    have hb0 : b ≠ 0 := by
      rintro rfl
      cases hnode
    obtain rfl : a = b := by omega
    refine hnamed ?_
    rw [hnode, nodeNamed_of_record hb]
    rfl
  unfold StoreImage.isKind at hkind ⊢
  simp only [State.image, done, State.onFlp, List.map_set] at hkind ⊢
  rw [present?_set_ne hne]
  exact hkind

end Sys2Proof.Machine
end

section
/-! SUPPORT. The image through every message, event and order: what no configuration order takes leaves it as it is, and a
full reset loads a valid one (R188). -/

namespace Sys2Proof.Machine

/-! ### The programme unit's orders -/

theorem orderStartClosing_settings (s : State) : (orderStartClosing s).1.prg.settings = s.prg.settings := by
  unfold orderStartClosing
  dsimp only
  iterate 3 (split; rfl)
  rfl

theorem orderStartOpening_settings (s : State) : (orderStartOpening s).1.prg.settings = s.prg.settings := by
  unfold orderStartOpening
  dsimp only
  iterate 4 (split; rfl)
  rfl

theorem orderSkipFloor_settings (s : State) : (orderSkipFloor s).1.prg.settings = s.prg.settings := by
  unfold orderSkipFloor
  split <;> rfl

theorem orderAbortProgramme_settings (s : State) : (orderAbortProgramme s).1.prg.settings = s.prg.settings := by
  unfold orderAbortProgramme
  split
  · rfl
  · exact programmeAbort_settings ..

/-! ### The image, by the block whose record changes -/

section Image

variable {f : State → State} {s : State}

theorem ChainKeeps.image (h : ChainKeeps s (f s)) : (Block.chn.own f s).image = s.image := by
  rw [image_setChain, h.config]
  rfl

theorem ShutterKeeps.image (h : ShutterKeeps s (f s)) : (Block.sht.own f s).image = s.image := by
  change { s.image with shutters := (f s).sht.table.map (Option.map Shutter.config) } = _
  rw [h.config]
  rfl

theorem SupplyKeeps.image (h : SupplyKeeps s.sup (f s).sup) : (Block.sup.own f s).image = s.image := by
  change { s.image with groups := (f s).sup.groups.map Group.config } = _
  rw [h.configs]
  rfl

theorem FloorKeeps.image (h : FloorKeeps s (f s)) : (Block.flr.own f s).image = s.image := by
  change { s.image with floors := (f s).flr.table.map Floor.config } = _
  rw [h]
  rfl

theorem SounderKeeps.image (h : SounderKeeps s.snd (f s).snd) : (Block.snd.own f s).image = s.image := by
  change { s.image with patterns := (f s).snd.patterns } = _
  rw [h.patterns]
  rfl

theorem CallsKeeps.image (h : CallsKeeps s.cal (f s).cal) : (Block.cal.own f s).image = s.image := by
  obtain ⟨hstations, hrings, hteam, hstaff, hduty, htiming, -⟩ := h
  change { s.image with
    stations := (f s).cal.stations.map (Option.map Station.config), rings := (f s).cal.teams.map Team.ring
    teamPatterns := (f s).cal.teams.map Team.pattern, staffPatterns := (f s).cal.staff.map Staff.pattern
    onDuty := (f s).cal.staff.map Staff.onDuty, callTiming := (f s).cal.timing } = _
  rw [hstations, hrings, hteam, hstaff, hduty, htiming]
  rfl

theorem CueKeeps.image (h : CueKeeps s (f s)) : (Block.clk.own f s).image = s.image := by
  change { s.image with cues := (f s).clk.cues.map Cue.config } = _
  rw [h]
  rfl

theorem image_of_settings (h : (f s).prg.settings = s.prg.settings) : (Block.prg.own f s).image = s.image := by
  change { s.image with programme := (f s).prg.settings } = _
  rw [h]
  rfl

theorem FireKeeps.image (h : FireKeeps s (f s)) : (Block.fir.own f s).image = s.image := by
  obtain ⟨hsettings, hzones, hinputs⟩ := h
  change { s.image with
    zones := (f s).fir.zones.map FireZone.floors
    detectors := (f s).fir.inputs.map (Option.map Detector.config), fire := (f s).fir.settings } = _
  rw [hsettings, hzones, hinputs]
  rfl

theorem NodeKeeps.image (h : NodeKeeps s (f s)) : (Block.flp.own f s).image = s.image := by
  change { s.image with nodes := (f s).flp.nodes.map (Option.map Node.kind) } = _
  rw [h]
  rfl

theorem image_of_same (b : Block) (h : f s = s) : (b.own f s).image = s.image := by
  cases b <;> simp only [Block.own, ownChn, ownSht, ownSup, ownFlr, ownSnd, ownCal, ownClk, ownPrg, ownFir, ownFlp, ownLnk, h]

end Image

/-! ### What leaves the image as it is -/

theorem event_image {b : Block} {f : State → State} (hf : Event b f) (s : State) : (b.own f s).image = s.image := by
  cases b with
  | chn => exact (ChainKeeps.event hf s).image
  | sht => exact (ShutterKeeps.event hf s).image
  | sup => exact (SupplyKeeps.event hf s).image
  | flr => cases hf
  | snd => exact (SounderKeeps.event hf s).image
  | cal => exact (CallsKeeps.event hf s).image
  | clk => exact (CueKeeps.event hf s).image
  | prg => exact image_of_settings (hf.prg_settings s)
  | fir => exact (FireKeeps.event hf s).image
  | flp => exact (NodeKeeps.event hf s).image
  | lnk => rfl

/-- An order that configures nothing leaves the configuration as it is. -/
theorem order_image {o : Order} (ho : o.configures = false) (tag : Nat) (s : State) :
    (o.owner.own (fun s => (serveOrder tag o s).1) s).image = s.image := by
  have hreads (hr : o.reads = true) : (o.owner.own (fun s => (serveOrder tag o s).1) s).image = s.image :=
    image_of_same _ (serveOrder_reads hr tag s)
  cases o with
  | readStatus | readClearance | readShutter | readSupply | readFloor | readSounder | readCalls | readClock
  | readProgramme | readFire | readNode => exact hreads rfl
  | commitConfiguration | serviceReset => rfl
  | runChain => exact (ChainKeeps.refl s).orderRun.image
  | stopChain mask => exact ((ChainKeeps.refl s).orderStop mask).image
  | haltChain => exact (ChainKeeps.refl s).orderHalt.image
  | homeChain => exact (ChainKeeps.refl s).orderHome.image
  | resetChainTrip => exact (ChainKeeps.refl s).orderResetTrip.image
  | dropShutter n => exact (ShutterKeeps.orderDrop s n).image
  | forceDrop n => exact (ShutterKeeps.orderForce s n).image
  | raiseShutter n => exact (ShutterKeeps.orderRaise s n).image
  | clearShutterFault n => exact (ShutterKeeps.orderClear s n).image
  | setFloorState f code => exact (FloorKeeps.orderState f code s).image
  | sound p z r => exact (orderSound_keeps tag p z r s).image
  | placeCall st b => exact (CallsKeeps.placeCall st b s).image
  | cancelCall n => exact (CallsKeeps.cancelCall n s).image
  | setTime t d =>
    refine CueKeeps.image (f := fun s => (orderSetTime t d s).1) ?_
    unfold orderSetTime
    split <;> rfl
  | startClosing => exact image_of_settings (orderStartClosing_settings s)
  | startOpening => exact image_of_settings (orderStartOpening_settings s)
  | skipFloor => exact image_of_settings (orderSkipFloor_settings s)
  | abortProgramme => exact image_of_settings (orderAbortProgramme_settings s)
  | acknowledgeFire => exact (FireKeeps.orderAcknowledge s).image
  | silence => exact (FireKeeps.orderSilence s).image
  | resetFire => exact (FireKeeps.orderReset s).image
  | _ => contradiction

/-- An order that configures leaves a valid image. -/
theorem order_valid {o : Order} (ho : o.configures = true) (tag : Nat) {s : State} (h : s.image.Valid) :
    (o.owner.own (fun s => (serveOrder tag o s).1) s).image.Valid := by
  cases o with
  | setChainGeometry g => exact keepsValid_setChainGeometry g s h
  | setLanding n f => exact keepsValid_setLanding n f s h
  | setChainTiming t => exact keepsValid_setChainTiming t s h
  | setShutter n f => exact keepsValid_setShutter n f s h
  | setSupplyGroup g c t => exact keepsValid_setSupplyGroup g c t s h
  | setFloor f z a b => exact keepsValid_setFloor f z a b s h
  | setPattern n l => exact keepsValid_setPattern n l s h
  | setStation n f => exact keepsValid_setStation n f s h
  | loadDutyList t st l => exact keepsValid_loadDutyList t st l s h
  | setTeam t p => exact keepsValid_setTeam t p s h
  | setStaff m p => exact keepsValid_setStaff m p s h
  | setDuty m b => exact keepsValid_setDuty m b s h
  | setCallTiming f => exact keepsValid_setCallTiming f s h
  | setCue n f => exact keepsValid_setCue n f s h
  | setProgramme f => exact keepsValid_setProgramme f s h
  | setFireZone z f => exact keepsValid_setFireZone z f s h
  | setDetectorInput n f => exact keepsValid_setDetectorInput n f s h
  | setFireResponse f => exact keepsValid_setFireResponse f s h
  | setNode a k => exact keepsValid_setNode a k s h
  | _ => contradiction

theorem Takes.image_valid {b : Block} {f : State → State} (hf : Takes b f) {s : State} (h : s.image.Valid) :
    (b.own f s).image.Valid := by
  have same {t : State} (ht : t.image = s.image) : t.image.Valid := ht ▸ h
  cases hf with
  | chn m => exact same (ChainKeeps.take m s).image
  | sht m => exact same (ShutterKeeps.take m s).image
  | sup m => exact same (SupplyKeeps.take m s).image
  | flr m => exact same (FloorKeeps.take m s).image
  | snd m => exact same (SounderKeeps.take m s).image
  | cal m => exact same (CallsKeeps.take m s).image
  | clk m => exact same (CueKeeps.take m s).image
  | prg m => exact same (image_of_settings (programmeTake_settings s m))
  | fir m => exact same (FireKeeps.take m s).image
  | lnk m => exact same rfl
  | event hf => exact same (event_image hf s)
  | order tag o ho =>
    subst ho
    rcases hc : o.configures with _ | _
    · exact same (order_image hc tag s)
    · exact order_valid hc tag h

/-! ### The load -/

theorem reset_image_valid : State.reset.image.valid = true := by decide

theorem loadable_valid (k : Link) : (k.loadable.getD State.reset.image).valid = true := by
  unfold Link.loadable
  split
  · split
    · rename_i h
      exact (Bool.and_eq_true_iff.mp h).2
    · exact reset_image_valid
  · exact reset_image_valid

theorem map_zip_fst {α β γ : Type} {g : α × β → γ} {f : γ → α} (hg : ∀ p, f (g p) = p.1) {l : List α} {m : List β}
    (h : l.length ≤ m.length) : ((l.zip m).map g).map f = l := by
  rw [List.map_map, show f ∘ g = Prod.fst from funext hg, List.map_fst_zip h]

theorem map_zip_snd {α β γ : Type} {g : α × β → γ} {f : γ → β} (hg : ∀ p, f (g p) = p.2) {l : List α} {m : List β}
    (h : m.length ≤ l.length) : ((l.zip m).map g).map f = m := by
  rw [List.map_map, show f ∘ g = Prod.snd from funext hg, List.map_snd_zip h]

theorem map_option_fresh {α β : Type} {g : α → β} {f : β → α} (hg : ∀ a, f (g a) = a) (l : List (Option α)) :
    (l.map (Option.map g)).map (Option.map f) = l := by
  rw [List.map_map, Option.map_comp_map, show f ∘ g = id from funext hg, Option.map_id, List.map_id]

theorem map_fresh {α β : Type} {g : α → β} {f : β → α} (hg : ∀ a, f (g a) = a) (l : List α) : (l.map g).map f = l := by
  rw [List.map_map, show f ∘ g = id from funext hg, List.map_id]

/-- The load of a valid image is a part with that image. -/
theorem loaded_image {i : StoreImage} (h : i.Valid) (s : State) : (loaded i s).image = i := by
  have hteams : i.rings.length = i.teamPatterns.length :=
    (tableOf_length h.rings).trans (tableOf_length h.teamPatterns).symm
  have hstaff : i.staffPatterns.length = i.onDuty.length :=
    (tableOf_length h.staffPatterns).trans (tableOf_length h.onDuty).symm
  have hrings : (loaded i s).cal.teams.map Team.ring = i.rings :=
    map_zip_fst (g := fun p => ({ ring := p.1, pointer := 0, pattern := p.2 } : Team))
      (fun _ => rfl) hteams.le
  have hpatterns : (loaded i s).cal.teams.map Team.pattern = i.teamPatterns :=
    map_zip_snd (g := fun p => ({ ring := p.1, pointer := 0, pattern := p.2 } : Team))
      (fun _ => rfl) hteams.ge
  have hmembers : (loaded i s).cal.staff.map Staff.pattern = i.staffPatterns :=
    map_zip_fst (g := fun p => ({ pattern := p.1, onDuty := p.2, assigned := none } : Staff))
      (fun _ => rfl) hstaff.le
  have hduty : (loaded i s).cal.staff.map Staff.onDuty = i.onDuty :=
    map_zip_snd (g := fun p => ({ pattern := p.1, onDuty := p.2, assigned := none } : Staff))
      (fun _ => rfl) hstaff.ge
  have hshutters : (loaded i s).sht.table.map (Option.map Shutter.config) = i.shutters := map_option_fresh (fun _ => rfl) _
  have hstations : (loaded i s).cal.stations.map (Option.map Station.config) = i.stations :=
    map_option_fresh (fun _ => rfl) _
  have hinputs : (loaded i s).fir.inputs.map (Option.map Detector.config) = i.detectors :=
    map_option_fresh (fun _ => rfl) _
  have hnodes : (loaded i s).flp.nodes.map (Option.map Node.kind) = i.nodes := map_option_fresh (fun _ => rfl) _
  have hgroups : (loaded i s).sup.groups.map Group.config = i.groups := map_fresh (fun _ => rfl) _
  have hfloors : (loaded i s).flr.table.map Floor.config = i.floors := map_fresh (fun _ => rfl) _
  have hcues : (loaded i s).clk.cues.map Cue.config = i.cues := map_fresh (fun _ => rfl) _
  have hzones : (loaded i s).fir.zones.map FireZone.floors = i.zones := map_fresh (fun _ => rfl) _
  unfold State.image
  rw [hrings, hpatterns, hmembers, hduty, hshutters, hstations, hinputs, hnodes, hgroups, hfloors, hcues, hzones]
  rfl

theorem ChainOnly.image {s t : State} (h : ChainOnly s t) (hc : t.chn.config = s.chn.config) : t.image = s.image := by
  have himage : t.image = { s.image with chain := t.chn.config } := congrArg State.image h
  rw [himage, hc]
  rfl

theorem chainAfterReset_config (s : State) : (chainAfterReset s).chn.config = s.chn.config := by
  have h := ChainKeeps.refl s
  unfold chainAfterReset
  split
  · exact (h.trip _).config
  · split
    · rfl
    · rfl

theorem supplyDipped_image (s : State) : (supplyDipped s).image = s.image := by
  obtain ⟨u, a, h⟩ := supplyDipped_frame s
  have himage : (supplyDipped s).image = { s.image with groups := (supplyDipped s).sup.groups.map Group.config } := by
    rw [h]
    rfl
  rw [himage, (supplyDipped_keeps s).configs]
  rfl

/-- A full reset leaves the image it loads. -/
theorem fullReset_image (s : State) : (fullReset s).image = s.lnk.loadable.getD State.reset.image := by
  have hvalid := (StoreImage.valid_iff _).mp (loadable_valid s.lnk)
  have hloaded := loaded_image hvalid s
  have hafter : (chainAfterReset (loaded (s.lnk.loadable.getD State.reset.image) s)).image =
      s.lnk.loadable.getD State.reset.image :=
    ((ChainOnly.afterReset _).image (chainAfterReset_config _)).trans hloaded
  unfold fullReset
  dsimp only
  split
  · exact (supplyDipped_image _).trans hafter
  · exact hafter

theorem tick_image (s : State) : (tick s).image = s.image := by
  have hshutters : (tick s).sht.table.map (Option.map Shutter.config) = s.sht.table.map (Option.map Shutter.config) := by
    change (s.sht.table.map (Option.map Shutter.tick)).map _ = _
    rw [List.map_map, Option.map_comp_map]
    rfl
  have hzones : (tick s).fir.zones.map FireZone.floors = s.fir.zones.map FireZone.floors := by
    change (s.fir.zones.map _).map _ = _
    rw [List.map_map]
    rfl
  obtain ⟨hstations, hrings, hteam, hstaff, hduty, htiming, -⟩ := CallsKeeps.tick s.cal
  have hgroups := (SupplyKeeps.tick s.sup).configs
  change (tick s).cal.stations.map _ = _ at hstations
  change (tick s).cal.teams.map _ = _ at hrings
  change (tick s).cal.teams.map _ = _ at hteam
  change (tick s).cal.staff.map _ = _ at hstaff
  change (tick s).cal.staff.map _ = _ at hduty
  change (tick s).sup.groups.map _ = _ at hgroups
  unfold State.image
  rw [hshutters, hzones, hstations, hrings, hteam, hstaff, hduty, hgroups]
  rfl

end Sys2Proof.Machine
end

section
/-! SUPPORT. The stored gap table is that of the configuration held, or its rebuild is on the agenda (R31, R41). -/

namespace Sys2Proof.Machine

/-- The table is stored, or its rebuild is waiting. -/
def TableKept (s : State) : Prop := s.clr.table = s.chn.config.storedTable ∨ Msg.clr ∈ s.agenda

/-- An event leaves the stored table true, or hands its rebuild on. -/
def Rebuilds (b : Block) (f : State → State) : Prop :=
  ∀ s : State, (b.own f s).chn.config.storedTable = s.chn.config.storedTable ∨ Msg.clr ∈ (b.own f s).agenda

theorem chainConfigure_rebuild (c : ChainConfig) (s : State) : Msg.clr ∈ (chainConfigure c true s).agenda := by
  unfold chainConfigure
  simp only [Bool.true_or, if_true]
  split
  · simp [chainEnter, State.post, State.onChn]
  · simp [State.post]

/-- The table follows the geometry, the landings and the two bands alone, once the chain is configured. -/
theorem storedTable_setTiming {c : ChainConfig} {t : TimingFields}
    (hconf : c.configured = true ∨ ({ c with timing := some t } : ChainConfig).configured = false)
    (hband : ({ c with timing := some t } : ChainConfig).planningBand = c.planningBand) :
    ({ c with timing := some t } : ChainConfig).storedTable = c.storedTable := by
  have hsame : ({ c with timing := some t } : ChainConfig).configured = c.configured := by
    obtain h | h := hconf
    · rw [h]
      simp only [ChainConfig.configured, Bool.and_eq_true] at h ⊢
      exact ⟨h.1, rfl⟩
    · rw [h]
      simp only [ChainConfig.configured, Option.isSome_some, Bool.and_true] at h
      simp [ChainConfig.configured, h]
  unfold ChainConfig.storedTable
  rw [hsame, hband]
  rfl

theorem chainConfigure_table {c : ChainConfig} {rebuild : Bool} {s : State}
    (h : rebuild = false → (s.chn.config.configured = true ∨ c.configured = false) →
      c.storedTable = s.chn.config.storedTable) :
    (chainConfigure c rebuild s).chn.config.storedTable = s.chn.config.storedTable ∨
      Msg.clr ∈ (chainConfigure c rebuild s).agenda := by
  cases hr : rebuild with
  | true => exact .inr (chainConfigure_rebuild c s)
  | false =>
    rw [chainConfigure_config]
    by_cases hb : (!s.chn.config.configured && c.configured) = true
    · refine .inr ?_
      have hsame : chainConfigure c false s = chainConfigure c true s := by
        unfold chainConfigure
        simp only [hb, Bool.or_true]
      rw [hsame]
      exact chainConfigure_rebuild c s
    · refine .inl (h hr ?_)
      cases hs : s.chn.config.configured <;> cases hc : c.configured <;> simp_all

theorem rebuilds_setChainTiming (t : TimingFields) : Rebuilds .chn fun s => (orderSetChainTiming t s).1 := by
  intro s
  change (orderSetChainTiming t s).1.chn.config.storedTable = _ ∨ Msg.clr ∈ (orderSetChainTiming t s).1.agenda
  unfold orderSetChainTiming
  dsimp only
  split
  · exact .inl rfl
  split
  · exact .inl rfl
  split
  · exact .inl rfl
  refine chainConfigure_table fun hbands hconf => storedTable_setTiming hconf ?_
  simp only [Bool.or_eq_false_iff, bne_eq_false_iff_eq] at hbands
  exact hbands.2

theorem rebuilds_setChainGeometry (g : GeometryFields) : Rebuilds .chn fun s => (orderSetChainGeometry g s).1 := by
  intro s
  change (orderSetChainGeometry g s).1.chn.config.storedTable = _ ∨ Msg.clr ∈ (orderSetChainGeometry g s).1.agenda
  unfold orderSetChainGeometry
  dsimp only
  split
  · exact .inl rfl
  split
  · exact .inl rfl
  split
  · exact .inl rfl
  split
  · exact .inl rfl
  exact .inr (chainConfigure_rebuild _ _)

theorem rebuilds_setLanding (n : Nat) (fields : Option LandingFields) :
    Rebuilds .chn fun s => (orderSetLanding n fields s).1 := by
  intro s
  change (orderSetLanding n fields s).1.chn.config.storedTable = _ ∨ Msg.clr ∈ (orderSetLanding n fields s).1.agenda
  unfold orderSetLanding
  split
  · exact .inl rfl
  split
  · exact .inl rfl
  split
  · exact .inl rfl
  split
  · unfold orderLandingPresent
    dsimp only
    split
    · exact .inl rfl
    split
    · exact .inl rfl
    split
    · exact .inl rfl
    exact .inr (chainConfigure_rebuild _ _)
  · unfold orderLandingAbsent
    dsimp only
    split
    · exact .inl rfl
    split
    · exact .inl rfl
    exact .inr (chainConfigure_rebuild _ _)

theorem Takes.rebuilds {b : Block} {f : State → State} (hf : Takes b f) : Rebuilds b f := by
  intro s
  cases b with
  | chn =>
    cases hf with
    | chn m => exact .inl (congrArg _ (ChainKeeps.take m s).config)
    | event hf => exact .inl (congrArg _ (ChainKeeps.event hf s).config)
    | order tag o ho =>
      cases o with
      | setChainGeometry g => exact rebuilds_setChainGeometry g s
      | setLanding n f => exact rebuilds_setLanding n f s
      | setChainTiming t => exact rebuilds_setChainTiming t s
      | runChain => exact .inl (congrArg _ (ChainKeeps.refl s).orderRun.config)
      | stopChain mask => exact .inl (congrArg _ ((ChainKeeps.refl s).orderStop mask).config)
      | haltChain => exact .inl (congrArg _ (ChainKeeps.refl s).orderHalt.config)
      | homeChain => exact .inl (congrArg _ (ChainKeeps.refl s).orderHome.config)
      | resetChainTrip => exact .inl (congrArg _ (ChainKeeps.refl s).orderResetTrip.config)
      | readClearance p => exact .inl (congrArg (fun t => t.chn.config.storedTable) (serveOrder_reads rfl tag s))
      | _ => contradiction
  | _ => exact .inl rfl

@[simp] theorem Block.own_clr (b : Block) (f : State → State) (s : State) : (b.own f s).clr = s.clr := by
  cases b <;> rfl

theorem Takes.tableKept {b : Block} {f : State → State} (hf : Takes b f) {s : State}
    (h : s.clr.table = s.chn.config.storedTable) : TableKept (b.own f s) := by
  obtain hsame | hclr := hf.rebuilds s
  · exact .inl (by rw [b.own_clr, hsame, h])
  · exact .inr hclr

theorem Takes.tableKept_of_table {b : Block} {f : State → State} (hf : Takes b f) {s : State} {t : State}
    (ht : b.own f s = t) (h : s.clr.table = s.chn.config.storedTable) : TableKept t := ht ▸ hf.tableKept h

/-- A message leaves the table true, or hands its rebuild on. -/
theorem handle_tableKept (m : Msg) {s : State} (h : s.clr.table = s.chn.config.storedTable) : TableKept (handle m s) := by
  cases m with
  | chn m => exact (Takes.chn m).tableKept h
  | clr => exact .inl rfl
  | sht m => exact (Takes.sht m).tableKept h
  | sup m => exact (Takes.sup m).tableKept h
  | flr m => exact (Takes.flr m).tableKept h
  | snd m => exact (Takes.snd m).tableKept h
  | cal m => exact (Takes.cal m).tableKept h
  | clk m => exact (Takes.clk m).tableKept h
  | prg m => exact (Takes.prg m).tableKept h
  | fir m => exact (Takes.fir m).tableKept h
  | lnk m => exact (Takes.lnk m).tableKept h
  | serve kind tag o =>
    obtain hsame | hclr := (Takes.order tag o rfl).tableKept h
    · exact .inl hsame
    · refine .inr (List.mem_append_left _ ?_)
      split
      · exact List.mem_cons_of_mem _ hclr
      · exact List.mem_append_left _ hclr

theorem handleFirst_tableKept {s : State} {m : Msg} {rest : List Msg} (hm : s.agenda = m :: rest) (h : TableKept s) :
    TableKept (handleFirst m rest s) := by
  have hrest (hin : Msg.clr ∈ rest) : TableKept (handleFirst m rest s) := .inr (List.mem_append_right _ hin)
  obtain htable | hin := h
  · obtain hsame | hclr := handle_tableKept (s := { s with agenda := [] }) m htable
    · exact .inl hsame
    · exact .inr (List.mem_append_left _ hclr)
  · rw [hm] at hin
    obtain rfl | hin := List.mem_cons.mp hin
    · exact .inl rfl
    · exact hrest hin

theorem drain_tableKept {n : Nat} {s t : State} (hs : TableKept s) (h : drain n s = .next t) : TableKept t := by
  induction n generalizing s with
  | zero => simp [drain] at h
  | succ n ih =>
    rcases ha : s.agenda with _ | ⟨m, rest⟩
    · cases hr : s.snd.roomDue
      · have hst : s = t := by simpa [drain, ha, hr] using h
        exact hst ▸ hs
      · rw [drain_room ha hr] at h
        have htable : s.clr.table = s.chn.config.storedTable := hs.resolve_right fun hin => by rw [ha] at hin; cases hin
        exact ih (s := tellRoom s) (.inl htable) h
    · rw [drain_cons ha] at h
      exact ih (handleFirst_tableKept ha hs) h

theorem fullReset_tableKept (s : State) : TableKept (fullReset s) := by
  have himage := congrArg StoreImage.chain (fullReset_image s)
  obtain ⟨c, u, a, h⟩ := fullReset_frame s
  refine .inl ?_
  change (fullReset s).chn.config = _ at himage
  rw [himage, h]
  rfl

theorem exec_table {c : Instr} {s t : State} (hs : s.clr.table = s.chn.config.storedTable) (h : exec c s = .next t) :
    t.clr.table = t.chn.config.storedTable := by
  obtain ⟨s₀, hb, hset⟩ := exec_begins c s
  have hkept : TableKept s₀ := by
    cases hb with
    | event hev => exact (Takes.event hev).tableKept hs
    | slot n => exact (Takes.event (.cueSlot n)).tableKept hs
    | reset => exact fullReset_tableKept s
  have hdrain : drain Config.cascadeBound s₀ = .next t := hset.symm.trans h
  obtain htable | hin := drain_tableKept hkept hdrain
  · exact htable
  · rw [(t.quiet_iff.mp (drain_next_quiet hdrain)).1] at hin
    cases hin

/-- Settles O4: every order keeps the image valid and nothing else touches it, and a change of the chain's configuration
hands the rebuild of the table on within the same command. -/
theorem configurationStaysValid : Obligations.ConfigurationStaysValid := by
  refine ⟨reset_image_valid, rfl, fun s t hquiet hstep => ⟨?quiet, fun hvalid => ?valid, fun htable => ?table⟩⟩
  case valid =>
    rw [StoreImage.valid_iff] at hvalid ⊢
    exact step_keeps_own (P := fun s => s.image.Valid) (fun _ _ hf _ h => hf.image_valid h) (fun _ _ h => h) (fun _ _ h => h)
      (fun _ _ h => h) (fun _ h => h) (fun s _ => (fullReset_image s).symm ▸ (StoreImage.valid_iff _).mp (loadable_valid s.lnk))
      (fun s h => (tick_image s).symm ▸ h) hvalid hstep
  case quiet =>
    unfold step at hstep
    split at hstep
    · exact (commandsSettle _ _ _ hstep).2
    · cases hstep
      exact hquiet
  case table =>
    unfold step at hstep
    split at hstep
    case h_1 c rest _ => exact exec_table (s := { s with pending := rest }) htable hstep
    · cases hstep
      exact htable

end Sys2Proof.Machine
end

section
/-! The floor orders of the programmes, and what the time base brings while no command waits. -/

namespace Sys2Proof.Machine

/-! ### The closing and the opening order (O14) -/

theorem floorOrders_perm : ∀ street < 8, (closingOrder street).Perm (List.range 8) ∧
    (openingOrder street).Perm (List.range 8) := by decide

/-- Two floors in rising number, both of which pass a filter. -/
theorem pair_sublist_floors {a b : Nat} {p : Nat → Bool} (hab : a < b) (hb : b ≤ 7) (hpa : p a = true) (hpb : p b = true) :
    [a, b].Sublist ((List.range 8).filter p) := by
  have hpair : ∀ b < 8, ∀ a < b, [a, b].Sublist (List.range 8) := by decide
  have h := (hpair b (by omega) a hab).filter p
  rwa [List.filter_cons_of_pos hpa, List.filter_cons_of_pos hpb, List.filter_nil] at h

/-- The same two floors in falling number. -/
theorem pair_sublist_reverse {a b : Nat} {p : Nat → Bool} (hab : a < b) (hb : b ≤ 7) (hpa : p a = true) (hpb : p b = true) :
    [b, a].Sublist ((List.range 8).filter p).reverse := (pair_sublist_floors hab hb hpa hpb).reverse

theorem mem_floors {a : Nat} {p : Nat → Bool} (ha : a ≤ 7) (hp : p a = true) : a ∈ (List.range 8).filter p :=
  List.mem_filter.mpr ⟨List.mem_range.mpr (by omega), hp⟩

/-- One floor of a list before one of the next. -/
theorem pair_sublist_append {a b : Nat} {l m : List Nat} (ha : a ∈ l) (hb : b ∈ m) : [a, b].Sublist (l ++ m) :=
  (List.singleton_sublist.mpr ha).append (List.singleton_sublist.mpr hb)

/-- Settles O14: both orders hold the floors above the street together and those below it together, and differ in which
end of each stands first. -/
theorem floorOrders : Obligations.FloorOrders := by
  intro street hstreet
  obtain ⟨hclosing, hopening⟩ := floorOrders_perm street (by omega)
  have hpos {n m : Nat} (h : n < m) : decide (n < m) = true := decide_eq_true h
  refine ⟨hclosing, List.getLast?_concat .., hopening, rfl, fun a b hsb hba ha => ?_, fun a b hsa ha hbs => ?_,
    fun a b hab hbs => ?_⟩
  · refine ⟨?_, ?_⟩
    · exact ((pair_sublist_reverse hba ha (hpos hsb) (hpos (hsb.trans hba))).trans (List.sublist_append_left ..)).trans
        (List.sublist_append_left ..)
    · exact ((pair_sublist_floors hba ha (hpos hsb) (hpos (hsb.trans hba))).trans (List.sublist_append_right ..)).trans
        (List.sublist_append_left ..)
  · have habove := mem_floors (p := fun n => decide (street < n)) ha (hpos hsa)
    have hbelow := mem_floors (p := fun n => decide (n < street)) (by omega) (hpos hbs)
    refine ⟨?_, ?_⟩
    · exact (pair_sublist_append (List.mem_reverse.mpr habove) hbelow).trans (List.sublist_append_left ..)
    · exact pair_sublist_append (List.mem_append_right _ habove) (List.mem_reverse.mpr hbelow)
  · refine ⟨?_, ?_⟩
    · exact ((pair_sublist_floors hab (by omega) (hpos (hab.trans hbs)) (hpos hbs)).trans
        (List.sublist_append_right ..)).trans (List.sublist_append_left ..)
    · exact (pair_sublist_reverse hab (by omega) (hpos (hab.trans hbs)) (hpos hbs)).trans (List.sublist_append_right ..)

/-! ### The reset state (O5) -/

/-- Settles O5: by evaluating the reset state, value by value. -/
theorem resetState : Obligations.ResetState := by
  refine ⟨?values, rfl, rfl, ?apart, rfl, rfl⟩
  case apart => exact List.Pairwise.nil
  case values =>
    dsimp only
    repeat' apply And.intro
    all_goals rfl

/-! ### 50 ms with no command waiting (O2) -/

/-- What falls due, by the block whose timers bring it. -/
theorem State.mem_due {s : State} {c : Instr} : c ∈ s.due ↔
    (s.ticks % 2 = 1 ∧ c = .windowEnd) ∨ c ∈ s.chn.due ∨ c ∈ s.sht.due ∨ c ∈ s.sup.due ∨
      (∃ p ∈ s.snd.playing, c ∈ p.due) ∨ c ∈ s.cal.due ∨ c ∈ s.prg.due ∨ c ∈ s.fir.due ∨
      (s.ticks % 20 = 19 ∧ c ∈ s.clk.due) ∨ c ∈ s.snd.slots ∨ c ∈ s.lnk.due := by
  have hif {p : Prop} [Decidable p] {l : List Instr} : (c ∈ if p then l else []) ↔ p ∧ c ∈ l := by
    split <;> simp_all
  unfold State.due
  simp only [List.mem_append, hif, List.mem_flatMap, List.mem_singleton, or_assoc]
  rfl

theorem mem_dueIn {α : Type} {table : List (Option α)} {timer : α → Timer} {n : Nat} {a : α}
    (h : present? table n = some a) (ht : timer a = .running 1) : n ∈ dueIn table timer :=
  mem_presentWhere.mpr ⟨a, h, by rw [ht]; rfl⟩

theorem chain_due (c : Chain) : (c.runupTimer = .running 1 → .runupTimeout ∈ c.due) ∧
    (c.homingTimer = .running 1 → .homingTimeout ∈ c.due) := by
  unfold Chain.due
  exact ⟨fun h => by simp [h, Timer.dueNow], fun h => by simp [h, Timer.dueNow]⟩

theorem shutter_due {t : Shutters} {n : Nat} {r : Shutter} (hr : t.get? n = some r) :
    (r.warningTimer = .running 1 → .warningTimerExpiry n ∈ t.due) ∧
    (r.descentTimer = .running 1 → .descentTimeout n ∈ t.due) ∧ (r.raiseTimer = .running 1 → .raiseTimeout n ∈ t.due) ∧
    (r.clearTimer = .running 1 → .clearTimerExpiry n ∈ t.due) ∧ (r.holdTimer = .running 1 → .holdTimerExpiry n ∈ t.due) := by
  have hmem {timer : Shutter → Timer} (c : Nat → Instr) (h : timer r = .running 1) : c n ∈ (dueIn t.table timer).map c :=
    List.mem_map_of_mem (mem_dueIn hr h)
  unfold Shutters.due
  simp only [List.mem_append]
  exact ⟨fun h => .inl (.inl (.inl (.inl (hmem _ h)))), fun h => .inl (.inr (hmem _ h)), fun h => .inr (hmem _ h),
    fun h => .inl (.inl (.inl (.inr (hmem _ h)))), fun h => .inl (.inl (.inr (hmem _ h)))⟩

theorem settle_due {u : Supply} {g : Nat} {r : Group} {m : Move} (hr : u.groups[g]? = some r) (hm : m ∈ r.moves)
    (h : m.phase = .settling 1) : .settleExpiry g m.owner ∈ u.due := by
  have hg := (List.getElem?_eq_some_iff.mp hr).1
  refine List.mem_append_left _ (List.mem_flatMap.mpr ⟨g, List.mem_range.mpr hg, List.mem_map_of_mem ?_⟩)
  rw [Supply.group?, hr]
  exact List.mem_map_of_mem (List.mem_filter.mpr ⟨hm, by rw [h]; rfl⟩)

theorem playing_due (p : Playing) :
    (p.sounding.cls.isFire = false → p.left = 1 → .soundingEnd p.sounding.stamp ∈ p.due) ∧
    (p.sounding.cls.isFire = true ∨ p.left ≠ 1 → p.elementLeft = 1 → .patternElementEnd p.sounding.stamp ∈ p.due) := by
  unfold Playing.due
  refine ⟨fun hf hl => ?_, fun h he => ?_⟩
  · simp [hf, hl]
  · have hfirst : (!p.sounding.cls.isFire && p.left == 1) = false := by
      obtain h | h := h <;> simp [h]
    simp [hfirst, he]

theorem call_due {c : Calls} {r : Call} (hr : r ∈ c.calls) (h : r.roundTimer = .running 1) :
    .roundTimerExpiry r.number ∈ c.due :=
  List.mem_append_left _ (List.mem_map_of_mem (f := fun r : Call => Instr.roundTimerExpiry r.number)
    (List.mem_filter.mpr ⟨hr, by rw [h]; rfl⟩))

theorem window_due {c : Calls} {n b : Nat} {st : Station} (hst : c.station? n = some st)
    (h : st.window[b]? = some (.running 1)) : .urgentWindowExpiry n b ∈ c.due := by
  have hn := (List.getElem?_eq_some_iff.mp (present?_eq_some.mp hst)).1
  refine List.mem_append_right _ (List.mem_flatMap.mpr ⟨n, List.mem_range.mpr hn, ?_⟩)
  rw [hst]
  exact List.mem_map_of_mem (mem_numbersWhere.mpr ⟨_, h, rfl⟩)

theorem programme_due (p : Programme) :
    (p.deadline = .running 1 → (if p.step = some .sweep then .sweepTimeout
      else if p.step = some .dwell then .dwellExpiry else .stepDeadlineExpiry) ∈ p.due) ∧
    (p.placingRetry = .running 1 → .placingRetryExpiry ∈ p.due) := by
  unfold Programme.due
  exact ⟨fun h => by simp [h, Timer.dueNow], fun h => by simp [h, Timer.dueNow]⟩

theorem fire_due (f : Fire) :
    (∀ z, ∀ r ∈ f.zones[z]?, r.confirmTimer = .running 1 → .confirmTimerExpiry z ∈ f.due) ∧
    (f.delayTimer = .running 1 → .delayTimerExpiry ∈ f.due) ∧ (f.ackTimer = .running 1 → .ackTimerExpiry ∈ f.due) ∧
    (f.pulseTimer = .running 1 → .pulseTimerExpiry ∈ f.due) := by
  unfold Fire.due
  refine ⟨fun z r hr h => ?_, fun h => by simp [h, Timer.dueNow], fun h => by simp [h, Timer.dueNow],
    fun h => by simp [h, Timer.dueNow]⟩
  have hz := mem_numbersWhere (p := fun r : FireZone => r.confirmTimer.dueNow).mpr ⟨r, hr, by rw [h]; rfl⟩
  simp only [List.mem_append]
  exact .inl (.inl (.inl (List.mem_map_of_mem hz)))

theorem cue_due {c : Clock} {n : Nat} {q : Cue} (hq : c.cues[n]? = some q) (hset : c.isSet = true)
    (hphase : q.phase = .waiting) (hlead : q.lead = 301) : .cueReservationDue n ∈ c.due :=
  List.mem_cons_of_mem _ (List.mem_map_of_mem (mem_numbersWhere.mpr ⟨q, hq, by rw [hset, hphase, hlead]; rfl⟩))

/-- Settles O2: the tick by its definition, and each timer's expiry from the part of the list its block gives. -/
theorem emptyQueueTicks : Obligations.EmptyQueueTicks := by
  intro s hempty
  refine ⟨?tick, fun h => State.mem_due.mpr (.inl ⟨h, rfl⟩), fun h => ?second, ?rest⟩
  case tick =>
    have htick : step s = .next (tick s) := by
      unfold step
      rw [hempty]
    rw [htick]
    unfold tick Supply.tick
    rw [hempty, List.nil_append]
    congr 4
    funext g
    congr 2
    funext m
    obtain ⟨owner, kind, phase⟩ := m
    cases phase <;> rfl
  case second =>
    exact State.mem_due.mpr (.inr (.inr (.inr (.inr (.inr (.inr (.inr (.inr (.inl ⟨h, List.mem_cons_self ..⟩)))))))))
  case rest =>
  obtain ⟨hrunup, hhoming⟩ := chain_due s.chn
  obtain ⟨hdeadline, hplacing⟩ := programme_due s.prg
  obtain ⟨hconfirm, hdelay, hack, hpulse⟩ := fire_due s.fir
  have chn {c} (h : c ∈ s.chn.due) : c ∈ s.due := State.mem_due.mpr (.inr (.inl h))
  have sht {c} (h : c ∈ s.sht.due) : c ∈ s.due := State.mem_due.mpr (.inr (.inr (.inl h)))
  have sup {c} (h : c ∈ s.sup.due) : c ∈ s.due := State.mem_due.mpr (.inr (.inr (.inr (.inl h))))
  have snd {c} (h : ∃ p ∈ s.snd.playing, c ∈ p.due) : c ∈ s.due := State.mem_due.mpr (by simp [h])
  have cal {c} (h : c ∈ s.cal.due) : c ∈ s.due := State.mem_due.mpr (by simp [h])
  have prg {c} (h : c ∈ s.prg.due) : c ∈ s.due := State.mem_due.mpr (by simp [h])
  have fir {c} (h : c ∈ s.fir.due) : c ∈ s.due := State.mem_due.mpr (by simp [h])
  have clk {c} (ht : s.ticks % 20 = 19) (h : c ∈ s.clk.due) : c ∈ s.due := State.mem_due.mpr (by simp [ht, h])
  have slot {c} (h : c ∈ s.snd.slots) : c ∈ s.due := State.mem_due.mpr (by simp [h])
  have lnk {c} (h : c ∈ s.lnk.due) : c ∈ s.due := State.mem_due.mpr (by simp [h])
  refine ⟨chn ∘ hrunup, chn ∘ hhoming, fun n r hr => ?_, fun g r hr m hm h => sup (settle_due hr hm h), fun h => sup ?_,
    fun p hp => ?_, fun r hr h => cal (call_due hr h), fun n b st hst h => cal (window_due hst h),
    fun n q hq ht hset hphase hlead => clk ht (cue_due hq hset hphase hlead), prg ∘ hdeadline, prg ∘ hplacing,
    fun z r hr h => fir (hconfirm z r hr h), fir ∘ hdelay, fir ∘ hack, fir ∘ hpulse, fun r hr h => slot ?_, fun h => lnk ?_⟩
  · obtain ⟨hwarning, hdescent, hraise, hclear, hhold⟩ := shutter_due hr
    exact ⟨sht ∘ hwarning, sht ∘ hdescent, sht ∘ hraise, sht ∘ hclear, sht ∘ hhold⟩
  · simp [Supply.due, h, Timer.dueNow]
  · obtain ⟨hend, helement⟩ := playing_due p
    exact ⟨fun hf hl => snd ⟨p, hp, hend hf hl⟩, fun hf hl => snd ⟨p, hp, helement hf hl⟩⟩
  · exact List.mem_map_of_mem (f := fun r : Reservation => Instr.cueSlot r.cue) (List.mem_filter.mpr ⟨hr, by rw [h]; rfl⟩)
  · obtain ⟨frame, hframe⟩ := Option.ne_none_iff_exists'.mp h
    simp [Link.due, hframe]

end Sys2Proof.Machine
end

section
/-! The outputs in each state (R6, R44, R59, R96, R114). -/

namespace Sys2Proof.Machine

/-! ### The chain -/

theorem Chain.braked_iff (c : Chain) : c.braked = true ↔ ∃ p ∈ c.plan, p.braked = true := by
  unfold Chain.braked
  cases c.plan <;> simp

/-! ### The sounder zones -/

theorem Sounder.holder?_eq_none {u : Sounder} {z : Nat} (h : ∀ p ∈ u.playing, z ∉ p.sounding.zones) : u.holder? z = none := by
  unfold Sounder.holder?
  rw [List.find?_eq_none]
  intro p hp
  simpa using h p hp

theorem find?_of_pairwise {z : Nat} {p : Playing} {l : List Playing}
    (hapart : l.Pairwise fun p q => ∀ z, z ∈ p.sounding.zones → z ∉ q.sounding.zones) (hp : p ∈ l)
    (hz : z ∈ p.sounding.zones) : (l.find? fun p => p.sounding.zones.contains z) = some p := by
  induction l with
  | nil => cases hp
  | cons q l ih =>
    obtain ⟨hq, hl⟩ := List.pairwise_cons.mp hapart
    obtain rfl | hp := List.mem_cons.mp hp
    · rw [List.find?_cons_of_pos (by simpa using hz)]
    · have hnot : z ∉ q.sounding.zones := fun hzq => hq p hp z hzq hz
      rw [List.find?_cons_of_neg (by simpa using hnot)]
      exact ih hl hp

/-- The one sounding that holds a zone is found. -/
theorem Sounder.holder?_eq_some {u : Sounder} {z : Nat} {p : Playing} (hapart : u.zonesApart) (hp : p ∈ u.playing)
    (hz : z ∈ p.sounding.zones) : u.holder? z = some p := find?_of_pairwise hapart hp hz

/-! ### The lamps -/

/-- A call for which a concerned station's lamp flashes (R114). -/
def Call.flashes (r : Call) : Bool := r.cls == .sweep || r.cls == .warden || r.phase == .unassigned

theorem Calls.lamp_flash {c : Calls} {station : Nat} {r : Call} (hr : r ∈ c.calls) (hc : c.concerns station r = true)
    (hf : r.flashes = true) : c.lamp station = .flash := by
  unfold Calls.lamp
  exact if_pos (List.any_eq_true.mpr ⟨r, List.mem_filter.mpr ⟨hr, hc⟩, hf⟩)

theorem Calls.lamp_still {c : Calls} {station : Nat} (h : ∀ r ∈ c.calls, c.concerns station r = true → r.flashes = false) :
    c.lamp station = if (c.calls.filter (c.concerns station)).isEmpty then .off else .steady := by
  unfold Calls.lamp
  refine if_neg fun hany => ?_
  obtain ⟨r, hr, hf⟩ := List.any_eq_true.mp hany
  obtain ⟨hr, hc⟩ := List.mem_filter.mp hr
  exact Bool.false_ne_true ((h r hr hc).symm.trans hf)

/-- Settles O55: each state's outputs by evaluation, a zone's by the one sounding that holds it, and a lamp's by the calls
that concern its station. -/
theorem outputs : Obligations.Outputs := by
  refine ⟨fun c => ?drive, fun r => ?shutter, fun u z => ⟨fun hnone => ?silent, fun hapart p hp hz l hl e he => ?sounds⟩,
    fun c station st hst => ?lamp⟩
  case drive =>
    have hbraked := c.braked_iff
    refine ⟨?_, ?_, fun h => ⟨fun hr => ?_, fun hr => ?_⟩, fun h => ⟨fun hr => ?_, fun hr => ?_⟩, fun h => ?_, fun h => ?_⟩
    · rintro (h | h | h | h | h) <;> rw [Chain.drive, h]
    · rintro (h | h) <;> rw [Chain.drive, h]
    all_goals rw [Chain.drive, h]
    · rw [hbraked.mpr hr]; rfl
    · rw [Bool.eq_false_iff.mpr (mt hbraked.mp hr)]; rfl
    · rw [hbraked.mpr hr]; rfl
    · rw [Bool.eq_false_iff.mpr (mt hbraked.mp hr)]; rfl
  case shutter =>
    refine ⟨?_, fun h => ?_, fun h => ?_, fun h => ?_, fun h => ?_, ?_, fun h => ?_, fun h => ?_, fun cause => ?_⟩
    · rintro (h | h | h) <;> rw [Shutter.outputs, h]
    · rw [Shutter.outputs, h]
    · rw [Shutter.outputs, h]
    · rw [Shutter.outputs, h]
    · rw [Shutter.outputs, h]
    · rintro (h | h) <;> rw [Shutter.outputs, h]
    · rw [Shutter.outputs, h]
      cases r.paused <;> rfl
    · rw [Shutter.outputs, h]
    · cases cause <;> rfl
  case silent => rw [Sounder.output, Sounder.holder?_eq_none hnone]
  case sounds =>
    rw [Sounder.output, Sounder.holder?_eq_some hapart hp hz]
    have hpattern : u.pattern p.sounding.pattern = l := by rw [Sounder.pattern, Option.mem_def.mp hl]; rfl
    simp only [hpattern, Option.mem_def.mp he, Option.bind_some]
  case lamp =>
    intro concerns flashes
    have hst := Option.mem_def.mp hst
    have hconcerns (r : Call) : concerns r ↔ c.concerns station r = true := by
      simp only [concerns, Calls.concerns, hst]
      rcases r.origin with ⟨n, b⟩ | f
      · simp
      · simpa using eq_comm
    have hflashes (r : Call) : flashes r ↔ r.flashes = true := by simp [flashes, Call.flashes, or_assoc]
    simp only [hconcerns, hflashes]
    refine ⟨fun ⟨r, hr, hc, hf⟩ => Calls.lamp_flash hr hc hf, fun ⟨r, hr, hc⟩ hnone => ?_, fun hnone => ?_⟩
    · rw [Calls.lamp_still fun r hr hc => by simpa using hnone r hr hc, if_neg]
      exact fun hempty => List.ne_nil_of_mem (List.mem_filter.mpr ⟨hr, hc⟩) (List.isEmpty_iff.mp hempty)
    · rw [Calls.lamp_still fun r hr hc => absurd hc (hnone r hr), if_pos]
      exact List.isEmpty_iff.mpr (List.filter_eq_nil_iff.mpr hnone)

end Sys2Proof.Machine
end

section
/-! SUPPORT. What the agenda comes to, message by message. `Does n ms u w` says that the messages `ms`, with all that follows
from them, turn `u` into `w` in `n` turns, whatever waits in the request buffer and behind them on the agenda (log entry 4). -/

namespace Sys2Proof.Machine

/-! ### A state in the course of a command -/

/-- `u` with the requests `q` in the buffer and the messages `ms` on the agenda. -/
def State.during (u : State) (q : List Request) (ms : List Msg) : State :=
  { u with lnk := { u.lnk with requests := q }, agenda := ms }

namespace State

variable (u : State) (q : List Request) (ms : List Msg)

@[simp] theorem during_chn : (u.during q ms).chn = u.chn := rfl
@[simp] theorem during_clr : (u.during q ms).clr = u.clr := rfl
@[simp] theorem during_sht : (u.during q ms).sht = u.sht := rfl
@[simp] theorem during_sup : (u.during q ms).sup = u.sup := rfl
@[simp] theorem during_flr : (u.during q ms).flr = u.flr := rfl
@[simp] theorem during_snd : (u.during q ms).snd = u.snd := rfl
@[simp] theorem during_cal : (u.during q ms).cal = u.cal := rfl
@[simp] theorem during_clk : (u.during q ms).clk = u.clk := rfl
@[simp] theorem during_prg : (u.during q ms).prg = u.prg := rfl
@[simp] theorem during_fir : (u.during q ms).fir = u.fir := rfl
@[simp] theorem during_flp : (u.during q ms).flp = u.flp := rfl
@[simp] theorem during_ticks : (u.during q ms).ticks = u.ticks := rfl
@[simp] theorem during_pending : (u.during q ms).pending = u.pending := rfl
@[simp] theorem during_agenda : (u.during q ms).agenda = ms := rfl
@[simp] theorem during_requests : (u.during q ms).lnk.requests = q := rfl

@[simp] theorem during_onChn (f : Chain → Chain) : (u.during q ms).onChn f = (u.onChn f).during q ms := rfl
@[simp] theorem during_onSht (f : Shutters → Shutters) : (u.during q ms).onSht f = (u.onSht f).during q ms := rfl
@[simp] theorem during_onSup (f : Supply → Supply) : (u.during q ms).onSup f = (u.onSup f).during q ms := rfl
@[simp] theorem during_onFlr (f : Floors → Floors) : (u.during q ms).onFlr f = (u.onFlr f).during q ms := rfl
@[simp] theorem during_onSnd (f : Sounder → Sounder) : (u.during q ms).onSnd f = (u.onSnd f).during q ms := rfl
@[simp] theorem during_onCal (f : Calls → Calls) : (u.during q ms).onCal f = (u.onCal f).during q ms := rfl
@[simp] theorem during_onClk (f : Clock → Clock) : (u.during q ms).onClk f = (u.onClk f).during q ms := rfl
@[simp] theorem during_onPrg (f : Programme → Programme) : (u.during q ms).onPrg f = (u.onPrg f).during q ms := rfl
@[simp] theorem during_onFir (f : Fire → Fire) : (u.during q ms).onFir f = (u.onFir f).during q ms := rfl
@[simp] theorem during_onFlp (f : Loop → Loop) : (u.during q ms).onFlp f = (u.onFlp f).during q ms := rfl
@[simp] theorem during_post (l : List Msg) : (u.during q ms).post l = u.during q (ms ++ l) := rfl
@[simp] theorem during_notify (b : NoticeBody) : (u.during q ms).notify b = u.during q (ms ++ [.lnk (.notice b)]) := rfl
@[simp] theorem during_during (q' : List Request) (l : List Msg) : (u.during q ms).during q' l = u.during q' l := rfl

@[simp] theorem during_ask (l : List SupplyMsg) : (u.during q ms).ask l =
    u.during q (ms.filter Msg.isAhead ++ l.map Msg.sup ++ ms.filter fun m => !m.isAhead) := rfl

end State

/-! ### Notices -/

theorem Link.choose_holding (k : Link) (q : List Request) :
    Link.choose { k with requests := q } = { k.choose with requests := q } := by
  obtain ⟨_, _, answers, _, notices⟩ := k
  cases answers <;> cases notices <;> rfl

theorem Link.start_holding (k : Link) (q : List Request) :
    Link.start { k with requests := q } = { k.start with requests := q } := by
  unfold Link.start
  dsimp only
  split
  · exact k.choose_holding q
  · rfl

theorem Link.takeNotice_holding (k : Link) (q : List Request) (n : Notice) :
    Link.takeNotice { k with requests := q } n = { k.takeNotice n with requests := q } := by
  unfold Link.takeNotice
  dsimp only
  split <;> rfl

theorem Link.takeNotice_requests (k : Link) (n : Notice) : (k.takeNotice n).requests = k.requests := by
  unfold Link.takeNotice
  split <;> rfl

theorem Link.takeNotice_answers (k : Link) (n : Notice) : (k.takeNotice n).answers = k.answers := by
  unfold Link.takeNotice
  split <;> rfl

theorem Link.start_answers_le (k : Link) : k.start.answers.length ≤ k.answers.length := by
  unfold Link.start Link.choose
  split
  · split
    · rename_i h
      rw [h]
      exact Nat.le_succ _
    · exact le_rfl
    · exact le_rfl
  · exact le_rfl

@[simp] theorem State.during_noticed (u : State) (q : List Request) (ms : List Msg) (b : NoticeBody) :
    (u.during q ms).noticed b = (u.noticed b).during q ms := by
  unfold State.noticed linkNotice State.onLnk State.during
  dsimp only
  rw [Link.takeNotice_holding, Link.start_holding]

theorem State.noticed_requests (u : State) (b : NoticeBody) : (u.noticed b).lnk.requests = u.lnk.requests :=
  (Link.start_requests _).trans (Link.takeNotice_requests ..)

theorem State.noticed_answers_le (u : State) (b : NoticeBody) :
    (u.noticed b).lnk.answers.length ≤ u.lnk.answers.length :=
  (Link.start_answers_le _).trans (congrArg List.length (Link.takeNotice_answers ..)).le

/-! ### What messages do -/

/-- The messages `ms` turn `u` into `w` in `n` turns. -/
structure Does (n : Nat) (ms : List Msg) (u w : State) : Prop where
  turns : ∀ q rest k, drain (n + k) (u.during q (ms ++ rest)) = drain k (w.during q rest)
  answers : w.lnk.answers.length ≤ u.lnk.answers.length
  requests : w.lnk.requests = u.lnk.requests
  agenda : w.agenda = u.agenda

namespace Does

variable {n k : Nat} {m : Msg} {ms l : List Msg} {u v w : State}

theorem nil (u : State) : Does 0 [] u u := ⟨fun _ _ k => by rw [Nat.zero_add]; rfl, le_rfl, rfl, rfl⟩

theorem append (h : Does n ms u v) (h' : Does k l v w) : Does (n + k) (ms ++ l) u w where
  turns q rest j := by rw [List.append_assoc, Nat.add_assoc, h.turns, h'.turns]
  answers := h'.answers.trans h.answers
  requests := h'.requests.trans h.requests
  agenda := h'.agenda.trans h.agenda

theorem cons (h : Does n [m] u v) (h' : Does k ms v w) : Does (n + k) (m :: ms) u w := h.append h'

/-- A message taken by its block, and then what it hands on. -/
theorem of_handle (hm : ∀ q, handle m (u.during q []) = v.during q ms) (h : Does n ms v w)
    (answers : v.lnk.answers.length ≤ u.lnk.answers.length := by exact le_rfl)
    (requests : v.lnk.requests = u.lnk.requests := by rfl) (agenda : v.agenda = u.agenda := by rfl) :
    Does (1 + n) [m] u w where
  turns q rest j := by
    have hfirst : handleFirst m rest (u.during q ([m] ++ rest)) = v.during q (ms ++ rest) := by
      unfold handleFirst
      rw [show ({ u.during q ([m] ++ rest) with agenda := [] } : State) = u.during q [] from rfl, hm]
      rfl
    rw [Nat.add_assoc, Nat.add_comm 1, drain_cons (rest := rest) rfl, hfirst, h.turns]
  answers := h.answers.trans answers
  requests := h.requests.trans requests
  agenda := h.agenda.trans agenda

/-- A message that hands nothing on. -/
theorem of_handle_nil (hm : ∀ q, handle m (u.during q []) = v.during q [])
    (answers : v.lnk.answers.length ≤ u.lnk.answers.length := by exact le_rfl)
    (requests : v.lnk.requests = u.lnk.requests := by rfl) (agenda : v.agenda = u.agenda := by rfl) : Does 1 [m] u v :=
  of_handle hm (nil v) answers requests agenda

/-- A notice is taken by the service link. -/
theorem notice (u : State) (b : NoticeBody) : Does 1 [.lnk (.notice b)] u (u.noticed b) :=
  of_handle_nil (fun q => u.during_noticed q [] b) (u.noticed_answers_le b) (u.noticed_requests b)

/-- Messages each of which leaves the state as it is. -/
theorem all_same (h : ∀ m ∈ ms, Does 1 [m] u u) : Does ms.length ms u u := by
  induction ms with
  | nil => exact nil u
  | cons m ms ih =>
    rw [List.length_cons, Nat.add_comm]
    exact (h m (List.mem_cons_self ..)).cons (ih fun m' hm' => h m' (List.mem_cons_of_mem _ hm'))

end Does

/-! ### Commands -/

/-- An event whose messages leave nothing due. -/
theorem settle_of_does {s₀ v w : State} {n : Nat} {ms : List Msg} (h₀ : s₀ = { v with agenda := ms }) (h : Does n ms v w)
    (hv : v.agenda = []) (hroom : w.snd.roomDue = false) (hn : n < 1000000000 := by norm_num) : settle s₀ = .next w := by
  have hstart : s₀ = v.during v.lnk.requests (ms ++ []) := by rw [h₀, List.append_nil]; rfl
  have hend : w.during v.lnk.requests [] = w := by
    have hagenda := h.agenda.trans hv
    rw [← h.requests]
    unfold State.during
    rw [← hagenda]
  refine settle_of_drain (n := n + 1) (by omega) ?_
  rw [hstart, h.turns, hend]
  exact drain_quiet ((State.quiet_iff w).mpr ⟨h.agenda.trans hv, hroom⟩) 0

/-- An order that its owner answers with `r` after handing on `ms`. -/
theorem takeOrder_of_does {s v w : State} {tag n : Nat} {o : Order} {r : Result} {ms : List Msg} (hs : s.ready = true)
    (hw : o.configures = true → s.lnk.writing = none) (hfirst : o.answersFirst = false)
    (hserve : ∀ q, ∃ t, serveOrder tag o (s.during q []) = (t, r) ∧
      o.owner.own (fun _ => t) (s.during q []) = v.during q ms)
    (h : Does n ms v w) (hv : v.agenda = []) (hrequests : v.lnk.requests = s.lnk.requests)
    (hanswers : v.lnk.answers = s.lnk.answers) (hroom : w.snd.roomDue = false)
    (hn : n < 999999990 := by norm_num) : takeOrder tag o s = .next (w.answered tag o r) := by
  obtain ⟨hagenda, -, hfree, hplace⟩ := s.ready_iff.mp hs
  obtain ⟨t, hserve, hown⟩ := hserve [⟨o.kind, tag, some o⟩]
  have hstate : o.owner.own (fun s => (serveOrder tag o s).1) (s.during [⟨o.kind, tag, some o⟩] []) =
      v.during [⟨o.kind, tag, some o⟩] ms := by
    rw [← hown]
    cases hb : o.owner <;>
      simp only [Block.own, ownChn, ownSht, ownSup, ownFlr, ownSnd, ownCal, ownClk, ownPrg, ownFir, ownFlp, ownLnk, hserve]
  have hturn : serve o.kind tag o (s.serving tag o) =
      v.during [⟨o.kind, tag, some o⟩] (ms ++ [.lnk (.answer o.kind tag r), .lnk .process]) := by
    unfold serve
    rw [show s.serving tag o = s.during [⟨o.kind, tag, some o⟩] [] from rfl, hstate, hserve, hfirst]
    simp [State.during]
  have hend : w.lnk.requests = [] := h.requests.trans (hrequests.trans hfree)
  have hroomAnswers : w.lnk.answers.length < 4 := h.answers.trans_lt (hanswers ▸ hplace)
  refine settle_of_drain (n := n + 3 + 2) (by omega) ?_
  rw [takeOrder_serve hs hw, hturn, h.turns,
    drain_answer (u := w.during [⟨o.kind, tag, some o⟩] [.lnk (.answer o.kind tag r), .lnk .process]) (n := 0) rfl rfl
      hroomAnswers hroom]
  have hagenda : w.agenda = [] := h.agenda.trans hv
  unfold State.answered State.onLnk State.during
  rw [hagenda, ← hend]

/-- An order's command whose owner changes its own record to that of `v`, hands on `ms` and answers `r`. -/
theorem exec_of_does {c : Instr} {s v w : State} {tag n : Nat} {o : Order} {r : Result} {ms : List Msg}
    (hc : c.order? = some (tag, o)) (hs : s.ready = true) (hw : o.configures = true → s.lnk.writing = none)
    (hserve : ∀ q, serveOrder tag o (s.during q []) = (v.during q ms, r)) (h : Does n ms v w)
    (hfirst : o.answersFirst = false := by rfl)
    (hown : ∀ q, o.owner.own (fun _ => v.during q ms) (s.during q []) = v.during q ms := by intro; rfl)
    (hagenda : v.agenda = s.agenda := by rfl) (hlnk : v.lnk = s.lnk := by rfl)
    (hroom : w.snd.roomDue = s.snd.roomDue := by rfl) (hn : n < 999999990 := by norm_num) :
    exec c s = .next (w.answered tag o r) := by
  obtain ⟨ha, hr, -⟩ := s.ready_iff.mp hs
  rw [exec_order hc]
  exact takeOrder_of_does hs hw hfirst (fun q => ⟨_, hserve q, hown q⟩) h (hagenda.trans ha) (hlnk ▸ rfl) (hlnk ▸ rfl) (hroom.trans hr) hn

/-- The same for an order that hands nothing on. -/
theorem exec_silent {c : Instr} {s v : State} {tag : Nat} {o : Order} {r : Result} (hc : c.order? = some (tag, o))
    (hs : s.ready = true) (hw : o.configures = true → s.lnk.writing = none)
    (hserve : ∀ q, serveOrder tag o (s.during q []) = (v.during q [], r)) (hfirst : o.answersFirst = false := by rfl)
    (hown : ∀ q, o.owner.own (fun _ => v.during q []) (s.during q []) = v.during q [] := by intro; rfl)
    (hagenda : v.agenda = s.agenda := by rfl) (hlnk : v.lnk = s.lnk := by rfl)
    (hroom : v.snd.roomDue = s.snd.roomDue := by rfl) : exec c s = .next (v.answered tag o r) :=
  exec_of_does hc hs hw hserve (.nil v) hfirst hown hagenda hlnk hroom

/-- The same for an order that changes nothing. -/
theorem exec_unchanged {c : Instr} {s : State} {tag : Nat} {o : Order} {r : Result} (hc : c.order? = some (tag, o))
    (hs : s.ready = true) (hw : o.configures = true → s.lnk.writing = none)
    (hserve : ∀ q, serveOrder tag o (s.during q []) = (s.during q [], r)) (hfirst : o.answersFirst = false := by rfl)
    (hown : ∀ q, o.owner.own (fun _ => s.during q []) (s.during q []) = s.during q [] := by intro; rfl) :
    exec c s = .next (s.answered tag o r) := exec_silent hc hs hw hserve hfirst hown

theorem ready_of_configReady {s : State} (h : s.configReady = true) : s.ready = true := (s.configReady_iff.mp h).1

theorem writing_of_configReady {s : State} (h : s.configReady = true) {p : Prop} : p → s.lnk.writing = none :=
  fun _ => (s.configReady_iff.mp h).2

/-- An order that hands nothing on, for a part ready for a configuration order. -/
theorem exec_config_silent {c : Instr} {s v : State} {tag : Nat} {o : Order} {r : Result} (hc : c.order? = some (tag, o))
    (hs : s.configReady = true) (hserve : ∀ q, serveOrder tag o (s.during q []) = (v.during q [], r))
    (hfirst : o.answersFirst = false := by rfl)
    (hown : ∀ q, o.owner.own (fun _ => v.during q []) (s.during q []) = v.during q [] := by intro; rfl)
    (hagenda : v.agenda = s.agenda := by rfl) (hlnk : v.lnk = s.lnk := by rfl)
    (hroom : v.snd.roomDue = s.snd.roomDue := by rfl) : exec c s = .next (v.answered tag o r) :=
  exec_silent hc (ready_of_configReady hs) (writing_of_configReady hs) hserve hfirst hown hagenda hlnk hroom

/-- The answer enters the list and frees the request's place. -/
theorem handle_answer {v : State} {tag : Nat} {o : Order} {r : Result} (hroom : v.lnk.answers.length < 4) (q : Request) :
    handle (.lnk (.answer o.kind tag r)) (v.during [q] []) = (v.answered tag o r).during [] [] := by
  have hput : Link.putAnswer { v.lnk with requests := [q] } ⟨o.kind, tag, r⟩ =
      { v.lnk with requests := [q], answers := v.lnk.answers ++ [⟨o.kind, tag, r⟩] } :=
    if_pos ((Link.hasRoom_iff _).mpr hroom)
  simp only [handle, linkTake, linkAnswer, ownLnk, State.onLnk, State.during, hput, List.tail_cons]
  exact congrArg (fun k => ({ v with lnk := k, agenda := [] } : State))
    (Link.start_holding { v.lnk with answers := v.lnk.answers ++ [⟨o.kind, tag, r⟩] } [])

/-- An order whose rule has it answered before what it hands on. -/
theorem exec_of_does_answered {c : Instr} {s v w : State} {tag n : Nat} {o : Order} {r : Result} {ms : List Msg}
    (hc : c.order? = some (tag, o)) (hs : s.ready = true) (hw : o.configures = true → s.lnk.writing = none)
    (hserve : ∀ q, serveOrder tag o (s.during q []) = (v.during q ms, r)) (h : Does n ms (v.answered tag o r) w)
    (hfirst : o.answersFirst = true := by rfl)
    (hown : ∀ q, o.owner.own (fun _ => v.during q ms) (s.during q []) = v.during q ms := by intro; rfl)
    (hagenda : v.agenda = s.agenda := by rfl) (hlnk : v.lnk = s.lnk := by rfl)
    (hroom : w.snd.roomDue = s.snd.roomDue := by rfl) (hn : n < 999999990 := by norm_num) : exec c s = .next w := by
  obtain ⟨ha, hr, hrequests, hanswers⟩ := s.ready_iff.mp hs
  have hvrequests : v.lnk.requests = [] := hlnk ▸ hrequests
  have hvanswered : (v.answered tag o r).lnk.requests = [] := (Link.start_requests _).trans hvrequests
  have hwagenda : w.agenda = [] := h.agenda.trans (hagenda.trans ha)
  have hwrequests : w.lnk.requests = [] := h.requests.trans hvanswered
  have hturn : serve o.kind tag o (s.serving tag o) =
      v.during [⟨o.kind, tag, some o⟩] (.lnk (.answer o.kind tag r) :: (ms ++ [.lnk .process])) := by
    have hstate : o.owner.own (fun s => (serveOrder tag o s).1) (s.during [⟨o.kind, tag, some o⟩] []) =
        v.during [⟨o.kind, tag, some o⟩] ms := by
      rw [← hown]
      cases hb : o.owner <;>
        simp only [Block.own, ownChn, ownSht, ownSup, ownFlr, ownSnd, ownCal, ownClk, ownPrg, ownFir, ownFlp, ownLnk, hserve]
    unfold serve
    rw [show s.serving tag o = s.during [⟨o.kind, tag, some o⟩] [] from rfl, hstate, hserve, hfirst]
    rfl
  have hend : handleFirst (.lnk .process) [] (w.during [] [.lnk .process]) = w := by
    have hsame : w.during [] [] = w := by
      unfold State.during
      rw [← hwrequests, ← hwagenda]
    exact hsame
  rw [exec_order hc]
  refine settle_of_drain (n := 1 + (n + (1 + 1)) + 2) (by omega) ?_
  rw [takeOrder_serve hs hw, hturn, Nat.add_comm 1, drain_cons rfl, handleFirst,
    show ({ v.during [⟨o.kind, tag, some o⟩] (.lnk (.answer o.kind tag r) :: (ms ++ [.lnk .process])) with agenda := [] } :
      State) = v.during [⟨o.kind, tag, some o⟩] [] from rfl,
    handle_answer (hlnk ▸ hanswers)]
  refine (h.turns [] [.lnk .process] (1 + 1)).trans ?_
  rw [drain_cons rfl, hend]
  exact drain_quiet (w.quiet_iff.mpr ⟨hwagenda, hroom.trans hr⟩) 0

end Sys2Proof.Machine
end

section
/-! SUPPORT. Messages that a part without programme and without a fire condition takes without effect, and the end of a
chain's move. -/

namespace Sys2Proof.Machine

theorem State.idleProgramme_iff (s : State) : s.idleProgramme = true ↔ s.prg.kind = .none := by
  simp [State.idleProgramme]

theorem State.peaceful_iff (s : State) : s.peaceful = true ↔ s.fir.condition = .normal ∧ s.fir.held = [] := by
  simp [State.peaceful, List.isEmpty_iff]

theorem Programme.isAt_of_none {p : Programme} (h : p.kind = .none) (st : ProgrammeStep) : p.isAt st = false := by
  simp [Programme.isAt, Programme.running, h]

/-- In NORMAL no landing is held (R168). -/
theorem heldSet_normal (c : Chain) : heldSet c .normal = [] := rfl

/-- Where no landing is held and none is to be held, the held set stands. -/
theorem fireHold_of_none {s : State} (hset : heldSet s.chn s.fir.condition = []) (hheld : s.fir.held = []) :
    fireHold s = s := by
  have hsame : (s.onFir fun f => { f with held := [] }) = s := by
    unfold State.onFir
    rw [← hheld]
  unfold fireHold
  simp only [hset, setMinus, List.filter_nil, List.isEmpty_nil, Bool.not_true, Bool.false_eq_true, if_false, hsame, ite_self]

theorem heldSet_of_peaceful {s : State} (h : s.peaceful = true) (c : Chain) : heldSet c s.fir.condition = [] := by
  rw [(s.peaceful_iff.mp h).1, heldSet_normal]

theorem heldSet_of_no_clearance {c : Chain} (h : c.clearance = []) (condition : FireCondition) :
    heldSet c condition = [] := by
  unfold heldSet
  rw [h, ite_self]

theorem programmeChainState_idle {s : State} (h : s.idleProgramme = true) (st : ChainState) :
    programmeChainState st s = s := by
  unfold programmeChainState
  rw [Programme.isAt_of_none (s.idleProgramme_iff.mp h)]
  rfl

namespace Does

variable {n : Nat} {ms : List Msg} {u v w : State}

theorem chainState (h : u.idleProgramme = true) (st : ChainState) : Does 1 [.prg (.chainState st)] u u :=
  of_handle_nil fun q => by
    have htake : programmeChainState st (u.during q []) = u.during q [] :=
      programmeChainState_idle (s := u.during q []) h st
    simp only [handle, ownPrg, programmeTake, htake]

theorem chainChanged_of_none (hset : heldSet u.chn u.fir.condition = []) (hheld : u.fir.held = []) :
    Does 1 [.fir .chainChanged] u u :=
  of_handle_nil fun q => by
    have htake : fireHold (u.during q []) = u.during q [] := fireHold_of_none (s := u.during q []) hset hheld
    simp only [handle, ownFir, fireTake, htake]

theorem chainChanged (h : u.peaceful = true) : Does 1 [.fir .chainChanged] u u :=
  chainChanged_of_none (heldSet_of_peaceful h _) (u.peaceful_iff.mp h).2

/-- A chain that is not PARKED releases no shutter (R47). -/
theorem parkChanged_unparked (h : u.chn.state ≠ .parked) : Does 1 [.sht .parkChanged] u u :=
  of_handle_nil fun q => by
    have hnot (l : Nat) : u.chn.parkedClearOf l = false := by simp [Chain.parkedClearOf, h]
    have hnone : (presentWhere u.sht.table fun r =>
        r.state == .awaitClear && r.landing?.any u.chn.parkedClearOf) = [] := by
      refine List.eq_nil_iff_forall_not_mem.mpr fun n hn => ?_
      obtain ⟨r, -, hr⟩ := mem_presentWhere.mp hn
      have hlanding : r.landing?.any u.chn.parkedClearOf = false := by cases r.landing? <;> simp [hnot]
      simp [hlanding] at hr
    have htake : shutterParkChanged (u.during q []) = u.during q [] := by
      unfold shutterParkChanged
      rw [State.during_sht, State.during_chn, hnone]
      rfl
    simp only [handle, ownSht, shutterTake, htake]

theorem clr (u : State) : Does 1 [.clr] u { u with clr := { table := u.chn.config.storedTable } } :=
  of_handle_nil fun _ => rfl

/-- The reports of a chain that enters a state. -/
theorem entered (hp : u.idleProgramme = true) (hf : u.peaceful = true) (st : ChainState) :
    Does 2 [.prg (.chainState st), .fir .chainChanged] u u := (chainState hp st).cons (chainChanged hf)

end Does

end Sys2Proof.Machine
end

section
/-! FULL RESET (R188). -/

namespace Sys2Proof.Machine

theorem exec_fullReset (s : State) : exec .fullReset s = settle (fullReset s) := rfl

/-- Without a dip, the chain's inputs alone follow the load. -/
theorem fullReset_undipped {s : State} (hdip : s.sup.dip = false) :
    fullReset s = chainAfterReset (loaded (s.lnk.loadable.getD State.reset.image) s) := by
  unfold fullReset
  refine if_neg ?_
  rw [(ChainOnly.afterReset _).sup]
  exact Bool.eq_false_iff.mp hdip

/-- With the safety chain closed, the key off and no dip, the load is all. -/
theorem fullReset_calm {s : State} (hsafety : s.chn.safetyClosed = true) (hkey : s.chn.keyOn = false)
    (hdip : s.sup.dip = false) : fullReset s = loaded (s.lnk.loadable.getD State.reset.image) s := by
  have hafter (i : StoreImage) : chainAfterReset (loaded i s) = loaded i s := by
    simp [chainAfterReset, loaded, Chain.fullReset, hsafety, hkey]
  rw [fullReset_undipped hdip, hafter]

theorem loaded_quiet (i : StoreImage) (s : State) : (loaded i s).quiet = true := rfl

/-- The load of the values a part without a valid store has is the reset state, but for the inputs, the uses of the free
positions, the store and the queue. -/
theorem loaded_reset {s : State} (hsafety : s.chn.safetyClosed = true) (hkey : s.chn.keyOn = false)
    (hdip : s.sup.dip = false) (hload : s.lnk.loadable = none) : loaded State.reset.image s = { State.reset with
      chn := { State.reset.chn with upHeld := s.chn.upHeld, downHeld := s.chn.downHeld, openUses := s.chn.openUses }
      lnk := { State.reset.lnk with store := s.lnk.storeAtReset }
      pending := s.pending } := by
  unfold loaded Chain.fullReset
  rw [hsafety, hkey, hdip, hload]
  rfl

theorem loadable_writing {k : Link} (h : k.writing ≠ none) : k.loadable = none := by
  obtain ⟨i, hi⟩ := Option.ne_none_iff_exists'.mp h
  simp [Link.loadable, Link.storeAtReset, hi]

/-- A full reset with the safety chain open trips the chain of the load. -/
theorem settle_trip_loaded (i : StoreImage) (s : State) :
    settle (chainTrip .safetyChain (loaded i s)) = .next ((loaded i s).tripped .safetyChain) := by
  have hdoes (u : State) (hp : u.idleProgramme = true) (hf : u.peaceful = true) (r : TripRecord) :
      Does 3 [.prg (.chainState .tripped), .fir .chainChanged, .lnk (.notice (.chainTripped r))] u
        (u.noticed (.chainTripped r)) := (Does.entered hp hf .tripped).append (.notice u _)
  exact settle_of_does (v := { loaded i s with chn := { (loaded i s).chn.into .tripped with
      plan := none, trip := some { causes := [.safetyChain], first := .safetyChain, position := none, state := .halted } } })
    rfl (hdoes _ rfl rfl _) rfl rfl

/-- A dip of a supply without moves. -/
theorem supplyDipped_of_no_moves {u : State} (hdip : u.sup.dip = true) (hmode : u.sup.mode = .steady)
    (horder : u.sup.order = []) (htimer : u.sup.restartTimer = .stopped) (hmoves : ∀ g ∈ u.sup.groups, g.moves = []) :
    supplyDipped u = (u.onSup fun v => { v with mode := .dipped }).notify (.supplyDip 0) := by
  obtain ⟨chn, clr, sht, ⟨groups, order, mode, timer, dip⟩, flr⟩ := u
  dsimp only at hdip hmode horder htimer hmoves
  subst hdip hmode horder htimer
  have hgroups : (groups.map fun g =>
      { g with moves := g.moves.map fun m => if m.running then { m with phase := .paused } else m }) = groups := by
    conv_rhs => rw [← List.map_id groups]
    refine List.map_congr_left fun g hg => ?_
    have hg := hmoves g hg
    obtain ⟨config, moves, queue⟩ := g
    dsimp only at hg
    rw [hg]
    rfl
  unfold supplyDipped
  simp only [State.onSup, Supply.toPause, List.filter_nil, hgroups, reduceCtorEq, if_false]
  rfl

/-- Settles O6: the load by its definition; what the inputs bring touches a chain at rest in a part without programme,
without fire condition and without supply moves. -/
theorem fullResetLoads : Obligations.FullResetLoads := by
  intro s t
  refine ⟨fun hsafety hkey hdip => ⟨?calm, fun hload => ?empty⟩, rfl, loadable_writing, fun hsafety hdip => ?trip,
    fun hsafety hkey hdip => ?key, fun hsafety hkey hdip => ?dip⟩
  case calm => rw [exec_fullReset, fullReset_calm hsafety hkey hdip, settle_quiet (loaded_quiet _ _)]
  case empty =>
    rw [exec_fullReset, fullReset_calm hsafety hkey hdip, settle_quiet (loaded_quiet _ _), hload]
    exact congrArg _ (loaded_reset hsafety hkey hdip hload)
  case trip =>
    have hafter : chainAfterReset t = chainTrip .safetyChain t := by
      simp [chainAfterReset, t, loaded, Chain.fullReset, hsafety]
    rw [exec_fullReset, fullReset_undipped hdip, hafter, settle_trip_loaded]
  case key =>
    have hafter : chainAfterReset t = if t.chn.config.configured then chainEnter .inspectionIdle t else t := by
      simp [chainAfterReset, t, loaded, Chain.fullReset, hsafety, hkey]
    rw [exec_fullReset, fullReset_undipped hdip, hafter]
    split
    · rename_i hconf
      have hdoes := Does.entered (u := t.onChn fun c => { c with state := .inspectionIdle }) rfl rfl .inspectionIdle
      refine (settle_of_does (v := t.onChn fun c => { c with state := .inspectionIdle }) rfl hdoes rfl rfl).trans ?_
      simp [State.onChn, hconf]
    · rename_i hconf
      rw [settle_quiet (loaded_quiet _ _)]
      simp only [State.onChn, hconf]
      rfl
  case dip =>
    have hfull : fullReset s = supplyDipped t := by
      have hafter : chainAfterReset t = t := by simp [chainAfterReset, t, loaded, Chain.fullReset, hsafety, hkey]
      change (if (chainAfterReset t).sup.dip then _ else chainAfterReset t) = _
      rw [hafter]
      exact if_pos hdip
    have hmoves : ∀ g ∈ t.sup.groups, g.moves = [] := fun g hg => by
      obtain ⟨c, -, rfl⟩ := List.mem_map.mp hg
      rfl
    rw [exec_fullReset, hfull, supplyDipped_of_no_moves (u := t) hdip rfl rfl rfl hmoves]
    exact settle_of_does rfl (Does.notice _ _) rfl rfl

end Sys2Proof.Machine
end

section
/-! The configuration orders that hand nothing on: floors, programme, fire, nodes and the call tables. -/

namespace Sys2Proof.Machine

/-! ### SET FLOOR and SET PROGRAMME (O18) -/

theorem clampTo_bounds {low high : Nat} (h : low ≤ high) (v : Nat) : low ≤ clampTo low high v ∧ clampTo low high v ≤ high := by
  unfold clampTo
  omega

theorem setFloor_exec {s : State} {f zones sweepTeam wardenTeam : Nat} (tag : Nat) (hs : s.configReady = true) (hf : f ≤ 7)
    (hz : zones < 256) (hsweep : sweepTeam ≤ 11) (hwarden : wardenTeam ≤ 11) :
    exec (.setFloor tag f zones sweepTeam wardenTeam) s = .next
      (if s.prg.kind ≠ .none then s.answered tag (.setFloor f zones sweepTeam wardenTeam) (.declined .busy [])
      else if s.fir.condition ≠ .normal then
        s.answered tag (.setFloor f zones sweepTeam wardenTeam) (.declined .fireLock [])
      else
        (s.onFlr fun t => { t with table := t.table.modify f fun r =>
            { r with config := ⟨maskSet 8 zones, sweepTeam, wardenTeam⟩ } }).answered
          tag (.setFloor f zones sweepTeam wardenTeam) (.done false [])) := by
  have horder (u : State) : orderSetFloor f zones sweepTeam wardenTeam u =
      if u.prg.kind != .none then declined .busy u
      else if u.fir.condition != .normal then declined .fireLock u
      else done (u.onFlr fun t => t.modify f fun r => { r with config := ⟨maskSet 8 zones, sweepTeam, wardenTeam⟩ }) := by
    simp [orderSetFloor, hf, hz, hsweep, hwarden]
  by_cases hp : s.prg.kind = .none
  · by_cases hc : s.fir.condition = .normal
    · rw [if_neg (by simp [hp]), if_neg (by simp [hc])]
      exact exec_config_silent rfl hs fun q => by
        simp only [serveOrder, horder, State.during_prg, State.during_fir, hp, hc]
        rfl
    · rw [if_neg (by simp [hp]), if_pos hc]
      exact exec_config_silent rfl hs fun q => by simp [serveOrder, horder, hp, hc, declined]
  · rw [if_pos hp]
    exact exec_config_silent rfl hs fun q => by simp [serveOrder, horder, hp, declined]

theorem setProgramme_exec {s : State} {f : ProgrammeFields} (tag : Nat) (hs : s.configReady = true) (hf : f.inRange = true) :
    exec (.setProgramme tag f) s = .next
      (if s.prg.kind ≠ .none then s.answered tag (.setProgramme f) (.declined .busy [])
      else (s.onPrg fun p => { p with settings := f.clamped }).answered tag (.setProgramme f)
        (.done (decide (f.clamped ≠ f)) [])) := by
  have horder (u : State) : orderSetProgramme f u = if u.prg.kind != .none then declined .busy u
      else doneClamped (f.clamped != f) (u.onPrg fun p => { p with settings := f.clamped }) := by
    simp [orderSetProgramme, hf, Programme.running]
  have hclamps : (f.clamped != f) = decide (f.clamped ≠ f) := by simp [bne, Bool.beq_eq_decide_eq]
  by_cases hp : s.prg.kind = .none
  · rw [if_neg (by simp [hp]), ← hclamps]
    exact exec_config_silent rfl hs fun q => by
      simp only [serveOrder, horder, State.during_prg, hp]
      rfl
  · rw [if_pos hp]
    exact exec_config_silent rfl hs fun q => by simp [serveOrder, horder, hp, declined]

/-- Settles O18: the checks of each order, and its one change. -/
theorem floorAndProgrammeSettings : Obligations.FloorAndProgrammeSettings := by
  refine ⟨fun s tag f zones sweepTeam wardenTeam hs hf hz hsweep hwarden =>
    setFloor_exec tag hs hf hz hsweep hwarden, fun s tag f hs hf => ⟨setProgramme_exec tag hs hf, ?_⟩⟩
  obtain ⟨h1, h1'⟩ := clampTo_bounds (show 60 ≤ 1800 by decide) f.gap1
  obtain ⟨h2, h2'⟩ := clampTo_bounds (show 60 ≤ 1800 by decide) f.gap2
  obtain ⟨h3, h3'⟩ := clampTo_bounds (show 60 ≤ 900 by decide) f.finalGap
  obtain ⟨h4, h4'⟩ := clampTo_bounds (show 60 ≤ 600 by decide) f.sweepRound
  obtain ⟨h5, h5'⟩ := clampTo_bounds (show 120 ≤ 1800 by decide) f.sweepTimeout
  exact ⟨h1, h1', h2, h2', h3, h3', h4, h4', h5, h5', (clampTo_bounds (Nat.zero_le 120) f.dwell).2⟩

/-! ### SET NODE (O20) -/

theorem inRange_eq_decide (low high v : Nat) : inRange low high v = decide (low ≤ v ∧ v ≤ high) := by
  simp [inRange, Bool.decide_and]

theorem setNode_set {f : Loop} {address : Nat} {kind : Option NodeKind} (hpolled : f.polled ≠ some address) :
    { f with nodes := f.nodes.set (address - 1) (kind.map NodeKind.fresh)
             polled := if kind.isNone && f.polled == some address then none else f.polled } =
    { f with nodes := f.nodes.set (address - 1) (kind.map NodeKind.fresh) } := by
  have hnot : (f.polled == some address) = false := beq_eq_false_iff_ne.mpr hpolled
  rw [hnot, Bool.and_false]
  rfl

/-- Settles O20: by the three checks of the rule in its order. -/
theorem setNode : Obligations.SetNode := by
  intro s tag address code hs hpolled
  rw [← inRange_eq_decide]
  have horder (q : List Request) : serveOrder tag (.setNode address code) (s.during q []) =
      orderSetNode address code (s.during q []) := rfl
  split
  case h_1 kind hrange hkind =>
    simp only [orderSetNode, hrange, hkind, State.during_flp] at horder
    split
    · rename_i hheld
      simp only [hheld, if_true] at horder
      exact exec_config_silent rfl hs horder
    · rename_i hheld
      split
      · rename_i hnamed
        have hinUse : (((s.flp.node? address).map (·.kind)).isSome && nodeNamed s address) = true := by
          simp [hnamed.1, hnamed.2]
        exact exec_config_silent rfl hs fun q => (horder q).trans ((if_neg hheld).trans (if_pos hinUse))
      · rename_i hnamed
        have hfree : ¬(((s.flp.node? address).map (·.kind)).isSome && nodeNamed s address) = true := by
          simpa using hnamed
        exact exec_config_silent rfl hs fun q => by
          refine (horder q).trans ((if_neg hheld).trans ((if_neg hfree).trans ?_))
          exact congrArg (fun f => done (State.during { s with flp := f } q [])) (setNode_set hpolled)
  case h_2 hnot =>
    exact exec_config_silent rfl hs fun q => by
      rw [horder]
      unfold orderSetNode
      split
      · rename_i kind hrange hkind
        exact (hnot kind hrange hkind).elim
      · rfl

/-! ### The fire settings (O19) -/

theorem setFireResponse_exec {s : State} {f : FireFields} (tag : Nat) (hs : s.configReady = true) (hf : f.inRange = true) :
    exec (.setFireResponse tag f) s = .next
      (if s.fir.condition ≠ .normal then s.answered tag (.setFireResponse f) (.declined .fireLock [])
      else (s.onFir fun u => { u with settings := f.clamped }).answered tag (.setFireResponse f)
        (.done (decide (f.clamped ≠ f)) [])) := by
  have horder (u : State) : orderSetFireResponse f u = if u.fir.condition != .normal then declined .fireLock u
      else doneClamped (f.clamped != f) (u.onFir fun r => { r with settings := f.clamped }) := by
    simp [orderSetFireResponse, hf]
  have hclamps : (f.clamped != f) = decide (f.clamped ≠ f) := by simp [bne, Bool.beq_eq_decide_eq]
  by_cases hc : s.fir.condition = .normal
  · rw [if_neg (by simp [hc]), ← hclamps]
    exact exec_config_silent rfl hs fun q => by
      simp only [serveOrder, horder, State.during_fir, hc]
      rfl
  · rw [if_pos hc]
    exact exec_config_silent rfl hs fun q => by simp [serveOrder, horder, hc, declined]

theorem setFireZone_exec {s : State} {zone floors : Nat} (tag : Nat) (hs : s.configReady = true) (hz : zone ≤ 7)
    (hf : floors < 256) :
    exec (.setFireZone tag zone floors) s = .next
      (if s.fir.condition ≠ .normal then s.answered tag (.setFireZone zone floors) (.declined .fireLock [])
      else if !((numbersWhere s.fir.zones fun r => setsMeet r.floors (maskSet 8 floors)).all (· == zone)) then
        s.answered tag (.setFireZone zone floors) (.declined .inUse [])
      else
        (s.onFir fun u => { u with zones := u.zones.modify zone fun r => { r with floors := maskSet 8 floors } }).answered
          tag (.setFireZone zone floors) (.done false [])) := by
  have horder (u : State) : orderSetFireZone zone floors u = if u.fir.condition != .normal then declined .fireLock u
      else if !((numbersWhere u.fir.zones fun r => setsMeet r.floors (maskSet 8 floors)).all (· == zone)) then
        declined .inUse u
      else done (u.onFir fun f => f.mapZone zone fun r => { r with floors := maskSet 8 floors }) := by
    simp [orderSetFireZone, hz, hf]
  by_cases hc : s.fir.condition = .normal
  · rw [if_neg (by simp [hc])]
    split
    · rename_i huse
      exact exec_config_silent rfl hs fun q => by
        simp only [serveOrder, horder, State.during_fir, hc, huse]
        rfl
    · rename_i hfree
      exact exec_config_silent rfl hs fun q => by
        simp only [serveOrder, horder, State.during_fir, hc, hfree]
        rfl
  · rw [if_pos hc]
    exact exec_config_silent rfl hs fun q => by simp [serveOrder, horder, hc, declined]

/-- The floors of the order stand in another zone. -/
theorem zone_inUse_iff (zones : List FireZone) (zone floors : Nat) :
    (!((numbersWhere zones fun r => setsMeet r.floors (maskSet 8 floors)).all (· == zone))) =
    (List.range zones.length).any fun z =>
      z != zone && (zones[z]?).any fun r => r.floors.any fun f => decide (f < 8) && floors.testBit f := by
  have hmeet (r : FireZone) : setsMeet r.floors (maskSet 8 floors) =
      r.floors.any fun f => decide (f < 8) && floors.testBit f := by
    unfold setsMeet maskSet
    congr 1
    funext f
    rw [Bool.eq_iff_iff]
    simp
  rw [Bool.eq_iff_iff]
  simp only [hmeet, Bool.not_eq_true', List.all_eq_false, mem_numbersWhere, List.any_eq_true,
    List.mem_range, Option.any_eq_true, Bool.and_eq_true, bne_iff_ne, beq_iff_eq]
  refine ⟨?_, ?_⟩
  · rintro ⟨z, ⟨r, hr, hany⟩, hz⟩
    exact ⟨z, (List.getElem?_eq_some_iff.mp hr).1, hz, r, hr, hany⟩
  · rintro ⟨z, -, hz, r, hr, hany⟩
    exact ⟨z, ⟨r, hr, hany⟩, hz⟩

/-- An input made present on a node not yet heard is in NORMAL, and no zone changes. -/
theorem fireAddInput_normal {s : State} {n : Nat} {c : DetectorConfig} (hn : n < s.fir.inputs.length)
    (hfirst : firstState (s.flp.node? c.node) c.slot = .normal) :
    fireAddInput n c s = s.onFir fun f => { f with inputs := f.inputs.set n (some { config := c, state := .normal }) } := by
  have hinput : (s.onFir fun f => { f with inputs := f.inputs.set n (some ⟨c, .normal⟩) }).fir.input? n =
      some ⟨c, .normal⟩ := by
    unfold Fire.input?
    rw [present?_eq_some]
    exact List.getElem?_set_self hn
  unfold fireAddInput
  simp only [State.onFir_flp, hfirst]
  unfold fireInputChange
  rw [hinput]
  rfl

theorem fireRemoveInput_absent {s : State} {n : Nat} (h : s.fir.input? n = none) : fireRemoveInput n s = s := by
  unfold fireRemoveInput
  rw [h]

theorem setDetectorInput_present_exec {s : State} {input : Nat} {f : DetectorFields} (tag : Nat) (hs : s.configReady = true)
    (hcondition : s.fir.condition = .normal) (hinput : input ≤ 63) (habsent : s.fir.input? input = none)
    (hlength : input < s.fir.inputs.length) (hf : f.inRange = true)
    (hnode : ∃ node ∈ s.flp.node? f.node, node.kind = .detector ∧ node.state = .absent)
    (hfree : ∀ k < s.fir.inputs.length, ∀ d ∈ s.fir.input? k, d.config.node = f.node → d.config.slot ≠ f.slot) :
    exec (.setDetectorInput tag input (some f)) s = .next
      ((s.onFir fun u => { u with
        inputs := u.inputs.set input (some ⟨⟨f.node, f.slot, f.zone, f.kind == 1⟩, .normal⟩) }).answered tag
        (.setDetectorInput input (some f)) (.done false [])) := by
  obtain ⟨node, hat, hkind, hstate⟩ := hnode
  have hat := Option.mem_def.mp hat
  have hisKind : s.flp.isKind f.node .detector = true := by simp [Loop.isKind, hat, hkind]
  have hfirst : firstState (s.flp.node? f.node) f.slot = .normal := by simp [firstState, hat, hstate]
  have hnone : presentWhere s.fir.inputs (fun d => d.config.node == f.node && d.config.slot == f.slot) = [] := by
    refine List.eq_nil_iff_forall_not_mem.mpr fun k hk => ?_
    obtain ⟨d, hd, hp⟩ := mem_presentWhere.mp hk
    simp only [Bool.and_eq_true, beq_iff_eq] at hp
    exact hfree k (List.getElem?_eq_some_iff.mp (present?_eq_some.mp hd)).1 d hd hp.1 hp.2
  refine exec_config_silent rfl hs fun q => ?_
  have hremove : fireRemoveInput input (s.during q []) = s.during q [] := fireRemoveInput_absent (s := s.during q []) habsent
  have hadd := fireAddInput_normal (s := s.during q []) (c := ⟨f.node, f.slot, f.zone, f.kind == 1⟩) hlength hfirst
  simp only [serveOrder, orderSetDetectorInput, hremove, hadd, State.during_fir, State.during_flp, hcondition, hinput, hf,
    DetectorFields.config, hisKind, hnone]
  rfl

theorem setDetectorInput_absent_exec {s : State} {input : Nat} (tag : Nat) (hs : s.configReady = true)
    (hcondition : s.fir.condition = .normal) (hinput : input ≤ 63) (habsent : s.fir.input? input = none) :
    exec (.setDetectorInput tag input none) s = .next (s.answered tag (.setDetectorInput input none) (.done false [])) := by
  refine exec_config_silent rfl hs fun q => ?_
  have hremove : fireRemoveInput input (s.during q []) = s.during q [] := fireRemoveInput_absent (s := s.during q []) habsent
  simp only [serveOrder, orderSetDetectorInput, hremove, State.during_fir, hcondition, hinput]
  rfl

/-- Settles O19: the checks of each order, and its one change; an ABSENT node brings no change of the input's state. -/
theorem fireSettings : Obligations.FireSettings := by
  refine ⟨⟨fun s tag zone floors hs hz hf => ?zone,
    fun s tag evacuate alert confirm delay acknowledge hs hevacuate halert => ?response⟩,
    fun s tag input f hs hcondition hinput habsent hlength hslot hzone hkind hnode hfree => ?present,
    fun s tag input hs hcondition hinput habsent => setDetectorInput_absent_exec tag hs hcondition hinput habsent⟩
  case zone =>
    have h := setFireZone_exec tag hs hz hf
    rwa [zone_inUse_iff] at h
  case response =>
    intro f g
    have hclamped : f.clamped = g := by
      simp [f, g, FireFields.clamped, clampTo]
    have h := setFireResponse_exec (f := f) tag hs (by simp [f, FireFields.inRange, hevacuate, halert])
    rwa [hclamped] at h
  case present =>
    exact setDetectorInput_present_exec tag hs hcondition hinput habsent hlength
      (by simp [DetectorFields.inRange, hslot, hzone, hkind]) hnode hfree

end Sys2Proof.Machine
end

section
/-! The orders to the call tables (R113 to R117). -/

namespace Sys2Proof.Machine

theorem modify_eq_set {α : Type} {l : List α} {n : Nat} {a : α} (h : l[n]? = some a) (f : α → α) :
    l.modify n f = l.set n (f a) := by
  refine List.ext_getElem? fun k => ?_
  rw [List.getElem?_modify, List.getElem?_set]
  split
  · subst n
    rw [h, if_pos (List.getElem?_eq_some_iff.mp h).1]
    rfl
  · exact congrFun (Option.map_id) _

theorem set_same {α : Type} {l : List α} {n : Nat} {a : α} (h : l[n]? = some a) : l.set n a = l := by
  obtain ⟨hn, rfl⟩ := List.getElem?_eq_some_iff.mp h
  exact List.set_getElem_self hn

/-- With no call UNASSIGNED the pass finds nothing to do (R122). -/
theorem callUnassignedPass_none {s : State} (h : ∀ r ∈ s.cal.calls, r.phase ≠ .unassigned) : callUnassignedPass s = s := by
  have hnone : (s.cal.calls.filter fun r => r.phase == .unassigned && !callsRefused s.flr (s.cal.floorOf r)) = [] :=
    List.filter_eq_nil_iff.mpr fun r hr => by simp [h r hr]
  unfold callUnassignedPass
  rw [hnone]
  rfl

theorem Does.unassignedPass {u : State} (h : ∀ r ∈ u.cal.calls, r.phase ≠ .unassigned) :
    Does 1 [.cal .unassignedPass] u u :=
  .of_handle_nil fun q => by
    have htake : callUnassignedPass (u.during q []) = u.during q [] := callUnassignedPass_none (s := u.during q []) h
    simp only [handle, ownCal, callTake, htake]

/-! ### Pattern and timing -/

theorem setTeam_exec {s : State} {team pattern : Nat} (tag : Nat) (hs : s.configReady = true) (hteam : team ≤ 11)
    (hpattern : pattern ≤ 31) : exec (.setTeam tag team pattern) s = .next
      ((s.onCal fun c => { c with teams := c.teams.modify team fun t => { t with pattern := pattern } }).answered
        tag (.setTeam team pattern) (.done false [])) :=
  exec_config_silent rfl hs fun q => by
    simp only [serveOrder, orderSetTeam, hteam, hpattern]
    rfl

theorem setStaff_exec {s : State} {member pattern : Nat} (tag : Nat) (hs : s.configReady = true) (hmember : member ≤ 63)
    (hpattern : pattern ≤ 31) : exec (.setStaff tag member pattern) s = .next
      ((s.onCal fun c => { c with staff := c.staff.modify member fun m => { m with pattern := pattern } }).answered
        tag (.setStaff member pattern) (.done false [])) :=
  exec_config_silent rfl hs fun q => by
    simp only [serveOrder, orderSetStaff, hmember, hpattern]
    rfl

theorem setCallTiming_exec {s : State} (tag : Nat) (f : CallTimingFields) (hs : s.configReady = true) :
    exec (.setCallTiming tag f) s = .next
      ((s.onCal fun c => { c with timing := f.clamped }).answered tag (.setCallTiming f)
        (.done (decide (f.clamped ≠ f)) [])) := by
  have hclamps : (f.clamped != f) = decide (f.clamped ≠ f) := by simp [bne, Bool.beq_eq_decide_eq]
  rw [← hclamps]
  exact exec_config_silent rfl hs fun q => rfl

/-! ### Duty lists and duty -/

theorem orderLoadDutyList_inRange {s : State} {team start : Nat} {entries : List Nat} {t : Team}
    (ht : s.cal.teams[team]? = some t) (hstart : start ≤ t.ring.length) (hroom : start + entries.length ≤ 16)
    (hentries : ∀ e ∈ entries, e ≤ 63) : orderLoadDutyList team start entries s =
      done ((s.onCal fun c => { c with
        teams := c.teams.set team { t with ring := t.ring.take start ++ entries, pointer := 0 } }).post
        [.cal .unassignedPass]) := by
  have hall : entries.all (fun e => decide (e ≤ 63)) = true := List.all_eq_true.mpr fun e he => decide_eq_true (hentries e he)
  have hcheck : (decide (start ≤ t.ring.length) && decide (start + entries.length ≤ 16) &&
      entries.all fun e => decide (e ≤ 63)) = true := by simp only [hstart, hroom, hall, decide_true, Bool.and_self]
  simp only [orderLoadDutyList, ht, hcheck]
  simp only [Bool.not_true, Bool.false_eq_true, if_false, done, State.onCal, modify_eq_set ht]

theorem orderSetDuty_on {s : State} {member : Nat} {m : Staff} (hm : s.cal.staff[member]? = some m)
    (hoff : m.onDuty = false) : orderSetDuty member true s =
      done ((s.onCal fun c => { c with staff := c.staff.set member { m with onDuty := true } }).post
        [.cal .unassignedPass]) := by
  simp only [orderSetDuty, hm, hoff, Bool.false_eq_true, if_true, if_false, State.onCal, modify_eq_set hm]

theorem loadDutyList_exec {s : State} {team start : Nat} {entries : List Nat} {t : Team} (tag : Nat)
    (hs : s.configReady = true) (ht : s.cal.teams[team]? = some t) (hstart : start ≤ t.ring.length)
    (hroom : start + entries.length ≤ 16) (hentries : ∀ e ∈ entries, e ≤ 63)
    (hassigned : ∀ r ∈ s.cal.calls, r.phase ≠ .unassigned) :
    exec (.loadDutyList tag team start entries) s = .next
      ((s.onCal fun c => { c with
        teams := c.teams.set team { t with ring := t.ring.take start ++ entries, pointer := 0 } }).answered tag
        (.loadDutyList team start entries) (.done false [])) := by
  exact exec_of_does_answered (ms := [.cal .unassignedPass]) rfl (ready_of_configReady hs) (writing_of_configReady hs)
    (fun q => (orderLoadDutyList_inRange (s := s.during q []) ht hstart hroom hentries).trans rfl) (Does.unassignedPass hassigned)

theorem setDuty_exec {s : State} {member : Nat} {onDuty : Bool} {m : Staff} (tag : Nat) (hs : s.configReady = true)
    (hm : s.cal.staff[member]? = some m) (hassigned : ∀ r ∈ s.cal.calls, r.phase ≠ .unassigned)
    (hoff : onDuty = false → m.assigned = none) :
    exec (.setDuty tag member onDuty) s = .next
      ((s.onCal fun c => { c with staff := c.staff.set member { m with onDuty := onDuty } }).answered
        tag (.setDuty member onDuty) (.done false [])) := by
  by_cases hsame : m.onDuty = onDuty
  · subst hsame
    have hset : (s.onCal fun c => { c with staff := c.staff.set member { m with onDuty := m.onDuty } }) = s := by
      unfold State.onCal
      dsimp only
      rw [set_same hm]
    rw [hset]
    exact exec_config_silent rfl hs fun q => by simp [serveOrder, orderSetDuty, hm, done]
  · cases onDuty with
    | false =>
      refine exec_config_silent rfl hs fun q => ?_
      simp only [serveOrder, orderSetDuty, State.during_cal, hm, hsame, hoff rfl, State.onCal,
        modify_eq_set hm]
      rfl
    | true =>
      exact exec_of_does (ms := [.cal .unassignedPass]) rfl (ready_of_configReady hs) (writing_of_configReady hs)
        (fun q => (orderSetDuty_on (s := s.during q []) hm (by simpa using hsame)).trans rfl) (Does.unassignedPass hassigned)

/-! ### Stations -/

theorem setStation_exec {s : State} {station : Nat} {fields : Option StationFields} (tag : Nat) (hs : s.configReady = true)
    (hstation : station ≤ 23)
    (hfields : ∀ f ∈ fields, f.config.inRange = true ∧ s.flp.isKind f.node .station = true ∧
      ∀ k < s.cal.stations.length, ∀ r ∈ s.cal.station? k, r.config.node = f.node → k = station)
    (hcalls : ∀ r ∈ s.cal.calls, r.ofStation station = false) :
    exec (.setStation tag station fields) s = .next
      ((s.onCal fun c => { c with stations := c.stations.set station ((fields.map StationFields.config).map
        StationConfig.fresh) }).answered tag (.setStation station fields) (.done false [])) := by
  have hidle : (s.cal.calls.any fun r => r.ofStation station) = false := by
    simpa using hcalls
  have hrange : ((fields.map StationFields.config).all fun c => c.inRange && s.flp.isKind c.node .station) = true := by
    cases fields with
    | none => rfl
    | some f =>
      obtain ⟨hin, hkind, -⟩ := hfields f rfl
      have hnode : f.config.node = f.node := rfl
      simp [hin, hkind, hnode]
  have hfree : ((fields.map StationFields.config).any fun c =>
      !(presentWhere s.cal.stations fun o => o.config.node == c.node).all (· == station)) = false := by
    cases fields with
    | none => rfl
    | some f =>
      obtain ⟨-, -, hfree⟩ := hfields f rfl
      simp only [Option.map_some, Option.any_some, Bool.not_eq_false', List.all_eq_true, mem_presentWhere, beq_iff_eq]
      rintro k ⟨r, hr, hnode⟩
      exact hfree k (List.getElem?_eq_some_iff.mp (present?_eq_some.mp hr)).1 r hr hnode
  refine exec_config_silent rfl hs fun q => ?_
  simp only [serveOrder, orderSetStation, State.during_cal, State.during_flp, hstation, hidle, hrange, hfree]
  rfl

/-- Settles O16: each order's checks, and its one change; the passes that follow find no call UNASSIGNED. -/
theorem callTableOrders : Obligations.CallTableOrders := by
  refine ⟨⟨fun s tag team pattern hs hteam hpattern => setTeam_exec tag hs hteam hpattern,
    fun s tag member pattern hs hmember hpattern => setStaff_exec tag hs hmember hpattern,
    fun s tag repeats rounds interval escalations hs => ?timing⟩,
    ⟨fun s tag team start entries hs t ht hstart hroom hentries hassigned =>
      loadDutyList_exec tag hs ht hstart hroom hentries hassigned,
    fun s tag member onDuty hs m hm hassigned hoff => setDuty_exec tag hs hm hassigned hoff⟩,
    fun s tag station fields hs hstation hfields hcalls => ?station⟩
  case timing =>
    intro f g
    have hclamped : f.clamped = g := by simp [f, g, CallTimingFields.clamped, clampTo]
    rw [← hclamped]
    exact setCallTiming_exec tag f hs
  case station =>
    have h := setStation_exec tag hs hstation hfields hcalls
    rw [Option.map_map] at h
    exact h

end Sys2Proof.Machine
end

section
/-! The configuration orders of the chain (R24), with the key off. -/

namespace Sys2Proof.Machine

/-! ### The operations they share -/

/-- What a chain that becomes UNKNOWN hands on. -/
def Chain.lostMsgs (c : Chain) : List Msg :=
  .fir .chainChanged :: if c.park.isSome then [.sht .parkChanged] else []

def Chain.lost (c : Chain) : Chain := { c with known := false, lastCar := none, plan := none, park := none }

theorem chainLost_eq (s : State) : chainLost s = (s.onChn Chain.lost).post s.chn.lostMsgs := by
  unfold chainLost chainUnpark Chain.lostMsgs
  by_cases hpark : s.chn.park.isSome = true
  · refine (if_pos hpark).trans ?_
    rw [if_pos hpark]
    simp [State.post, State.onChn, Chain.lost]
  · refine (if_neg hpark).trans ?_
    rw [if_neg hpark]
    have hnone : s.chn.park = none := by simpa using hpark
    have hlost : s.chn.lost = { s.chn with known := false, lastCar := none, plan := none } := by
      simp [Chain.lost, hnone]
    unfold State.onChn
    rw [hlost]

/-- With the key off a configuration is taken and, where it asks for it or completes the chain, the table rebuilt. -/
theorem chainConfigure_keyOff {s : State} (hkey : s.chn.keyOn = false) (config : ChainConfig) (rebuild : Bool) :
    chainConfigure config rebuild s = (s.onChn fun c => { c with config := config }).post
      (if rebuild || (!s.chn.config.configured && config.configured) then [.clr] else []) := by
  have hpost (p : Bool) (u : State) : (if p then u.post [.clr] else u) = u.post (if p then [.clr] else []) := by
    cases p
    · simp [State.post]
    · rfl
  unfold chainConfigure
  dsimp only
  rw [hpost]
  exact if_neg (by simp [hkey])

theorem chainConfigure_lost {s : State} (hkey : s.chn.keyOn = false) (config : ChainConfig) :
    chainConfigure config true (chainLost s) =
      (s.onChn fun c => { c.lost with config := config }).post (s.chn.lostMsgs ++ [.clr]) := by
  rw [chainLost_eq, chainConfigure_keyOff (s := (s.onChn Chain.lost).post s.chn.lostMsgs) hkey]
  simp [State.post, State.onChn]

/-- A configuration that makes the position UNKNOWN, and the rebuild of the table. -/
theorem Does.configured {u : State} (hstate : u.chn.state ≠ .parked) (hclearance : u.chn.clearance = [])
    (hheld : u.fir.held = []) (c : Chain) : Does (1 + (if c.park.isSome then [Msg.sht .parkChanged] else []).length + 1)
      (c.lostMsgs ++ [.clr]) u { u with clr := { table := u.chn.config.storedTable } } := by
  have hpark : Does (if c.park.isSome then [Msg.sht .parkChanged] else []).length
      (if c.park.isSome then [Msg.sht .parkChanged] else []) u u := by
    split
    · exact .parkChanged_unparked hstate
    · exact .nil u
  exact ((Does.chainChanged_of_none (heldSet_of_no_clearance hclearance _) hheld).cons hpark).append (.clr u)

/-- An order that gives the chain a new configuration and loses its position. -/
theorem exec_configured {c : Instr} {s : State} {tag : Nat} {o : Order} {config : ChainConfig}
    (hc : c.order? = some (tag, o)) (hs : s.configReady = true) (hchain : s.chn.configurable = true)
    (hheld : s.fir.held = []) (howner : o.owner = .chn)
    (hserve : ∀ q, serveOrder tag o (s.during q []) =
      (((s.onChn fun c => { c.lost with config := config }).during q (s.chn.lostMsgs ++ [.clr])), .done false []))
    (hfirst : o.answersFirst = false := by rfl) :
    exec c s = .next (({ s with clr := { table := config.storedTable } }.onChn fun c =>
      { c with config := config, known := false, lastCar := none, plan := none, park := none }).answered tag o
        (.done false [])) := by
  simp only [Chain.configurable, Bool.and_eq_true, Bool.or_eq_true, beq_iff_eq, List.isEmpty_iff] at hchain
  obtain ⟨⟨hstate, hclearance⟩, -⟩ := hchain
  have hunparked : s.chn.state ≠ .parked := by
    obtain h | h := hstate <;> simp [h]
  have hdoes := Does.configured (u := s.onChn fun c => { c.lost with config := config }) hunparked hclearance hheld s.chn
  refine exec_of_does hc (ready_of_configReady hs) (writing_of_configReady hs) hserve hdoes
    (hfirst := hfirst) (hown := fun q => by rw [howner]; rfl) (hn := ?_)
  split <;> simp

/-! ### SET CHAIN GEOMETRY and SET LANDING -/

theorem setChainGeometry_exec {s : State} {g : GeometryFields} (tag : Nat) (hs : s.configReady = true)
    (hchain : s.chn.configurable = true) (hkey : s.chn.keyOn = false) (hheld : s.fir.held = []) (hg : g.inRange = true)
    (hx : s.chn.x < g.cars * g.pitch) (hl : ∀ o ∈ s.chn.config.landings, ∀ l ∈ o, l.position < g.cars * g.pitch)
    (hgap : ({ s.chn.config with geometry := some g } : ChainConfig).hasClearGap = true) :
    exec (.setChainGeometry tag g) s = .next
      (({ s with clr := { table := ({ s.chn.config with geometry := some g } : ChainConfig).storedTable } }.onChn fun c =>
        { c with config := { s.chn.config with geometry := some g }, known := false, lastCar := none, plan := none
                 park := none }).answered tag (.setChainGeometry g) (.done false [])) := by
  have hpositions : (s.chn.config.landings.all fun o => o.all fun l => decide (l.position < g.cars * g.pitch)) = true :=
    List.all_eq_true.mpr fun o ho => by
      cases o with
      | none => rfl
      | some l => exact decide_eq_true (hl _ ho l rfl)
  have hrefit (c : Chain) (hcx : c.x < c.config.loopLength) : c.refit = c := if_pos hcx
  have horder (u : State) (hu : u.chn = s.chn) : orderSetChainGeometry g u = done
      ((u.onChn fun c => { c.lost with config := { u.chn.config with geometry := some g } }).post
        (u.chn.lostMsgs ++ [.clr])) := by
    simp only [orderSetChainGeometry, hu, hchain, hg, hpositions, hgap, Bool.not_true, Bool.false_eq_true, if_false,
      chainConfigure_lost (s := u) (hu ▸ hkey)]
    have hx' : u.chn.x < g.cars * g.pitch := hu ▸ hx
    simp only [State.onChn, State.post, hrefit { u.chn.lost with config := { s.chn.config with geometry := some g } } hx']
  exact exec_configured rfl hs hchain hheld rfl fun q => horder (s.during q []) rfl

theorem setLanding_exec {s : State} {n : Nat} {f : LandingFields} (tag : Nat) (hs : s.configReady = true)
    (hchain : s.chn.configurable = true) (hkey : s.chn.keyOn = false) (hheld : s.fir.held = [])
    (hgeometry : s.chn.config.geometry ≠ none) (hn : n ≤ 15) (hf : f.inRange s.chn.config.loopLength = true)
    (hside : sideTaken s.chn.config.landings n f.landing = false) (hnamed : s.sht.namesLanding n = false)
    (hgap : ({ s.chn.config with landings := s.chn.config.landings.set n (some f.landing) } : ChainConfig).hasClearGap = true) :
    exec (.setLanding tag n (some f)) s = .next
      (({ s with clr := { table := ({ s.chn.config with landings := s.chn.config.landings.set n (some f.landing) } :
          ChainConfig).storedTable } }.onChn fun c =>
        { c with config := { s.chn.config with landings := s.chn.config.landings.set n (some f.landing) }, known := false
                 lastCar := none, plan := none, park := none }).answered tag (.setLanding n (some f)) (.done false [])) := by
  have hsome : s.chn.config.geometry.isNone = false := Option.isNone_eq_false_iff.mpr (Option.isSome_iff_ne_none.mpr hgeometry)
  have horder (u : State) (hu : u.chn = s.chn) (hsht : u.sht = s.sht) : orderSetLanding n (some f) u = done
      ((u.onChn fun c => { c.lost with
        config := { u.chn.config with landings := u.chn.config.landings.set n (some f.landing) } }).post
        (u.chn.lostMsgs ++ [.clr])) := by
    simp only [orderSetLanding, orderLandingPresent, hu, hsht, hchain, hsome, hn, hf, hside, hnamed, hgap, Bool.not_true,
      Bool.false_eq_true, if_false, decide_true, Bool.or_false, Bool.and_false, chainConfigure_lost (s := u) (hu ▸ hkey)]
  exact exec_configured rfl hs hchain hheld rfl fun q => horder (s.during q []) rfl rfl

theorem setLanding_absent_exec {s : State} {n : Nat} (tag : Nat) (hs : s.configReady = true)
    (hchain : s.chn.configurable = true) (hkey : s.chn.keyOn = false) (hheld : s.fir.held = [])
    (hgeometry : s.chn.config.geometry ≠ none) (hn : n ≤ 15) (hnamed : s.sht.namesLanding n = false)
    (hgap : ({ s.chn.config with landings := s.chn.config.landings.set n none } : ChainConfig).hasClearGap = true) :
    exec (.setLanding tag n none) s = .next
      (({ s with clr := { table := ({ s.chn.config with landings := s.chn.config.landings.set n none } :
          ChainConfig).storedTable } }.onChn fun c =>
        { c with config := { s.chn.config with landings := s.chn.config.landings.set n none }, known := false
                 lastCar := none, plan := none, park := none }).answered tag (.setLanding n none) (.done false [])) := by
  have hsome : s.chn.config.geometry.isNone = false := Option.isNone_eq_false_iff.mpr (Option.isSome_iff_ne_none.mpr hgeometry)
  have horder (u : State) (hu : u.chn = s.chn) (hsht : u.sht = s.sht) : orderSetLanding n none u = done
      ((u.onChn fun c => { c.lost with
        config := { u.chn.config with landings := u.chn.config.landings.set n none } }).post
        (u.chn.lostMsgs ++ [.clr])) := by
    simp only [orderSetLanding, orderLandingAbsent, hu, hsht, hchain, hsome, hn, hnamed, hgap, Bool.not_true,
      Bool.false_eq_true, if_false, decide_true, chainConfigure_lost (s := u) (hu ▸ hkey)]
  exact exec_configured rfl hs hchain hheld rfl fun q => horder (s.during q []) rfl rfl

/-! ### SET CHAIN TIMING -/

theorem setChainTiming_exec {s : State} {t : TimingFields} (tag : Nat) (hs : s.configReady = true)
    (hchain : s.chn.configurable = true) (hkey : s.chn.keyOn = false) (htable : s.clr.table = s.chn.config.storedTable)
    (ht : t.inRange = true)
    (hgap : ({ s.chn.config with timing := some t.clamped } : ChainConfig).hasClearGap = true) :
    exec (.setChainTiming tag t) s = .next
      (({ s with clr := { table := ({ s.chn.config with timing := some t.clamped } : ChainConfig).storedTable } }.onChn
        fun c => { c with config := { s.chn.config with timing := some t.clamped } }).answered tag (.setChainTiming t)
          (.done (t.clamped != t) [])) := by
  let config : ChainConfig := { s.chn.config with timing := some t.clamped }
  let rebuild := config.acceptanceBand != s.chn.config.acceptanceBand || config.planningBand != s.chn.config.planningBand ||
    (!s.chn.config.configured && config.configured)
  have horder (q : List Request) : serveOrder tag (.setChainTiming t) (s.during q []) =
      (((s.onChn fun c => { c with config := config }).during q (if rebuild then [.clr] else [])),
        .done (t.clamped != t) []) := by
    have hconfigure := fun b => chainConfigure_keyOff (s := s.during q []) hkey config b
    simp only [serveOrder, orderSetChainTiming, State.during_chn, hchain, ht, hgap, Bool.not_true, Bool.false_eq_true, if_false,
      doneClamped]
    exact congrArg (·, _) (hconfigure _)
  have hready := ready_of_configReady hs
  cases hrebuild : rebuild with
  | true =>
    simp only [hrebuild, if_true] at horder
    exact exec_of_does rfl hready (writing_of_configReady hs) horder (.clr _)
  | false =>
    simp only [hrebuild] at horder
    have hsame : config.storedTable = s.chn.config.storedTable := by
      simp only [rebuild, Bool.or_eq_false_iff, bne_eq_false_iff_eq, Bool.and_eq_false_iff, Bool.not_eq_false'] at hrebuild
      obtain ⟨⟨-, hband⟩, hconfigured⟩ := hrebuild
      exact storedTable_setTiming hconfigured hband
    have hclr : ({ table := config.storedTable } : Clearance) = s.clr := by rw [hsame, ← htable]
    refine (exec_silent rfl hready (writing_of_configReady hs) horder).trans ?_
    change _ = Host.Outcome.next ((({ s with clr := { table := config.storedTable } } : State).onChn _).answered _ _ _)
    rw [hclr]

/-- Settles O22: an order loses the position where it must, and the table it leaves is that of the new configuration. -/
theorem chainConfigurationOrders : Obligations.ChainConfigurationOrders := by
  refine ⟨fun s tag g hs hchain hkey hheld hg hx hl => ?_, fun s tag n f hs hchain hkey hheld hgeometry hn hf hside hnamed => ?_,
    fun s tag n hs hchain hkey hheld hgeometry hn hnamed => ?_, fun s tag t hs hchain hkey htable ht => ?_⟩
  · exact setChainGeometry_exec tag hs hchain hkey hheld hg hx hl
  · exact setLanding_exec tag hs hchain hkey hheld hgeometry hn hf hside hnamed
  · exact setLanding_absent_exec tag hs hchain hkey hheld hgeometry hn hnamed
  · intro config hgap
    have hconfig : config = { s.chn.config with timing := some t.clamped } := by
      simp [config, TimingFields.clamped, clampTo]
    have hclamps : decide (config.timing ≠ some t) = (t.clamped != t) := by
      rw [hconfig, Bool.eq_iff_iff]
      simp
    rw [hconfig] at hgap
    rw [hclamps, hconfig]
    exact setChainTiming_exec tag hs hchain hkey htable ht hgap

end Sys2Proof.Machine
end

section
/-! SET SHUTTER (R64). -/

namespace Sys2Proof.Machine

/-- A chain with nothing to stand clear of takes a shutter's change without effect. -/
theorem Does.shutterChanged_of_no_clearance {u : State} (h : u.chn.clearance = []) (permitted : Bool) :
    Does 1 [.chn (.shutterChanged permitted false)] u u :=
  .of_handle_nil fun q => by
    have hduty : chainDutyAlone (u.during q []) = u.during q [] := by
      unfold chainDutyAlone
      simp [h]
    have htake : chainShutterChanged permitted false (u.during q []) = u.during q [] := by
      unfold chainShutterChanged
      rw [hduty]
      simp
    simp only [handle, ownChn, chainTake, htake]

/-- A floor that waits for no shutter stays as it is (R80). -/
theorem floorTest_of_not_waiting {s : State} {f : Nat} (h : s.flr.waitsFor f = false) : floorTest f s = s := by
  unfold floorTest
  cases hr : s.flr.get? f with
  | none => rfl
  | some r =>
    have hstate : r.state ≠ .securing ∧ r.state ≠ .opening := by
      simpa [Floors.waitsFor, Floors.isIn, Floors.state?, hr] using h
    dsimp only
    split
    · rfl
    · cases hst : r.state with
      | securing => exact absurd hst hstate.1
      | opening => exact absurd hst hstate.2
      | _ => rfl

theorem Does.recheck {u : State} {f : Nat} (h : u.flr.waitsFor f = false) : Does 1 [.flr (.recheck f)] u u :=
  .of_handle_nil fun q => by
    have htake : floorTest f (u.during q []) = u.during q [] := floorTest_of_not_waiting (s := u.during q []) h
    simp only [handle, ownFlr, floorTake, htake]

theorem Floors.waitsFor_of_length_le {t : Floors} {f : Nat} (h : t.table.length ≤ f) : t.waitsFor f = false := by
  simp [Floors.waitsFor, Floors.isIn, Floors.state?, Floors.get?, List.getElem?_eq_none h]

/-- The record that SET SHUTTER's fields give. -/
theorem clamps_iff (f : ShutterFields) : f.clamps =
    decide (30 < f.warning ∨ f.descent < 5 ∨ 120 < f.descent ∨ f.raise < 10 ∨ 300 < f.raise) := by
  rw [Bool.eq_iff_iff]
  simp only [ShutterFields.clamps, ShutterFields.config, clampTo, Bool.or_eq_true, bne_iff_ne, decide_eq_true_eq]
  omega

/-- What SET SHUTTER hands on (R64, R80). -/
def shutterReports (old new : Option Shutter) (permitted : Bool) : List Msg :=
  (if old.any Shutter.isLanding || new.any Shutter.isLanding then [.chn (.shutterChanged permitted false)] else []) ++
    (old.toList ++ new.toList).map fun r => .flr (.recheck r.config.floor)

theorem shutterReplace_eq (n : Nat) (old new : Option Shutter) (s : State) :
    shutterReplace n old new s = (s.onSht fun t => t.set n new).post (shutterReports old new s.sht.permit) := rfl

theorem shutterReports_length (old new : Option Shutter) (permitted : Bool) :
    (shutterReports old new permitted).length ≤ 3 := by
  unfold shutterReports
  rw [List.length_append, List.length_map, List.length_append]
  have hone {o : Option Shutter} : o.toList.length ≤ 1 := by cases o <;> simp
  have hold := hone (o := old)
  have hnew := hone (o := new)
  split
  · simp only [List.length_singleton]
    omega
  · simp only [List.length_nil]
    omega

/-- A part without clearance and without waiting floors takes it without effect. -/
theorem Does.shutterReports {u : State} (hclearance : u.chn.clearance = []) (hfloors : ∀ f, u.flr.waitsFor f = false)
    (old new : Option Shutter) (permitted : Bool) :
    Does (shutterReports old new permitted).length (shutterReports old new permitted) u u := by
  refine all_same fun m hm => ?_
  obtain hm | hm := List.mem_append.mp hm
  · split at hm
    · obtain rfl := List.mem_singleton.mp hm
      exact .shutterChanged_of_no_clearance hclearance permitted
    · cases hm
  · obtain ⟨r, -, rfl⟩ := List.mem_map.mp hm
    exact .recheck (hfloors _)

theorem setShutter_exec {s : State} {n : Nat} {fields : Option ShutterFields} (tag : Nat) (hs : s.configReady = true)
    (hn : n ≤ 47) (hprogramme : s.idleProgramme = true) (hclearance : s.chn.clearance = [])
    (hfloors : ∀ f, s.flr.waitsFor f = false) (hidle : ∀ r ∈ s.sht.get? n, r.state.inUse = false)
    (hfields : ∀ f ∈ fields, shutterFieldsInRange f s = true ∧
      ∀ k < s.sht.table.length, ∀ r ∈ s.sht.get? k, r.config.node = f.node → r.config.slot = f.slot → k = n) :
    exec (.setShutter tag n fields) s = .next
      ((s.onSht fun t => t.set n (fields.map fun f => f.config.fresh)).answered tag (.setShutter n fields)
        (.done (fields.any ShutterFields.clamps) [])) := by
  have hkind : s.prg.kind = .none := s.idleProgramme_iff.mp hprogramme
  have hold : ((s.sht.get? n).any fun r => r.state.inUse) = false := by
    cases hr : s.sht.get? n with
    | none => rfl
    | some r => exact hidle r hr
  have horder (q : List Request) : serveOrder tag (.setShutter n fields) (s.during q []) =
      ((s.onSht fun t => t.set n (fields.map fun f => f.config.fresh)).during q
        (shutterReports (s.sht.get? n) (fields.map fun f => f.config.fresh) s.sht.permit),
          .done (fields.any ShutterFields.clamps) []) := by
    simp only [serveOrder, orderSetShutter, hn, State.during_prg, State.during_sht, hkind, hold, decide_true, Bool.not_true,
      Bool.false_eq_true, if_false, bne_self_eq_false]
    cases fields with
    | none => exact congrArg (·, _) (shutterReplace_eq n _ none (s.during q []))
    | some f =>
      obtain ⟨hrange, hfree⟩ := hfields f rfl
      have hrange' : shutterFieldsInRange f (s.during q []) = true := hrange
      have hslot : ((presentWhere s.sht.table fun r => r.config.node == f.node && r.config.slot == f.slot).all (· == n)) =
          true := by
        simp only [List.all_eq_true, mem_presentWhere, Bool.and_eq_true, beq_iff_eq]
        rintro k ⟨r, hr, hnode, hslot⟩
        exact hfree k (List.getElem?_eq_some_iff.mp (present?_eq_some.mp hr)).1 r hr hnode hslot
      simp only [hrange', hslot, Bool.not_true, Bool.false_eq_true, if_false, doneClamped, Option.map_some,
        Option.any_some, shutterReplace_eq]
      rfl
  exact exec_of_does rfl (ready_of_configReady hs) (writing_of_configReady hs) horder
    (.shutterReports (u := s.onSht _) hclearance hfloors _ _ _) (hn := (shutterReports_length ..).trans_lt (by norm_num))

/-- Settles O23: the record is set, and nobody waits for it. -/
theorem setShutter : Obligations.SetShutter := by
  intro s tag n fields hs hn hprogramme hclearance hfloors hlength hidle hfields
  have hall (f : Nat) : s.flr.waitsFor f = false := by
    by_cases hf : f < 8
    · exact hfloors f hf
    · exact Floors.waitsFor_of_length_le (by omega)
  have hclamps : fields.any ShutterFields.clamps = fields.any fun f =>
      decide (30 < f.warning ∨ f.descent < 5 ∨ 120 < f.descent ∨ f.raise < 10 ∨ 300 < f.raise) := by
    cases fields with
    | none => rfl
    | some f => exact clamps_iff f
  have h := setShutter_exec tag hs hn hprogramme hclearance hall hidle hfields
  rw [hclamps] at h
  refine h.trans ?_
  cases fields with
  | none => rfl
  | some f =>
    have hwarning : clampTo 0 30 f.warning = min f.warning 30 := clampTo_zero ..
    simp only [Option.map_some, ShutterConfig.fresh, ShutterFields.config, ShutterFields.kindOf, hwarning]
    rfl

end Sys2Proof.Machine
end

section
/-! The enquiries, and COMMIT CONFIGURATION (R188, R190). -/

namespace Sys2Proof.Machine

/-! ### Enquiries -/

/-- The part of a report asked for, or OUT_OF_RANGE beyond the last. -/
def partOf (report : List Byte) (part : Nat) : Result :=
  let count := max 1 ((report.length + 115) / 116)
  if part < count then .done false (field 1 part ++ field 1 count ++ (report.drop (116 * part)).take 116)
  else .declined .outOfRange []

theorem partCount_eq (report : List Byte) : partCount report = max 1 ((report.length + 115) / 116) := rfl

theorem inParts_eq (report : List Byte) (part : Nat) (s : State) : inParts report part s = (s, partOf report part) := by
  unfold inParts partOf
  rw [partCount_eq, Nat.mul_comm part]
  dsimp only
  split <;> rfl

/-- An enquiry's command answers what its owner reads. -/
theorem exec_enquiry {c : Instr} {s : State} {tag : Nat} {o : Order} {r : Result} (hc : c.order? = some (tag, o))
    (hs : s.ready = true) (ho : o.configures = false) (hserve : ∀ q, serveOrder tag o (s.during q []) = (s.during q [], r))
    (hfirst : o.answersFirst = false := by rfl) : exec c s = .next (s.answered tag o r) :=
  exec_unchanged hc hs (fun h => absurd (ho.symm.trans h) Bool.false_ne_true) hserve hfirst fun q => by
    cases o.owner <;> rfl

theorem flag_eq (b : Bool) : flag b = field 1 (if b then 1 else 0) := rfl

theorem outputImage_during (s : State) (q : List Request) (a : Nat) : (s.during q []).outputImage a = s.outputImage a := rfl

/-- Settles O56: each enquiry answers the report its block gives, whole or in parts, and changes nothing. -/
theorem enquiries : Obligations.Enquiries := by
  intro s tag part hs parted
  have hparts (report : List Byte) : partOf report part = parted report := rfl
  refine ⟨?_, ?_, ?_, ?_, ?_, ?_, fun f r hr => ?_, ?_, fun n hn => ?_, fun a ha ha' hnode => ?_,
    fun a ha ha' n hn => ?_, ?_⟩
  · exact exec_enquiry rfl hs rfl fun q => inParts_eq ..
  · exact exec_enquiry rfl hs rfl fun q => inParts_eq ..
  · exact exec_enquiry rfl hs rfl fun q => inParts_eq ..
  · exact exec_enquiry rfl hs rfl fun q => inParts_eq ..
  · exact exec_enquiry rfl hs rfl fun q => inParts_eq ..
  · exact exec_enquiry rfl hs rfl fun q => inParts_eq ..
  · refine exec_enquiry rfl hs rfl fun q => ?_
    have hr : s.flr.get? f = some r := hr
    simp only [serveOrder, orderReadFloor, State.during_flr, hr]
    exact inParts_eq ..
  · exact exec_enquiry rfl hs rfl fun q => rfl
  · refine exec_enquiry rfl hs rfl fun q => ?_
    simp only [serveOrder, orderReadShutter, State.during_sht, hn]
    cases s.sht.get? n <;> rfl
  · refine exec_enquiry rfl hs rfl fun q => ?_
    have hrange : inRange 1 64 a = true := by simp [inRange, ha, ha']
    simp only [serveOrder, orderReadNode, State.during_flp, hrange, hnode]
    rfl
  · refine exec_enquiry rfl hs rfl fun q => ?_
    have hrange : inRange 1 64 a = true := by simp [inRange, ha, ha']
    have hn : s.flp.node? a = some n := hn
    have hmotion : flag ((s.during q []).motionSet.contains a) = field 1 (if a ∈ s.motionSet then 1 else 0) := by
      have hsame : (s.during q []).motionSet = s.motionSet := rfl
      rw [hsame, flag_eq]
      simp only [List.contains_iff_mem]
    simp only [serveOrder, orderReadNode, State.during_flp, hrange, hn, hmotion]
    cases n.image <;> rfl
  · refine exec_enquiry rfl hs rfl fun q => ?_
    have hwriting : (if s.lnk.writing.isSome then 1 else 0) = if s.lnk.writing = none then 0 else 1 := by
      cases s.lnk.writing <;> rfl
    exact congrArg (fun n => (s.during q [], Result.done false (flag s.lnk.storeValid ++ field 1 n ++ flag s.clk.isSet ++
      field 1 (chainStatus s.chn) ++ field 1 s.fir.condition.code ++ field 1 s.prg.kind.code ++
      field? 1 (s.prg.step.map ProgrammeStep.code) ++ field 1 s.flp.lostCount ++ field 1 s.lnk.notices.length))) hwriting

/-! ### COMMIT CONFIGURATION (O57) -/

theorem orderCommitConfiguration_free {s : State} (h : s.lnk.writing = none) :
    orderCommitConfiguration s = taken (s.onLnk fun k => { k with writing := some s.image }) := by
  rw [orderCommitConfiguration, h]
  rfl

theorem orderCommitConfiguration_writing {s : State} (h : s.lnk.writing ≠ none) :
    orderCommitConfiguration s = declined .busy s := by
  rw [orderCommitConfiguration, if_pos (Option.isSome_iff_ne_none.mpr h)]

theorem exec_commit_free {s : State} (tag : Nat) (hs : s.ready = true) (h : s.lnk.writing = none) :
    exec (.commitConfiguration tag) s = .next
      ((s.onLnk fun k => { k with writing := some s.image }).answered tag .commitConfiguration (.taken false)) := by
  obtain ⟨hagenda, hroom, -⟩ := s.ready_iff.mp hs
  exact takeOrder_of_does hs (fun hw => absurd hw Bool.false_ne_true) rfl
    (fun q => ⟨_, orderCommitConfiguration_free (s := s.during q []) h, rfl⟩)
    (.nil (s.onLnk fun k => { k with writing := some s.image })) hagenda rfl rfl hroom

theorem exec_commit_writing {s : State} (tag : Nat) (hs : s.ready = true) (h : s.lnk.writing ≠ none) :
    exec (.commitConfiguration tag) s = .next (s.answered tag .commitConfiguration (.declined .busy [])) :=
  exec_unchanged rfl hs (fun hw => absurd hw Bool.false_ne_true) fun q =>
    orderCommitConfiguration_writing (s := s.during q []) h

theorem exec_writeEnd {s : State} {i : StoreImage} (good : Bool) (hs : s.quiet = true) (hi : s.lnk.writing = some i) :
    exec (.commitWriteEnd good) s = .next
      ((s.onLnk fun k => { k with writing := none, store := some (i, good), storeValid := good }).noticed
        (.commitEnded good)) := by
  obtain ⟨hagenda, hroom⟩ := s.quiet_iff.mp hs
  refine settle_of_does (v := s.onLnk fun k => { k with writing := none, store := some (i, good), storeValid := good }) ?_
    (Does.notice _ _) hagenda hroom
  simp only [Block.own, ownLnk, storeWriteEnd, hi, State.onLnk, State.notify, State.post, hagenda]
  rfl

theorem exec_writeEnd_idle {s : State} (good : Bool) (hs : s.quiet = true) (h : s.lnk.writing = none) :
    exec (.commitWriteEnd good) s = .next s := by
  have hsame : storeWriteEnd good s = s := by
    unfold storeWriteEnd
    rw [h]
  have hstart : ownLnk (storeWriteEnd good) s = s := by rw [ownLnk, hsame]
  exact (congrArg settle hstart).trans (settle_quiet hs)

theorem Link.start_store (k : Link) : k.start.store = k.store ∧ k.start.writing = k.writing := by
  unfold Link.start Link.choose
  split
  · split <;> exact ⟨rfl, rfl⟩
  · exact ⟨rfl, rfl⟩

theorem Link.takeNotice_store (k : Link) (n : Notice) :
    (k.takeNotice n).store = k.store ∧ (k.takeNotice n).writing = k.writing := by
  unfold Link.takeNotice
  split <;> exact ⟨rfl, rfl⟩

theorem State.answered_writing (s : State) (tag : Nat) (o : Order) (r : Result) :
    (s.answered tag o r).lnk.writing = s.lnk.writing := (Link.start_store _).2

theorem State.noticed_store (s : State) (b : NoticeBody) :
    (s.noticed b).lnk.store = s.lnk.store ∧ (s.noticed b).lnk.writing = s.lnk.writing :=
  ⟨(Link.start_store _).1.trans (Link.takeNotice_store ..).1, (Link.start_store _).2.trans (Link.takeNotice_store ..).2⟩

/-- Settles O57: the write takes the configuration as it stands, and the full reset loads what was written good. -/
theorem commit : Obligations.Commit := by
  refine ⟨⟨fun s tag hs => ?_, fun s good hs => ⟨fun i hi => exec_writeEnd good hs (Option.mem_def.mp hi),
    exec_writeEnd_idle good hs⟩⟩, fun s tag hs hw hvalid hsafety hkey hdip => ?_⟩
  · split
    · next h => exact exec_commit_free tag hs h
    · next h => exact exec_commit_writing tag hs h
  · obtain ⟨hagenda, hroom, -⟩ := s.ready_iff.mp hs
    set t := (s.onLnk fun k => { k with writing := some s.image }).answered tag .commitConfiguration (.taken false)
    set u := (t.onLnk fun k => { k with writing := none, store := some (s.image, true), storeValid := true }).noticed
      (.commitEnded true)
    have hwrite : exec (.commitWriteEnd true) t = .next u :=
      exec_writeEnd true (t.quiet_iff.mpr ⟨hagenda, hroom⟩) (State.answered_writing ..)
    obtain ⟨hstore, hidle⟩ := (t.onLnk fun k =>
      { k with writing := none, store := some (s.image, true), storeValid := true }).noticed_store (.commitEnded true)
    have hloads : u.lnk.loadable = some s.image := by
      have hreset : u.lnk.storeAtReset = some (s.image, true) := by
        rw [Link.storeAtReset, show u.lnk.writing = none from hidle]
        exact hstore
      rw [Link.loadable, hreset]
      exact if_pos hvalid
    have hreset : fullReset u = loaded s.image u := by
      rw [fullReset_calm (s := u) hsafety hkey hdip, hloads]
      rfl
    refine ⟨t, u, loaded s.image u, exec_commit_free tag hs hw, hwrite, ?_,
      loaded_image ((StoreImage.valid_iff _).mp hvalid) u, ?_⟩
    · rw [exec_fullReset, hreset, settle_quiet (loaded_quiet _ _)]
    · exact congrArg Option.isSome hloads

end Sys2Proof.Machine
end

section
/-! SUPPORT. What a message does, block by block: an event taken by its block changes that block's record and hands on
messages, and these follow. -/

namespace Sys2Proof.Machine

/-! ### Events -/

@[simp] theorem State.post_nil (s : State) : s.post [] = s := by
  unfold State.post
  rw [List.append_nil]

/-- An event whose block changes its own record to that of `v` and hands on `ms`. -/
theorem settle_event {b : Block} {f : State → State} {s v w : State} {n : Nat} {ms : List Msg} (hs : s.quiet = true)
    (hf : f s = v.post ms) (h : Does n ms v w)
    (hown : b.own (fun _ => v.post ms) s = v.post ms := by rfl) (hagenda : v.agenda = s.agenda := by rfl)
    (hroom : w.snd.roomDue = s.snd.roomDue := by rfl) (hn : n < 1000000000 := by norm_num) :
    settle (b.own f s) = .next w := by
  obtain ⟨ha, hr⟩ := s.quiet_iff.mp hs
  have hv : v.agenda = [] := hagenda.trans ha
  have hstart : b.own f s = { v with agenda := ms } := by
    have hpost : v.post ms = { v with agenda := ms } := by
      unfold State.post
      rw [hv, List.nil_append]
    rw [← hpost, ← hown]
    cases b <;>
      simp only [Block.own, ownChn, ownSht, ownSup, ownFlr, ownSnd, ownCal, ownClk, ownPrg, ownFir, ownFlp, ownLnk, hf]
  exact settle_of_does hstart h hv (hroom.trans hr) hn

/-- An event that hands nothing on. -/
theorem settle_event_silent {b : Block} {f : State → State} {s v : State} (hs : s.quiet = true) (hf : f s = v)
    (hown : b.own (fun _ => v) s = v := by rfl) (hagenda : v.agenda = s.agenda := by rfl)
    (hroom : v.snd.roomDue = s.snd.roomDue := by rfl) : settle (b.own f s) = .next v :=
  settle_event hs (hf.trans v.post_nil.symm) (.nil v) (by rw [v.post_nil]; exact hown) hagenda hroom

/-- An event its block takes without effect. -/
theorem settle_event_same (b : Block) {f : State → State} {s : State} (hs : s.quiet = true) (hf : f s = s) :
    settle (b.own f s) = .next s :=
  settle_event_silent hs hf (by cases b <;> rfl)

/-- With no request waiting, nothing is processed (R184). -/
theorem settle_process {s : State} (hs : s.quiet = true) (hrequests : s.lnk.requests = []) :
    settle { s with agenda := [.lnk .process] } = .next s := by
  have hfirst : handleFirst (.lnk .process) [] { s with agenda := [.lnk .process] } = s := by
    obtain ⟨hagenda, -⟩ := s.quiet_iff.mp hs
    have hempty : ({ s with agenda := [] } : State) = s := by rw [← hagenda]
    have hprocess : linkProcess s = s := by
      unfold linkProcess
      rw [hrequests]
    unfold handleFirst handle ownLnk linkTake
    dsimp only
    rw [hempty, hprocess, List.append_nil]
  refine settle_of_drain (n := 2) (by norm_num) ?_
  rw [drain_cons rfl, hfirst]
  exact drain_quiet hs 0

/-! ### A notice leaves the other records alone -/

section
variable (u : State) (b : NoticeBody)

@[simp] theorem State.noticed_chn : (u.noticed b).chn = u.chn := rfl
@[simp] theorem State.noticed_clr : (u.noticed b).clr = u.clr := rfl
@[simp] theorem State.noticed_sht : (u.noticed b).sht = u.sht := rfl
@[simp] theorem State.noticed_sup : (u.noticed b).sup = u.sup := rfl
@[simp] theorem State.noticed_flr : (u.noticed b).flr = u.flr := rfl
@[simp] theorem State.noticed_snd : (u.noticed b).snd = u.snd := rfl
@[simp] theorem State.noticed_cal : (u.noticed b).cal = u.cal := rfl
@[simp] theorem State.noticed_clk : (u.noticed b).clk = u.clk := rfl
@[simp] theorem State.noticed_prg : (u.noticed b).prg = u.prg := rfl
@[simp] theorem State.noticed_fir : (u.noticed b).fir = u.fir := rfl
@[simp] theorem State.noticed_flp : (u.noticed b).flp = u.flp := rfl
@[simp] theorem State.noticed_ticks : (u.noticed b).ticks = u.ticks := rfl
@[simp] theorem State.noticed_agenda : (u.noticed b).agenda = u.agenda := rfl
@[simp] theorem State.noticed_pending : (u.noticed b).pending = u.pending := rfl

theorem State.noticed_onChn (f : Chain → Chain) : (u.noticed b).onChn f = (u.onChn f).noticed b := rfl
theorem State.noticed_onSht (f : Shutters → Shutters) : (u.noticed b).onSht f = (u.onSht f).noticed b := rfl
theorem State.noticed_onSup (f : Supply → Supply) : (u.noticed b).onSup f = (u.onSup f).noticed b := rfl
theorem State.noticed_onFlr (f : Floors → Floors) : (u.noticed b).onFlr f = (u.onFlr f).noticed b := rfl
theorem State.noticed_onSnd (f : Sounder → Sounder) : (u.noticed b).onSnd f = (u.onSnd f).noticed b := rfl
theorem State.noticed_onCal (f : Calls → Calls) : (u.noticed b).onCal f = (u.onCal f).noticed b := rfl
theorem State.noticed_onPrg (f : Programme → Programme) : (u.noticed b).onPrg f = (u.onPrg f).noticed b := rfl
theorem State.noticed_onFir (f : Fire → Fire) : (u.noticed b).onFir f = (u.onFir f).noticed b := rfl
theorem State.noticed_onFlp (f : Loop → Loop) : (u.noticed b).onFlp f = (u.onFlp f).noticed b := rfl

end

/-! ### Two changes of a record that come to the same -/

section
variable {s : State}

theorem State.onChn_congr {f g : Chain → Chain} (h : f s.chn = g s.chn) : s.onChn f = s.onChn g := by
  simp only [State.onChn, h]

theorem State.onSht_congr {f g : Shutters → Shutters} (h : f s.sht = g s.sht) : s.onSht f = s.onSht g := by
  simp only [State.onSht, h]

theorem State.onSup_congr {f g : Supply → Supply} (h : f s.sup = g s.sup) : s.onSup f = s.onSup g := by
  simp only [State.onSup, h]

theorem State.onFlr_congr {f g : Floors → Floors} (h : f s.flr = g s.flr) : s.onFlr f = s.onFlr g := by
  simp only [State.onFlr, h]

theorem State.onSnd_congr {f g : Sounder → Sounder} (h : f s.snd = g s.snd) : s.onSnd f = s.onSnd g := by
  simp only [State.onSnd, h]

theorem State.onCal_congr {f g : Calls → Calls} (h : f s.cal = g s.cal) : s.onCal f = s.onCal g := by
  simp only [State.onCal, h]

theorem State.onClk_congr {f g : Clock → Clock} (h : f s.clk = g s.clk) : s.onClk f = s.onClk g := by
  simp only [State.onClk, h]

theorem State.onPrg_congr {f g : Programme → Programme} (h : f s.prg = g s.prg) : s.onPrg f = s.onPrg g := by
  simp only [State.onPrg, h]

theorem State.onLnk_congr {f g : Link → Link} (h : f s.lnk = g s.lnk) : s.onLnk f = s.onLnk g := by
  simp only [State.onLnk, h]

theorem State.onFlp_congr {f g : Loop → Loop} (h : f s.flp = g s.flp) : s.onFlp f = s.onFlp g := by
  simp only [State.onFlp, h]

theorem State.onFir_congr {f g : Fire → Fire} (h : f s.fir = g s.fir) : s.onFir f = s.onFir g := by
  simp only [State.onFir, h]

end

namespace Does

variable {n : Nat} {ms : List Msg} {u w : State}

theorem chn {m : ChainMsg} {f : Chain → Chain} (h : ∀ q, chainTake m (u.during q []) = ((u.during q []).onChn f).post ms)
    (hd : Does n ms (u.onChn f) w) : Does (1 + n) [.chn m] u w :=
  of_handle (fun q => by simp only [handle, ownChn, h]; rfl) hd

theorem sht {m : ShutterMsg} {f : Shutters → Shutters}
    (h : ∀ q, shutterTake m (u.during q []) = ((u.during q []).onSht f).post ms) (hd : Does n ms (u.onSht f) w) :
    Does (1 + n) [.sht m] u w :=
  of_handle (fun q => by simp only [handle, ownSht, h]; rfl) hd

theorem sup {m : SupplyMsg} {f : Supply → Supply}
    (h : ∀ q, supplyTake m (u.during q []) = ((u.during q []).onSup f).post ms) (hd : Does n ms (u.onSup f) w) :
    Does (1 + n) [.sup m] u w :=
  of_handle (fun q => by simp only [handle, ownSup, h]; rfl) hd

theorem flr {m : FloorMsg} {f : Floors → Floors}
    (h : ∀ q, floorTake m (u.during q []) = ((u.during q []).onFlr f).post ms) (hd : Does n ms (u.onFlr f) w) :
    Does (1 + n) [.flr m] u w :=
  of_handle (fun q => by simp only [handle, ownFlr, h]; rfl) hd

theorem snd {m : SounderMsg} {f : Sounder → Sounder}
    (h : ∀ q, soundTake m (u.during q []) = ((u.during q []).onSnd f).post ms) (hd : Does n ms (u.onSnd f) w) :
    Does (1 + n) [.snd m] u w :=
  of_handle (fun q => by simp only [handle, ownSnd, h]; rfl) hd

theorem cal {m : CallMsg} {f : Calls → Calls}
    (h : ∀ q, callTake m (u.during q []) = ((u.during q []).onCal f).post ms) (hd : Does n ms (u.onCal f) w) :
    Does (1 + n) [.cal m] u w :=
  of_handle (fun q => by simp only [handle, ownCal, h]; rfl) hd

theorem clk {m : ClockMsg} {f : Clock → Clock}
    (h : ∀ q, clockTake m (u.during q []) = ((u.during q []).onClk f).post ms) (hd : Does n ms (u.onClk f) w) :
    Does (1 + n) [.clk m] u w :=
  of_handle (fun q => by simp only [handle, ownClk, h]; rfl) hd

theorem prg {m : ProgrammeMsg} {f : Programme → Programme}
    (h : ∀ q, programmeTake m (u.during q []) = ((u.during q []).onPrg f).post ms) (hd : Does n ms (u.onPrg f) w) :
    Does (1 + n) [.prg m] u w :=
  of_handle (fun q => by simp only [handle, ownPrg, h]; rfl) hd

theorem fir {m : FireMsg} {f : Fire → Fire}
    (h : ∀ q, fireTake m (u.during q []) = ((u.during q []).onFir f).post ms) (hd : Does n ms (u.onFir f) w) :
    Does (1 + n) [.fir m] u w :=
  of_handle (fun q => by simp only [handle, ownFir, h]; rfl) hd

/-! Events a block takes without effect. -/

theorem chn_same {m : ChainMsg} (h : ∀ q, chainTake m (u.during q []) = u.during q []) : Does 1 [.chn m] u u :=
  chn (f := id) h (.nil u)

theorem sht_same {m : ShutterMsg} (h : ∀ q, shutterTake m (u.during q []) = u.during q []) : Does 1 [.sht m] u u :=
  sht (f := id) h (.nil u)

theorem sup_same {m : SupplyMsg} (h : ∀ q, supplyTake m (u.during q []) = u.during q []) : Does 1 [.sup m] u u :=
  sup (f := id) h (.nil u)

theorem flr_same {m : FloorMsg} (h : ∀ q, floorTake m (u.during q []) = u.during q []) : Does 1 [.flr m] u u :=
  flr (f := id) h (.nil u)

theorem snd_same {m : SounderMsg} (h : ∀ q, soundTake m (u.during q []) = u.during q []) : Does 1 [.snd m] u u :=
  snd (f := id) h (.nil u)

theorem cal_same {m : CallMsg} (h : ∀ q, callTake m (u.during q []) = u.during q []) : Does 1 [.cal m] u u :=
  cal (f := id) h (.nil u)

theorem clk_same {m : ClockMsg} (h : ∀ q, clockTake m (u.during q []) = u.during q []) : Does 1 [.clk m] u u :=
  clk (f := id) h (.nil u)

theorem prg_same {m : ProgrammeMsg} (h : ∀ q, programmeTake m (u.during q []) = u.during q []) : Does 1 [.prg m] u u :=
  prg (f := id) h (.nil u)

theorem fir_same {m : FireMsg} (h : ∀ q, fireTake m (u.during q []) = u.during q []) : Does 1 [.fir m] u u :=
  fir (f := id) h (.nil u)

end Does

/-! ### The sounder line's messages -/

/-- The model's check of free zones and that of the statements are one (R96, R103). -/
theorem Sounder.zonesFree_iff (u : Sounder) (zones : List Nat) : u.zonesFree zones = true ↔ u.free zones = true := by
  have hzone (z : Nat) : (u.holder? z).isNone = true ↔ ∀ p ∈ u.playing, z ∉ p.sounding.zones := by
    simp [Sounder.holder?, List.find?_eq_none]
  have hfree : u.free zones = true ↔ ∀ p ∈ u.playing, ∀ z ∈ p.sounding.zones, z ∉ zones := by simp [Sounder.free]
  rw [hfree, Sounder.zonesFree, List.all_eq_true]
  exact ⟨fun h p hp z hz hmem => (hzone z).mp (h z hmem) p hp hz, fun h z hz => (hzone z).mpr fun p hp hmem => h p hp z hmem hz⟩

theorem Sounder.moveTeam_of_no_call {x : Sounding} (h : x.cls.isCall = false) (u : Sounder) : u.moveTeam x = u := by
  unfold Sounder.moveTeam
  rw [h]

theorem Sounder.sorted_singleton (u : Sounder) (x : Sounding) : u.sorted [x] = [x] := rfl

/-- The only sounding of the queue leaves it. -/
theorem Sounder.remove_only {u : Sounder} {x : Sounding} (h : u.queue = [x]) :
    (u.remove fun z => z.stamp == x.stamp) = { u with queue := [] } := by
  simp [Sounder.remove, h, Config.sounderPlaces]

/-- A sounding arrives at an empty queue (R102). -/
theorem soundArrive_empty {s : State} (h : s.snd.queue = []) (x : Sounding) (report : SoundReport) :
    soundArrive x report s =
      (s.onSnd fun u => { u with queue := [x] }).post (originReport x.origin report ++ [.snd .startPass]) := by
  have hroom : s.snd.queue.length < Config.sounderPlaces := by
    rw [h]
    decide
  rw [soundArrive, if_pos hroom, soundJoin]
  unfold State.onSnd
  dsimp only
  rw [h]
  rfl

theorem soundNew_empty {s : State} (h : s.snd.queue = []) (cls : SoundClass) (pattern : Nat) (zones : List Nat)
    (repeats : Nat) (origin : SoundOrigin) : soundNew cls pattern zones repeats origin s =
      (s.onSnd fun u => { u with queue := [u.fresh cls pattern zones repeats origin], nextStamp := u.nextStamp + 1 }).post
        (originReport origin .queued ++ [.snd .startPass]) :=
  soundArrive_empty (s := s.onSnd fun u => { u with nextStamp := u.nextStamp + 1 }) h
    (s.snd.fresh cls pattern zones repeats origin) .queued

theorem soundStartPass_waits {s : State} (h : ∀ x ∈ s.snd.queue, s.snd.canStart x = false) : soundStartPass s = s := by
  have hnone : s.snd.queue.find? s.snd.canStart = none :=
    List.find?_eq_none.mpr fun x hx => by simp [h x hx]
  unfold soundStartPass
  rw [hnone]

theorem soundStartPass_starts {s : State} {x : Sounding} (hq : s.snd.queue = [x]) (hx : s.snd.canStart x = true) :
    soundStartPass s =
      (s.onSnd fun u => { u with queue := [], playing := u.playing ++ [u.begun x] }.moveTeam x).post
        (originReport x.origin .started ++ [.snd .startPass]) := by
  have hfind : s.snd.queue.find? s.snd.canStart = some x := by
    rw [hq]
    exact List.find?_cons_of_pos hx
  unfold soundStartPass
  rw [hfind]
  unfold State.onSnd
  dsimp only
  rw [Sounder.remove_only hq]
  rfl

namespace Does

variable {u w : State}

/-- The start pass with nothing in the queue that can start. -/
theorem startPass_waits (h : ∀ x ∈ u.snd.queue, u.snd.canStart x = false) : Does 1 [.snd .startPass] u u :=
  snd_same fun q => soundStartPass_waits (s := u.during q []) h

theorem startPass_empty (h : u.snd.queue = []) : Does 1 [.snd .startPass] u u :=
  startPass_waits fun x hx => by simp [h] at hx

theorem removeReservation_none {cue : Nat} (h : ∀ r ∈ u.snd.reservations, r.cue ≠ cue) :
    Does 1 [.snd (.removeReservation cue)] u u :=
  snd_same fun q => by
    have hnot : (u.snd.reservations.any fun r => r.cue == cue) = false := by simpa [List.any_eq_false] using h
    exact if_neg (Bool.eq_false_iff.mp hnot)

end Does

end Sys2Proof.Machine
end

section
/-! PROOF of O17 Soundings. -/

namespace Sys2Proof.Machine

theorem bne_eq_decide_ne (a b : Nat) : (a != b) = decide (a ≠ b) := by
  rw [Bool.eq_iff_iff, bne_iff_ne, decide_eq_true_iff]

theorem clampTo_eq_max_min (low high v : Nat) (_h : low ≤ high) : clampTo low high v = max low (min v high) := by
  unfold clampTo
  omega

/-! ### SET PATTERN (R94) -/

theorem Sounder.names_iff (u : Sounder) (pattern : Nat) : u.names pattern = true ↔
    (∃ p ∈ u.playing, p.sounding.pattern = pattern) ∨ ∃ x ∈ u.queue, x.pattern = pattern := by
  simp [Sounder.names]

theorem ElementFields.inRange_of {e : ElementFields} (h : e.kind = 1 ∨ e.kind = 0 ∧ e.tone ≤ 3) : e.inRange = true := by
  rcases h with h | ⟨h, ht⟩ <;> simp [ElementFields.inRange, *]

theorem ElementFields.element_eq (e : ElementFields) :
    e.element = { tone := if e.kind = 0 then some e.tone else none, length := max 1 (min e.length 40) } := by
  rw [ElementFields.element, clampTo_eq_max_min 1 40 e.length (by decide)]

theorem ElementFields.clamps_eq (e : ElementFields) : e.clamps = decide (e.length < 1 ∨ 40 < e.length) := by
  rw [ElementFields.clamps, ElementFields.element_eq, Bool.eq_iff_iff, bne_iff_ne, decide_eq_true_iff]
  dsimp only
  omega

theorem orderSetPattern_inRange {u : State} {pattern : Nat} {elements : List ElementFields} (hp : pattern ≤ 31)
    (hne : elements ≠ []) (hlen : elements.length ≤ 16) (hall : ∀ e ∈ elements, e.kind = 1 ∨ e.kind = 0 ∧ e.tone ≤ 3) :
    orderSetPattern pattern elements u = if u.snd.names pattern then declined .inUse u
      else doneClamped (elements.any ElementFields.clamps)
        (u.onSnd fun v => { v with patterns := v.patterns.set pattern (elements.map ElementFields.element) }) := by
  have hpos : 1 ≤ elements.length := List.length_pos_iff.mpr hne
  have hrange : (decide (pattern ≤ 31) && inRange 1 16 elements.length && elements.all ElementFields.inRange) = true := by
    simpa [inRange, hp, hpos, hlen] using fun e he => ElementFields.inRange_of (hall e he)
  rw [orderSetPattern, hrange]
  rfl

theorem setPattern_exec {s : State} {pattern : Nat} {elements : List ElementFields} (tag : Nat) (hs : s.configReady = true)
    (hp : pattern ≤ 31) (hne : elements ≠ []) (hlen : elements.length ≤ 16)
    (hall : ∀ e ∈ elements, e.kind = 1 ∨ e.kind = 0 ∧ e.tone ≤ 3) :
    exec (.setPattern tag pattern elements) s = .next
      (if s.snd.names pattern then s.answered tag (.setPattern pattern elements) (.declined .inUse [])
      else (s.onSnd fun u => { u with patterns := u.patterns.set pattern (elements.map ElementFields.element) }).answered
        tag (.setPattern pattern elements) (.done (elements.any ElementFields.clamps) [])) := by
  have horder (q : List Request) := orderSetPattern_inRange (u := s.during q []) hp hne hlen hall
  split
  · next h => exact exec_config_silent rfl hs fun q => (horder q).trans (if_pos h)
  · next h => exact exec_config_silent rfl hs fun q => (horder q).trans (if_neg h)

/-! ### SOUND (R109) -/

theorem sound_outOfRange {s : State} {pattern zones repeats : Nat} (tag : Nat) (hs : s.ready = true)
    (h : 31 < pattern ∨ 255 < zones ∨ zones = 0) : exec (.sound tag pattern zones repeats) s = .next
      (s.answered tag (.sound pattern zones repeats) (.declined .outOfRange [])) := by
  have hcheck : (!(decide (pattern ≤ 31) && decide (zones < 256)) || (maskSet 8 zones).isEmpty) = true := by
    rcases h with h | h | rfl
    · simp [Nat.not_le.mpr h]
    · simp [Nat.not_lt.mpr (Nat.succ_le_of_lt h)]
    · simp [maskSet]
  exact exec_unchanged rfl hs (fun hw => absurd hw Bool.false_ne_true) fun q => if_pos hcheck

theorem maskSet_ne_nil {zones : Nat} (hpos : 0 < zones) (hz : zones < 256) : maskSet 8 zones ≠ [] := by
  intro hnil
  have hbits (k : Nat) : zones.testBit k = false := by
    by_cases hk : k < 8
    · by_contra hbit
      have hmem : k ∈ maskSet 8 zones := List.mem_filter.mpr ⟨List.mem_range.mpr hk, by simpa using hbit⟩
      simp [hnil] at hmem
    · exact Nat.testBit_lt_two_pow (hz.trans_le (Nat.pow_le_pow_right (by decide : 1 ≤ 2) (Nat.not_lt.mp hk)))
  exact hpos.ne' (Nat.eq_of_testBit_eq fun k => by rw [hbits k, Nat.zero_testBit])

theorem orderSound_empty {u : State} {tag pattern zones repeats : Nat} (hp : pattern ≤ 31) (hpos : 0 < zones)
    (hz : zones < 256) (hq : u.snd.queue = []) : orderSound tag pattern zones repeats u =
      takenClamped (clampTo 1 4 repeats != repeats)
        (soundNew .cue pattern (maskSet 8 zones) (clampTo 1 4 repeats) (.sound tag) u) := by
  have hrange : (!(decide (pattern ≤ 31) && decide (zones < 256)) || (maskSet 8 zones).isEmpty) = false := by
    simp [hp, hz, maskSet_ne_nil hpos hz]
  have hroom : (decide (Config.sounderPlaces ≤ u.snd.queue.length) && !(u.snd.queue.any fun x => x.cls.isCall)) = false := by
    rw [hq]
    rfl
  rw [orderSound, hrange, hroom]
  rfl

/-- A CUE at an empty queue whose origin is told nothing starts, or waits (R102, R103). -/
theorem Does.cueArrived {u : State} {x : Sounding} (hq : u.snd.queue = []) (hcls : x.cls = .cue)
    (hreport : originReport x.origin .started = []) :
    ∃ n < 3, Does n [.snd .startPass] (u.onSnd fun v => { v with queue := [x], nextStamp := v.nextStamp + 1 })
      (u.onSnd fun v => v.arrived x) := by
  have hcall : x.cls.isCall = false := by
    rw [hcls]
    rfl
  set v := u.onSnd fun v => { v with queue := [x], nextStamp := v.nextStamp + 1 }
  have hcan : v.snd.canStart x = true ↔ u.snd.free x.zones = true := by
    rw [Sounder.canStart, hcall, Bool.not_false, Bool.true_or, Bool.and_true]
    exact Sounder.zonesFree_iff ..
  by_cases hfree : u.snd.free x.zones = true
  · have hend : (u.onSnd fun v => v.arrived x) = v.onSnd fun w => { w with queue := [], playing := w.playing ++ [w.begun x] } := by
      refine State.onSnd_congr (g := fun w =>
        { w with playing := w.playing ++ [w.begun x], queue := [], nextStamp := w.nextStamp + 1 }) ((if_pos hfree).trans ?_)
      simp only [hq]
    refine ⟨1 + 1, by decide, ?_⟩
    rw [hend]
    refine .snd (fun q => (soundStartPass_starts (s := v.during q []) rfl (hcan.mpr hfree)).trans ?_) (.startPass_empty rfl)
    rw [hreport]
    exact congrArg (State.post · _) (State.onSnd_congr (Sounder.moveTeam_of_no_call hcall _))
  · have hend : (u.onSnd fun v => v.arrived x) = v := State.onSnd_congr (if_neg hfree)
    refine ⟨1, by decide, ?_⟩
    rw [hend]
    refine .startPass_waits fun y hy => ?_
    obtain rfl := List.mem_singleton.mp hy
    exact Bool.eq_false_iff.mpr (hcan.not.mpr hfree)

theorem Sounder.arrived_roomDue (u : Sounder) (x : Sounding) : (u.arrived x).roomDue = u.roomDue := by
  unfold Sounder.arrived
  split <;> rfl

theorem sound_exec {s : State} {pattern zones repeats : Nat} (tag : Nat) (hs : s.ready = true) (hp : pattern ≤ 31)
    (hpos : 0 < zones) (hz : zones < 256) (hq : s.snd.queue = []) :
    exec (.sound tag pattern zones repeats) s = .next
      ((s.onSnd fun u => u.arrived (u.cue pattern (maskSet 8 zones) (clampTo 1 4 repeats) (.sound tag))).answered tag
        (.sound pattern zones repeats) (.taken (clampTo 1 4 repeats != repeats))) := by
  obtain ⟨n, hn, hdoes⟩ := Does.cueArrived (u := s)
    (x := s.snd.cue pattern (maskSet 8 zones) (clampTo 1 4 repeats) (.sound tag)) hq rfl rfl
  refine exec_of_does rfl hs (fun hw => absurd hw Bool.false_ne_true) (fun q => ?_) hdoes
    (hroom := Sounder.arrived_roomDue ..) (hn := by omega)
  refine (orderSound_empty (u := s.during q []) hp hpos hz hq).trans ?_
  rw [soundNew_empty (s := s.during q []) hq]
  rfl

/-! ### Elements and ends (R96, R97) -/

theorem patternElementEnd_exec {s : State} (stamp : Nat) (hs : s.quiet = true) :
    exec (.patternElementEnd stamp) s = .next (soundElementEnd stamp s) :=
  settle_quiet (s := soundElementEnd stamp s) hs

theorem Sounder.nextElement_getD (u : Sounder) (p : Playing) : (u.nextElement p).getD p =
    let elements := (u.patterns[p.sounding.pattern]?).getD []
    let at' (pass element : Nat) : Playing :=
      { p with pass := pass, element := element, elementLeft := (elements[element]?.map (·.length)).getD 0 }
    if p.element + 1 < elements.length then at' p.pass (p.element + 1)
    else if p.sounding.repeats = none then at' 0 0
    else if ∃ n ∈ p.sounding.repeats, p.pass + 1 < n then at' (p.pass + 1) 0
    else p := by
  unfold Sounder.nextElement Sounder.pattern
  dsimp only
  split
  · rfl
  · cases p.sounding.repeats with
    | none => rfl
    | some n =>
      by_cases h : p.pass + 1 < n
      · simp [h]
      · simp [h]

theorem soundEnd_none {s : State} {stamp : Nat} (h : ∀ p ∈ s.snd.playing, p.sounding.stamp ≠ stamp) :
    soundEnd stamp s = s := by
  have hnone : (s.snd.playing.find? fun p => p.sounding.stamp == stamp && !p.sounding.cls.isFire) = none :=
    List.find?_eq_none.mpr fun p hp => by simp [h p hp]
  rw [soundEnd, hnone]

/-- The one sounding with its stamp leaves the list of those in progress. -/
theorem filter_stamp {before after : List Playing} {p : Playing}
    (h : ∀ q ∈ before ++ after, q.sounding.stamp ≠ p.sounding.stamp) :
    ((before ++ p :: after).filter fun q => q.sounding.stamp != p.sounding.stamp) = before ++ after := by
  have hkeep : ((before ++ after).filter fun q => q.sounding.stamp != p.sounding.stamp) = before ++ after :=
    List.filter_eq_self.mpr fun q hq => bne_iff_ne.mpr (h q hq)
  rw [List.filter_append, List.filter_cons_of_neg (by simp), ← List.filter_append, hkeep]

theorem soundEnd_one {s : State} {before after : List Playing} {p : Playing} (hplaying : s.snd.playing = before ++ p :: after)
    (hfire : p.sounding.cls.isFire = false) (hone : ∀ q ∈ before ++ after, q.sounding.stamp ≠ p.sounding.stamp) :
    soundEnd p.sounding.stamp s = (s.onSnd fun u => { u with playing := before ++ after }).post
      (originReport p.sounding.origin .ended ++ [.snd .startPass]) := by
  have hfind : (s.snd.playing.find? fun q => q.sounding.stamp == p.sounding.stamp && !q.sounding.cls.isFire) = some p := by
    rw [hplaying, List.find?_append, List.find?_eq_none.mpr fun q hq => by simp [hone q (List.mem_append_left _ hq)],
      List.find?_cons_of_pos (by simp [hfire])]
    rfl
  rw [soundEnd, hfind]
  unfold State.onSnd
  dsimp only
  rw [hplaying, filter_stamp hone]

/-- Settles O17: SET PATTERN by its checks, SOUND as a CUE that arrives at an empty queue, and the ends of elements and
soundings as the part of the playing list with their stamp. -/
theorem soundings : Obligations.Soundings := by
  refine ⟨fun s tag pattern elements hs hp hne hlen hall => ?_, fun s tag pattern zones repeats hs => ?_, fun s stamp hs => ?_, ⟨fun s before after p tag hs hq hplaying horigin hcls hone => ?_, fun s stamp hs h => ?_⟩⟩
  · rw [setPattern_exec tag hs hp hne hlen hall, ← funext ElementFields.element_eq, ← funext ElementFields.clamps_eq]
    simp only [← Sounder.names_iff]
  · refine ⟨fun h => sound_outOfRange tag hs h, fun hp hpos hz hq => ?_⟩
    rw [sound_exec tag hs hp hpos hz hq, clampTo_eq_max_min 1 4 repeats (by decide), bne_eq_decide_ne]
    rfl
  · rw [patternElementEnd_exec stamp hs, soundElementEnd]
    congr 2
    funext u
    congr 1
    refine List.map_congr_left fun p _ => ?_
    rw [Sounder.nextElement_getD]
    split
    · next h => exact (if_neg (not_not.mpr h)).symm
    · rfl
  · have hend := soundEnd_one hplaying (by rw [hcls]; rfl) hone
    rw [horigin] at hend
    exact settle_event (b := .snd) hs hend ((Does.notice _ _).cons (.startPass_empty hq))
  · exact settle_event_same .snd hs (soundEnd_none h)

end Sys2Proof.Machine
end

section
/-! PROOF of O21 ClockOrders. -/

namespace Sys2Proof.Machine

/-! ### Cues without an occurrence (R138) -/

theorem Clock.idle_of_disabled {c : Clock} {q : Cue} (h : q.config.enabled = false) : c.idle q = true := by
  simp [Clock.idle, h]

theorem Clock.idle_of_unset {c : Clock} (h : c.isSet = false) (q : Cue) : c.idle q = true := by simp [Clock.idle, h]

theorem cueFresh_idle {n : Nat} {q : Cue} {s : State} (h : s.clk.idle q = true) :
    cueFresh n q s = s.onClk fun c => c.mapCue n fun q => q.await none := by
  unfold cueFresh
  rw [h]

/-- The rebuild of a cue that does not sound and has no occurrence (R138). -/
theorem cueRebuild_idle {n : Nat} {cut : Bool} {q : Cue} {s : State} (hq : s.clk.cues[n]? = some q)
    (hphase : cut = true → q.phase ≠ .sounding) (hidle : s.clk.idle q = true) :
    cueRebuild n cut s = (s.onClk fun c => c.mapCue n fun q => q.await none).post [.snd (.removeReservation n)] := by
  have hcut : (cut && q.phase == .sounding) = false := by
    cases cut with
    | false => rfl
    | true => simpa using hphase rfl
  unfold cueRebuild
  rw [hq]
  dsimp only
  rw [hcut]
  exact (cueFresh_idle (s := s.post [.snd (.removeReservation n)]) hidle).trans rfl

theorem Does.rebuild_idle {u : State} {n : Nat} {cut : Bool} {q : Cue} (hq : u.clk.cues[n]? = some q)
    (hphase : cut = true → q.phase ≠ .sounding) (hidle : u.clk.idle q = true) (hfree : ∀ r ∈ u.snd.reservations, r.cue ≠ n) :
    Does (1 + 1) [.clk (.rebuild n cut)] u (u.onClk fun c => c.mapCue n fun q => q.await none) :=
  .clk (fun q' => cueRebuild_idle (s := u.during q' []) hq hphase hidle) (.removeReservation_none hfree)

/-- The first `k` cues are IDLE. -/
def Clock.idleTo (c : Clock) (k : Nat) : Clock :=
  { c with cues := c.cues.mapIdx fun n q => if n < k then q.await none else q }

theorem Clock.idleTo_get (c : Clock) (k : Nat) : (c.idleTo k).cues[k]? = c.cues[k]? := by
  simp [Clock.idleTo, List.getElem?_mapIdx]

theorem Clock.idleTo_succ (c : Clock) (k : Nat) :
    (c.idleTo k).mapCue k (fun q => q.await none) = c.idleTo (k + 1) := by
  unfold Clock.mapCue Clock.idleTo
  congr 1
  refine List.ext_getElem? fun n => ?_
  rw [List.getElem?_modify, List.getElem?_mapIdx, List.getElem?_mapIdx]
  cases c.cues[n]? with
  | none => rfl
  | some q =>
    by_cases hk : k = n
    · simp [hk]
    · have hlt : n < k + 1 ↔ n < k := by omega
      simp [hk, hlt]

theorem Clock.idleTo_zero (c : Clock) : c.idleTo 0 = c := by
  have hcues : (c.cues.mapIdx fun n q => if n < 0 then q.await none else q) = c.cues :=
    List.ext_getElem? fun n => by simp [List.getElem?_mapIdx]
  rw [Clock.idleTo, hcues]

theorem Clock.idleTo_length (c : Clock) : c.idleTo c.cues.length = { c with cues := c.cues.map (·.await none) } := by
  unfold Clock.idleTo
  congr 1
  refine List.ext_getElem? fun n => ?_
  rw [List.getElem?_mapIdx, List.getElem?_map]
  by_cases hn : n < c.cues.length
  · simp [hn]
  · simp [List.getElem?_eq_none (Nat.not_lt.mp hn)]

/-- The rebuild rule makes one cue after another IDLE. -/
theorem Does.rebuilds_idle {u : State} {cut : Bool}
    (hcues : ∀ q ∈ u.clk.cues, (cut = true → q.phase ≠ .sounding) ∧ u.clk.idle q = true) (hfree : u.snd.reservations = [])
    (k : Nat) (hk : k ≤ u.clk.cues.length) :
    Does (k * (1 + 1)) ((List.range k).map fun n => Msg.clk (.rebuild n cut)) u (u.onClk fun c => c.idleTo k) := by
  induction k with
  | zero =>
    have hsame : (u.onClk fun c => c.idleTo 0) = u := State.onClk_congr (g := id) (Clock.idleTo_zero _)
    rw [hsame]
    exact .nil u
  | succ k ih =>
    have hlt : k < u.clk.cues.length := hk
    have hget : (u.clk.idleTo k).cues[k]? = some u.clk.cues[k] :=
      (Clock.idleTo_get _ _).trans (List.getElem?_eq_getElem hlt)
    obtain ⟨hphase, hidle⟩ := hcues _ (List.getElem_mem hlt)
    have hlast : Does (1 + 1) [.clk (.rebuild k cut)] (u.onClk fun c => c.idleTo k) (u.onClk fun c => c.idleTo (k + 1)) := by
      rw [← show (u.onClk fun c => (c.idleTo k).mapCue k fun q => q.await none) = u.onClk fun c => c.idleTo (k + 1) from
        State.onClk_congr (Clock.idleTo_succ _ _)]
      exact .rebuild_idle (u := u.onClk fun c => c.idleTo k) hget hphase hidle fun r hr => by
        have hmem : r ∈ u.snd.reservations := hr
        simp [hfree] at hmem
    rw [List.range_succ, List.map_append, Nat.succ_mul]
    exact (ih hlt.le).append hlast

theorem Does.clearReservations {u : State} (h : u.snd.queue = []) :
    Does (1 + 1) [.snd .clearReservations] u (u.onSnd fun v => { v with reservations := [] }) :=
  .snd (fun _ => rfl) (.startPass_empty h)

theorem orderSetTime_inRange {u : State} {time day : Nat} (ht : time ≤ 86399) (hd : day ≤ 6) : orderSetTime time day u =
    done ((u.onClk fun c => { c with time := time, day := day, isSet := true }).post
      (.snd .clearReservations :: (List.range u.clk.cues.length).map fun n => Msg.clk (.rebuild n true))) := by
  simp only [orderSetTime, ht, hd]
  rfl

theorem setTime_exec {s : State} {time day : Nat} (tag : Nat) (hs : s.ready = true) (ht : time ≤ 86399) (hd : day ≤ 6)
    (hq : s.snd.queue = []) (hlen : s.clk.cues.length = 24)
    (hcues : ∀ q ∈ s.clk.cues, q.config.enabled = false ∧ q.phase ≠ .sounding) :
    exec (.setTime tag time day) s = .next
      (((s.onSnd fun u => { u with reservations := [] }).onClk fun c =>
        { time := time, day := day, isSet := true, cues := c.cues.map (·.await none) }).answered
        tag (.setTime time day) (.done false [])) := by
  set v := s.onClk fun c => { c with time := time, day := day, isSet := true }
  have hrebuilds := Does.rebuilds_idle (u := v.onSnd fun u => { u with reservations := [] }) (cut := true)
    (fun q hmem => ⟨fun _ => (hcues q hmem).2, Clock.idle_of_disabled (hcues q hmem).1⟩) rfl s.clk.cues.length le_rfl
  have hend : ((v.onSnd fun u => { u with reservations := [] }).onClk fun c => c.idleTo s.clk.cues.length) =
      (v.onSnd fun u => { u with reservations := [] }).onClk fun c => { c with cues := c.cues.map (·.await none) } :=
    State.onClk_congr (Clock.idleTo_length v.clk)
  rw [hend] at hrebuilds
  have hall := (Does.clearReservations (u := v) hq).cons hrebuilds
  refine exec_of_does (v := v) rfl hs (fun hw => absurd hw Bool.false_ne_true) (fun q => ?_) hall
    (hn := by rw [hlen]; norm_num)
  exact orderSetTime_inRange (u := s.during q []) ht hd

/-! ### SET CUE (R133, R139) -/

theorem orderSetCue_inRange {u : State} {cue : Nat} {f : CueFields} (hc : cue ≤ 23) (hf : f.inRange = true) :
    orderSetCue cue f u = doneClamped f.clamps
      ((u.onClk fun c => c.mapCue cue fun q => { q with config := f.config }).post [.clk (.rebuild cue true)]) := by
  simp only [orderSetCue, hc, hf]
  rfl

theorem setCue_unset_exec {s : State} {cue : Nat} {f : CueFields} {q : Cue} (tag : Nat) (hs : s.configReady = true)
    (hc : cue ≤ 23) (hf : f.inRange = true) (hq : s.clk.cues[cue]? = some q) (hphase : q.phase ≠ .sounding)
    (hunset : s.clk.isSet = false) (hfree : ∀ r ∈ s.snd.reservations, r.cue ≠ cue) :
    exec (.setCue tag cue f) s = .next
      ((s.onClk fun c => { c with cues := c.cues.set cue ⟨f.config, .idle, none, 0, 0⟩ }).answered
        tag (.setCue cue f) (.done f.clamps [])) := by
  set v := s.onClk fun c => c.mapCue cue fun q => { q with config := f.config }
  have hget : v.clk.cues[cue]? = some { q with config := f.config } :=
    (List.getElem?_modify_eq ..).trans (congrArg _ hq)
  have hdoes := Does.rebuild_idle (u := v) (cut := true) hget (fun _ => hphase) (Clock.idle_of_unset hunset _) hfree
  have hend : (v.onClk fun c => c.mapCue cue fun q => q.await none) = s.onClk fun c =>
      { c with cues := c.cues.set cue ⟨f.config, .idle, none, 0, 0⟩ } := by
    refine State.onClk_congr (s := s) (f := fun c => (c.mapCue cue fun q => { q with config := f.config }).mapCue cue
      fun q => q.await none) ?_
    unfold Clock.mapCue
    dsimp only
    rw [List.modify_modify_eq, modify_eq_set hq]
    rfl
  rw [← hend]
  refine exec_of_does rfl (ready_of_configReady hs) (writing_of_configReady hs) (fun q' => ?_) hdoes
  exact orderSetCue_inRange (u := s.during q' []) hc hf

/-- Settles O21: the clear of the reservations and the rebuild of every cue, cue by cue. -/
theorem clockOrders : Obligations.ClockOrders := by
  refine ⟨fun s tag time day hs ht hd hq hlen hcues => setTime_exec tag hs ht hd hq hlen hcues,
    fun s tag cue f hs hc hf q hq hphase hunset hfree =>
      ⟨setCue_unset_exec tag hs hc hf (Option.mem_def.mp hq) hphase hunset hfree, ?_⟩⟩
  obtain ⟨hlow, hhigh⟩ := clampTo_bounds (show 1 ≤ 4 by decide) f.repeats
  obtain ⟨hlow', hhigh'⟩ := clampTo_bounds (show 60 ≤ 240 by decide) f.retryInterval
  exact ⟨hlow, hhigh, hlow', hhigh', (clampTo_bounds (Nat.zero_le 3) f.retryLimit).2⟩

end Sys2Proof.Machine
end

section
/-! PROOF of O59 LinkLine. -/

namespace Sys2Proof.Machine

/-! ### The receive line (R183) -/

/-- The receive assembler in a phase. -/
def State.receiving (s : State) (a : Assembler) : State := s.onLnk fun k => { k with assembler := a }

section Receive

variable {s : State} (hs : s.quiet = true)

include hs

theorem receive_phase {b : Byte} {framingError : Bool} {a : Assembler} (h : linkReceive b framingError s = s.receiving a) :
    exec (.receiveByte b framingError) s = .next (s.receiving a) := settle_event_silent (b := .lnk) hs h

theorem receive_framingError (b : Byte) : exec (.receiveByte b true) s = .next (s.receiving .hunt) := receive_phase hs rfl

theorem receive_hunt (h : s.lnk.assembler = .hunt) (b : Byte) :
    exec (.receiveByte b false) s = .next (s.receiving (huntByte b)) :=
  receive_phase hs (by simp only [linkReceive, h]; rfl)

theorem receive_length (h : s.lnk.assembler = .length) (b : Byte) : exec (.receiveByte b false) s =
    .next (s.receiving (if 2 ≤ b.toNat ∧ b.toNat ≤ 122 then .collect b.toNat [] else huntByte b)) := by
  refine receive_phase hs ?_
  by_cases hrange : 2 ≤ b.toNat ∧ b.toNat ≤ 122
  · simp only [linkReceive, h, inRange_eq_decide, hrange]
    rfl
  · simp only [linkReceive, h, inRange_eq_decide, hrange]
    rfl

theorem receive_collect {n : Nat} {bytes : List Byte} (h : s.lnk.assembler = .collect n bytes)
    (hlen : bytes.length + 1 < n + 2) (b : Byte) :
    exec (.receiveByte b false) s = .next (s.receiving (.collect n (bytes ++ [b]))) := by
  refine receive_phase hs ?_
  have hroom : (bytes ++ [b]).length < n + 2 := by simpa using hlen
  simp only [linkReceive, h, if_pos hroom]
  rfl

end Receive

/-- The last byte of a frame shows whether its CRC is good. -/
theorem linkReceive_last {s : State} {n : Nat} {bytes : List Byte} {b : Byte} (h : s.lnk.assembler = .collect n bytes)
    (hlen : bytes.length + 1 = n + 2) : linkReceive b false s =
      match gatheredFrame n (bytes ++ [b]) with
      | some (kind, tag, body) => linkArrive kind tag (parseOrder kind body) (s.receiving .hunt)
      | none => s.receiving .hunt := by
  have hfull : ¬(bytes ++ [b]).length < n + 2 := by simp [hlen]
  simp only [linkReceive, h, if_neg hfull]
  rfl

/-- What a gathered frame's bytes come to: length, kind, tag and body under their CRC. -/
theorem gatheredFrame_eq (kind tag b : Byte) (body rest : List Byte) :
    gatheredFrame (body.length + 2) ((kind :: tag :: body ++ rest) ++ [b]) =
      if rest ++ [b] = crcBytes (BitVec.ofNat 8 (body.length + 2) :: kind :: tag :: body) then
        some (kind.toNat, tag.toNat, body) else none := by
  have htake : ((kind :: tag :: body ++ rest) ++ [b]).take (body.length + 2) = kind :: tag :: body := by simp
  have hdrop : ((kind :: tag :: body ++ rest) ++ [b]).drop (body.length + 2) = rest ++ [b] := by simp
  rw [gatheredFrame, htake, hdrop]
  rfl

/-- A frame of no request kind is answered where the answer list has room (R184). -/
theorem linkArrive_unknown {s : State} {kind tag : Nat} {o : Option Order} (h : requestKind kind = false) :
    linkArrive kind tag o s = s.onLnk fun k => Link.start { k with
      answers := if k.answers.length < 4 then k.answers ++ [⟨kind, tag, .declined .unknownKind []⟩] else k.answers } := by
  have hrefuse : linkArrive kind tag o s = s.onLnk fun k => (k.putAnswer ⟨kind, tag, .declined .unknownKind []⟩).start := by
    simp only [linkArrive, h]
    rfl
  rw [hrefuse]
  refine State.onLnk_congr (congrArg Link.start ?_)
  unfold Link.putAnswer Link.hasRoom
  by_cases hroom : s.lnk.answers.length < 4
  · simp [hroom, Config.answerPlaces]
  · simp [hroom, Config.answerPlaces]

/-! ### The transmitter (R186) -/

theorem Link.choose_answer {k : Link} {a : Answer} {rest : List Answer} (h : k.answers = a :: rest) :
    k.choose = { k with sending := some a.frame, answers := rest } := by
  unfold Link.choose
  rw [h]

theorem Link.choose_notice {k : Link} {n : Notice} {rest : List Notice} (ha : k.answers = []) (hn : k.notices = n :: rest) :
    k.choose = { k with
      sending := some (n.frame k.lost k.count), notices := rest, lost := false, count := (k.count + 1) % 256 } := by
  unfold Link.choose
  rw [ha, hn]

theorem Link.choose_none {k : Link} (ha : k.answers = []) (hn : k.notices = []) : k.choose = { k with sending := none } := by
  unfold Link.choose
  rw [ha, hn]

/-- The end of a frame with no request waiting. -/
theorem exec_frameSent {s : State} (hs : s.quiet = true) (hrequests : s.lnk.requests = []) :
    exec .frameSent s = .next (s.onLnk Link.choose) := by
  obtain ⟨hagenda, hroom⟩ := s.quiet_iff.mp hs
  have hquiet : (s.onLnk Link.choose).quiet = true := (State.quiet_iff _).mpr ⟨hagenda, hroom⟩
  by_cases hanswers : s.lnk.answers.isEmpty = true
  · have hsend : linkSend s = s.onLnk Link.choose := by
      unfold linkSend State.post
      rw [if_pos hanswers, List.append_nil]
    exact settle_event_silent (b := .lnk) hs hsend
  · have hstart : ownLnk linkSend s = { s.onLnk Link.choose with agenda := [.lnk .process] } := by
      unfold ownLnk linkSend State.post
      rw [if_neg hanswers, State.onLnk_agenda, hagenda]
      rfl
    exact (congrArg settle hstart).trans (settle_process hquiet ((Link.choose_requests _).trans hrequests))

/-- A notice handed to an idle transmitter is taken up at once (R186). -/
theorem Link.start_takeNotice {k : Link} (hsending : k.sending = none) (hanswers : k.answers = []) (hnotices : k.notices = [])
    (n : Notice) : (k.takeNotice n).start = { k with
      sending := some (n.frame k.lost k.count), lost := false, count := (k.count + 1) % 256 } := by
  have htake : k.takeNotice n = { k with notices := [n] } := by
    unfold Link.takeNotice
    rw [hnotices]
    rfl
  rw [htake, Link.start, show ({ k with notices := [n] } : Link).sending.isNone = true by simp [hsending], if_pos rfl,
    Link.choose_notice (k := { k with notices := [n] }) (rest := []) hanswers rfl, ← hnotices]

/-- Settles O59: the receive line phase by phase, and the transmitter's choice in each of its three cases. -/
theorem linkLine : Obligations.LinkLine := by
  refine ⟨fun s hs => ⟨receive_framingError hs, ?gap, ?lineBreak, fun h => receive_hunt hs h,
    fun h => receive_length hs h, fun n bytes b h hlen => receive_collect hs h hlen b, ?last⟩,
    fun s hs hrequests => ⟨fun a rest ha => ?_, fun n rest ha hn => ?_, fun ha hn => ?_⟩,
    fun s good hs hsending ha hn i hi => ?_⟩
  case gap => exact settle_event_silent (b := .lnk) hs rfl
  case lineBreak => exact settle_event_silent (b := .lnk) hs rfl
  case last =>
    intro kind tag b body rest h hrest
    have hlast := linkReceive_last (b := b) h (by simp [hrest])
    rw [gatheredFrame_eq] at hlast
    refine ⟨fun hbad => ?_, fun hgood hkind => ?_⟩
    · rw [if_neg (of_decide_eq_false hbad)] at hlast
      exact receive_phase hs hlast
    · rw [if_pos (of_decide_eq_true hgood)] at hlast
      exact settle_event_silent (b := .lnk) hs (hlast.trans (linkArrive_unknown hkind))
  · rw [exec_frameSent hs hrequests]
    exact congrArg _ (State.onLnk_congr (Link.choose_answer ha))
  · rw [exec_frameSent hs hrequests]
    exact congrArg _ (State.onLnk_congr (Link.choose_notice ha hn))
  · rw [exec_frameSent hs hrequests]
    exact congrArg _ (State.onLnk_congr (Link.choose_none ha hn))
  · rw [exec_writeEnd good hs (Option.mem_def.mp hi)]
    exact congrArg (fun k => Host.Outcome.next { s with lnk := k }) (Link.start_takeNotice
      (k := { s.lnk with writing := none, store := some (i, good), storeValid := good }) hsending ha hn _)

end Sys2Proof.Machine
end

section
/-! PROOF of O60 BodiesAndFrames. -/

namespace Sys2Proof.Machine

/-! ### Fields read back (section 12.7) -/

theorem length_bytesBE (w v : Nat) : (bytesBE w v).length = w := by
  induction w with
  | zero => rfl
  | succ w ih => rw [bytesBE, List.length_cons, ih]

theorem length_field (w v : Nat) : (field w v).length = w := length_bytesBE ..

/-- What follows a number in the reading of bytes, high byte first. -/
theorem foldl_bytesBE (w v acc : Nat) :
    (bytesBE w v).foldl (fun v b => v * 256 + b.toNat) acc = acc * 256 ^ w + v % 256 ^ w := by
  induction w generalizing acc with
  | zero => simp [bytesBE, Nat.mod_one]
  | succ w ih =>
    have hbyte : (BitVec.ofNat 8 (v / 256 ^ w)).toNat = v / 256 ^ w % 256 := BitVec.toNat_ofNat ..
    rw [bytesBE, List.foldl_cons, ih, hbyte, Nat.mod_pow_succ, Nat.pow_succ]
    ring

theorem number_field {w v : Nat} (h : v < 256 ^ w) : number (field w v) = v := by
  rw [field, if_pos h, number, foldl_bytesBE, Nat.zero_mul, Nat.zero_add, Nat.mod_eq_of_lt h]

theorem length_fields (l : List (Nat × Nat)) : (fields l).length = layoutBytes l := by
  induction l with
  | nil => rfl
  | cons p l ih => simp [fields, layoutBytes, length_field, ih]

theorem numbers_fields {l : List (Nat × Nat)} (h : fieldsFit l = true) :
    numbers (l.map (·.1)) (fields l) = some (l.map (·.2)) := by
  induction l with
  | nil => rfl
  | cons p l ih =>
    obtain ⟨w, v⟩ := p
    obtain ⟨hv, hl⟩ : v < 256 ^ w ∧ fieldsFit l = true := by simpa [fieldsFit] using h
    have htake : (field w v ++ fields l).take w = field w v := List.take_left' (length_field ..)
    have hdrop : (field w v ++ fields l).drop w = fields l := List.drop_left' (length_field ..)
    have hle : w ≤ (field w v ++ fields l).length := by simp [length_field]
    rw [List.map_cons, fields, numbers, if_pos hle, htake, hdrop, ih hl, number_field hv]
    rfl

/-! ### Bodies read back -/

namespace Order

variable {o : Order}

theorem wellFormed_iff : o.wellFormed = true ↔ fieldsFit o.layout = true ∧ layoutBytes o.layout ≤ 120 := by
  simp [Order.wellFormed]

/-- The body reads as fields of its layout's widths. -/
theorem body_reads (widths : List Nat) (h : o.wellFormed = true) (hw : o.layout.map (·.1) = widths := by rfl) :
    numbers widths o.body = some (o.layout.map (·.2)) := hw ▸ numbers_fields (wellFormed_iff.mp h).1

/-- A body of one-byte fields alone reads byte by byte. -/
theorem body_reads_bytes (n : Nat) (h : o.wellFormed = true) (hw : o.layout.map (·.1) = List.replicate n 1 := by rfl) :
    numbers (List.replicate o.body.length 1) o.body = some (o.layout.map (·.2)) := by
  have hlen : o.body.length = n := by
    rw [Order.body, length_fields, layoutBytes, hw, List.sum_replicate, smul_eq_mul, Nat.mul_one]
  rw [hlen]
  exact body_reads _ h hw

end Order

theorem field_byte {v : Nat} (h : v < 256) : field 1 v = [BitVec.ofNat 8 v] := by
  simp [field, bytesBE, h]

theorem toNat_byte {v : Nat} (h : v < 256) : (BitVec.ofNat 8 v).toNat = v := by
  rw [BitVec.toNat_ofNat, Nat.mod_eq_of_lt h]

/-- The elements of a pattern, three numbers each, read back. -/
theorem elementsOf_flatMap (l : List ElementFields) :
    elementsOf ((l.flatMap fun e => [(1, e.kind), (1, e.tone), (1, e.length)]).map (·.2)) = l := by
  induction l with
  | nil => rfl
  | cons e l ih => exact congrArg (e :: ·) ih

theorem widths_flatMap (l : List ElementFields) :
    ((l.flatMap fun e => [(1, e.kind), (1, e.tone), (1, e.length)]).map (·.1)) = List.replicate (3 * l.length) 1 := by
  induction l with
  | nil => rfl
  | cons e l ih =>
    rw [List.flatMap_cons, List.map_append, ih, List.length_cons, show 3 * (l.length + 1) = 3 + 3 * l.length by ring,
      List.replicate_add]
    rfl

theorem parse_setPattern {n : Nat} {l : List ElementFields} (h : (Order.setPattern n l).wellFormed = true) :
    parseOrder (Order.setPattern n l).kind (Order.setPattern n l).body = some (.setPattern n l) := by
  obtain ⟨hfit, -⟩ := Order.wellFormed_iff.mp h
  obtain ⟨hn, hlen, hrest⟩ : n < 256 ∧ l.length < 256 ∧
      fieldsFit (l.flatMap fun e => [(1, e.kind), (1, e.tone), (1, e.length)]) = true := by
    simpa [fieldsFit, Order.layout] using hfit
  have hbody : (Order.setPattern n l).body = BitVec.ofNat 8 n :: BitVec.ofNat 8 l.length ::
      fields (l.flatMap fun e => [(1, e.kind), (1, e.tone), (1, e.length)]) := by
    rw [Order.body, Order.layout, List.cons_append, List.cons_append, fields, fields, field_byte hn, field_byte hlen]
    rfl
  have hnumbers := numbers_fields hrest
  rw [widths_flatMap] at hnumbers
  rw [hbody]
  unfold parseOrder parseCalls parsePattern
  dsimp only [Order.kind]
  rw [toNat_byte hlen, toNat_byte hn, hnumbers]
  simp [elementsOf_flatMap]

theorem widths_entries (l : List Nat) : (l.flatMap fun e => [(1, e)]).map (·.1) = List.replicate l.length 1 := by
  induction l with
  | nil => rfl
  | cons e l ih => exact congrArg (1 :: ·) ih

theorem values_entries (l : List Nat) : (l.flatMap fun e => [(1, e)]).map (·.2) = l := by
  induction l with
  | nil => rfl
  | cons e l ih => exact congrArg (e :: ·) ih

theorem parse_loadDutyList {t start : Nat} {l : List Nat} (h : (Order.loadDutyList t start l).wellFormed = true) :
    parseOrder (Order.loadDutyList t start l).kind (Order.loadDutyList t start l).body = some (.loadDutyList t start l) := by
  obtain ⟨hfit, -⟩ := Order.wellFormed_iff.mp h
  obtain ⟨ht, hs, hlen, hrest⟩ : t < 256 ∧ start < 256 ∧ l.length < 256 ∧ fieldsFit (l.flatMap fun e => [(1, e)]) = true := by
    simpa [fieldsFit, Order.layout] using hfit
  have hbody : (Order.loadDutyList t start l).body = BitVec.ofNat 8 t :: BitVec.ofNat 8 start :: BitVec.ofNat 8 l.length ::
      fields (l.flatMap fun e => [(1, e)]) := by
    rw [Order.body, Order.layout, List.cons_append, List.cons_append, List.cons_append, fields, fields, fields, field_byte ht,
      field_byte hs, field_byte hlen]
    rfl
  have hnumbers := numbers_fields hrest
  rw [widths_entries, values_entries] at hnumbers
  rw [hbody]
  unfold parseOrder parseCalls parseDutyList
  dsimp only [Order.kind]
  rw [toNat_byte hlen, toNat_byte ht, toNat_byte hs, hnumbers]
  rfl

theorem flagOf_code (b : Bool) : flagOf (if b then 1 else 0) = some b := by cases b <;> rfl

/-- The body of every well-formed order reads back as the order. -/
theorem parseOrder_body {o : Order} (h : o.wellFormed = true) : parseOrder o.kind o.body = some o := by
  cases o with
  | readStatus | commitConfiguration | serviceReset | runChain | haltChain | homeChain | resetChainTrip | startClosing
  | startOpening | skipFloor | abortProgramme | readProgramme | acknowledgeFire | silence | resetFire => rfl
  | stopChain m =>
    unfold parseOrder parseChain
    rw [Order.body_reads [2] h]
    rfl
  | setChainGeometry g =>
    unfold parseOrder parseChain
    rw [Order.body_reads [1, 2, 2, 1, 1, 1] h]
    rfl
  | setLanding n f =>
    unfold parseOrder parseChain
    rw [Order.body_reads [1, 1, 1, 1, 2] h (by cases f <;> rfl)]
    cases f <;> rfl
  | setChainTiming t =>
    unfold parseOrder parseChain
    rw [Order.body_reads [2, 2, 2, 1, 1, 1, 1, 1, 2, 1] h]
    rfl
  | readClearance p =>
    unfold parseOrder parseChain
    rw [Order.body_reads [1] h]
    rfl
  | setShutter n f =>
    unfold parseOrder parseFloors
    rw [Order.body_reads [1, 1, 1, 1, 1, 1, 1, 1, 1, 1, 2] h (by cases f <;> rfl)]
    cases f <;> rfl
  | dropShutter _ | forceDrop _ | raiseShutter _ | clearShutterFault _ | readShutter _ | readSupply _ =>
    unfold parseOrder parseFloors
    rw [Order.body_reads_bytes 1 h]
    rfl
  | setFloorState _ _ | readFloor _ _ =>
    unfold parseOrder parseFloors
    rw [Order.body_reads_bytes 2 h]
    rfl
  | setSupplyGroup g c t =>
    unfold parseOrder parseFloors
    rw [Order.body_reads_bytes 3 h]
    rfl
  | setFloor f z a b =>
    unfold parseOrder parseFloors
    rw [Order.body_reads_bytes 4 h]
    rfl
  | setPattern n l => exact parse_setPattern h
  | loadDutyList t start l => exact parse_loadDutyList h
  | cancelCall n =>
    unfold parseOrder parseCalls
    rw [Order.body_reads [2] h]
    rfl
  | setCallTiming f =>
    unfold parseOrder parseCalls
    rw [Order.body_reads [1, 1, 2, 1] h]
    rfl
  | readSounder _ | readCalls _ =>
    unfold parseOrder parseCalls
    rw [Order.body_reads_bytes 1 h]
    rfl
  | placeCall _ _ | setTeam _ _ | setStaff _ _ =>
    unfold parseOrder parseCalls
    rw [Order.body_reads_bytes 2 h]
    rfl
  | sound p z r =>
    unfold parseOrder parseCalls
    rw [Order.body_reads_bytes 3 h]
    rfl
  | setDuty m on =>
    unfold parseOrder parseCalls
    rw [Order.body_reads_bytes 2 h]
    exact congrArg (Option.map fun b => Order.setDuty m b) (flagOf_code on)
  | setStation n f =>
    unfold parseOrder parseCalls
    rw [Order.body_reads_bytes 8 h (by cases f <;> rfl)]
    cases f <;> rfl
  | setTime t d =>
    unfold parseOrder parseClock
    rw [Order.body_reads [3, 1] h]
    rfl
  | setCue n f =>
    unfold parseOrder parseClock
    rw [Order.body_reads [1, 1, 3, 1, 1, 1, 1, 1, 1] h]
    exact congrArg (Option.map fun on => Order.setCue n { f with enabled := on }) (flagOf_code f.enabled)
  | readClock p =>
    unfold parseOrder parseClock
    rw [Order.body_reads [1] h]
    rfl
  | setProgramme f =>
    unfold parseOrder parseClock
    rw [Order.body_reads [1, 1, 1, 1, 1, 2, 2, 2, 2, 2, 1] h]
    rfl
  | setFireResponse f =>
    unfold parseOrder parseFire
    rw [Order.body_reads [1, 1, 1, 2, 2] h]
    rfl
  | setDetectorInput n f =>
    unfold parseOrder parseFire
    rw [Order.body_reads_bytes 6 h (by cases f <;> rfl)]
    cases f <;> rfl
  | setFireZone _ _ | setNode _ _ =>
    unfold parseOrder parseFire
    rw [Order.body_reads_bytes 2 h]
    rfl
  | readFire _ | readNode _ =>
    unfold parseOrder parseFire
    rw [Order.body_reads_bytes 1 h]
    rfl

/-! ### Frames received byte by byte (R183) -/

theorem feed_cons {b : Byte} {l : List Byte} {s t : State} (h : exec (.receiveByte b false) s = .next t) :
    feed (b :: l) s = feed l t := by
  rw [feed, h]

theorem feed_last (b : Byte) (s : State) : feed [b] s = exec (.receiveByte b false) s := by
  rw [feed]
  cases exec (.receiveByte b false) s <;> rfl

theorem State.receiving_same {s : State} {a : Assembler} (h : s.lnk.assembler = a) : s.receiving a = s := by
  subst h
  rfl

/-- The bytes of a frame before its last are gathered. -/
theorem feed_collect {n : Nat} {acc l rest : List Byte} {s : State} (hs : s.quiet = true) (hlen : acc.length + l.length < n + 2) :
    feed (l ++ rest) (s.receiving (.collect n acc)) = feed rest (s.receiving (.collect n (acc ++ l))) := by
  induction l generalizing acc with
  | nil => rw [List.nil_append, List.append_nil]
  | cons b l ih =>
    rw [List.length_cons] at hlen
    have hbyte := receive_collect (s := s.receiving (.collect n acc)) hs rfl (by omega) b
    refine (feed_cons hbyte).trans ((ih (acc := acc ++ [b]) ?_).trans ?_)
    · rw [List.length_append, List.length_singleton]
      omega
    · rw [List.append_assoc]
      rfl

/-- The bytes of a frame: sync, length, kind, tag, body and CRC. -/
theorem linkFrame_eq {kind tag : Nat} {body : List Byte} (h : body.length ≤ 120) : linkFrame kind tag body =
    0xA5#8 :: BitVec.ofNat 8 (body.length + 2) :: (BitVec.ofNat 8 kind :: BitVec.ofNat 8 tag :: body ++
      crcBytes (BitVec.ofNat 8 (body.length + 2) :: BitVec.ofNat 8 kind :: BitVec.ofNat 8 tag :: body)) := by
  unfold linkFrame
  rw [field_byte (by omega)]
  rfl

theorem crcBytes_eq (l : List Byte) : ∃ a b, crcBytes l = [a, b] := ⟨_, _, rfl⟩

theorem Order.kind_lt (o : Order) : o.kind < 256 := by
  have hkind := requestKind_kind o
  simp only [requestKind, inRange, Bool.or_eq_true, Bool.and_eq_true, decide_eq_true_eq] at hkind
  omega

/-- The frame of an order, received byte by byte in HUNT, is the order's arrival. -/
theorem feed_linkFrame {s : State} {tag : Nat} {o : Order} (hs : s.quiet = true) (hhunt : s.lnk.assembler = .hunt)
    (htag : tag < 256) (ho : o.wellFormed = true) : feed (linkFrame o.kind tag o.body) s = takeOrder tag o s := by
  have hlen : o.body.length ≤ 120 := (length_fields _).trans_le (Order.wellFormed_iff.mp ho).2
  have hn : (BitVec.ofNat 8 (o.body.length + 2)).toNat = o.body.length + 2 := toNat_byte (by omega)
  obtain ⟨c, d, hcrc⟩ := crcBytes_eq
    (BitVec.ofNat 8 (o.body.length + 2) :: BitVec.ofNat 8 o.kind :: BitVec.ofNat 8 tag :: o.body)
  set gathered := BitVec.ofNat 8 o.kind :: BitVec.ofNat 8 tag :: o.body ++ [c]
  have hsync : exec (.receiveByte 0xA5#8 false) s = .next (s.receiving .length) := receive_hunt hs hhunt _
  have hlength : exec (.receiveByte (BitVec.ofNat 8 (o.body.length + 2)) false) (s.receiving .length) =
      .next (s.receiving (.collect (o.body.length + 2) [])) := by
    rw [receive_length (s := s.receiving .length) hs rfl, hn, if_pos (by omega)]
    rfl
  have hgathered : gathered.length = o.body.length + 3 := by simp [gathered]
  have hlast : linkReceive d false (s.receiving (.collect (o.body.length + 2) gathered)) =
      linkArrive o.kind tag (some o) s := by
    rw [linkReceive_last (s := s.receiving (.collect (o.body.length + 2) gathered)) rfl (by rw [hgathered]), gatheredFrame_eq,
      if_pos (show [c] ++ [d] = _ from hcrc.symm), toNat_byte o.kind_lt, toNat_byte htag]
    dsimp only
    rw [parseOrder_body ho]
    exact congrArg _ (State.receiving_same hhunt)
  have hframe : linkFrame o.kind tag o.body =
      0xA5#8 :: BitVec.ofNat 8 (o.body.length + 2) :: (gathered ++ [d]) := by
    rw [linkFrame_eq hlen, hcrc]
    simp [gathered]
  calc feed (linkFrame o.kind tag o.body) s
      = feed (gathered ++ [d]) (s.receiving (.collect (o.body.length + 2) [])) := by
        rw [hframe, feed_cons hsync, feed_cons hlength]
    _ = exec (.receiveByte d false) (s.receiving (.collect (o.body.length + 2) gathered)) := by
        rw [feed_collect hs (by rw [hgathered, List.length_nil]; omega), feed_last, List.nil_append]
    _ = takeOrder tag o s := by
        refine congrArg settle (?_ : ownLnk (linkReceive d false) _ = ownLnk (linkArrive o.kind tag (some o)) s)
        rw [ownLnk, hlast]
        rfl

/-- Settles O60: the fields of a body read back one after another, and a frame's bytes gather to the order's arrival. -/
theorem bodiesAndFrames : Obligations.BodiesAndFrames := by
  refine ⟨fun o h => parseOrder_body h, fun s c tag o hs hhunt hc ho => ?_⟩
  obtain ⟨hagenda, hroom, -⟩ := s.ready_iff.mp hs
  obtain ⟨htag, hwell⟩ : tag < 256 ∧ o.wellFormed = true := by simpa [Instr.wellFormed, ho] using hc
  rw [exec_order ho]
  exact feed_linkFrame (s.quiet_iff.mpr ⟨hagenda, hroom⟩) hhunt htag hwell

end Sys2Proof.Machine
end

section
/-! PROOF of O51 PollSlot and O52 PollOutcomes. -/

namespace Sys2Proof.Machine

/-! ### The sets polled are in rising order (R173, R174) -/

theorem numbersWhere_pairwise {α : Type} (l : List α) (p : α → Bool) : (numbersWhere l p).Pairwise (· < ·) :=
  List.pairwise_lt_range.filter _

theorem map_succ_pairwise {l : List Nat} (h : l.Pairwise (· < ·)) : (l.map (· + 1)).Pairwise (· < ·) :=
  List.pairwise_map.mpr (h.imp fun hlt => Nat.succ_lt_succ hlt)

theorem State.motionSet_pairwise (s : State) : s.motionSet.Pairwise (· < ·) :=
  (map_succ_pairwise List.pairwise_lt_range).filter _

theorem Loop.configuredSet_pairwise (f : Loop) : f.configuredSet.Pairwise (· < ·) :=
  map_succ_pairwise (numbersWhere_pairwise ..)

/-- The cursor goes to the lowest member above the address held, or to the lowest of all (R174). -/
theorem nextAfter_eq {held : Option Nat} {set : List Nat} {a : Nat} (hset : set.Pairwise (· < ·)) (ha : a ∈ set)
    (h : (held.getD 0 < a ∧ ∀ b ∈ set, held.getD 0 < b → a ≤ b) ∨ ((∀ b ∈ set, b ≤ held.getD 0) ∧ ∀ b ∈ set, a ≤ b)) :
    nextAfter held set = some a := by
  obtain ⟨before, after, rfl⟩ := List.append_of_mem ha
  have hbefore (b : Nat) (hb : b ∈ before) : b < a :=
    (List.pairwise_append.mp hset).2.2 b hb a (List.mem_cons_self ..)
  rcases h with ⟨habove, hleast⟩ | ⟨hnone, hleast⟩
  · have hfind : (before ++ a :: after).find? (fun b => decide (held.getD 0 < b)) = some a := by
      refine List.find?_eq_some_iff_append.mpr ⟨by simpa using habove, before, after, rfl, fun b hb => ?_⟩
      have hle : b ≤ held.getD 0 := Nat.not_lt.mp fun hlt =>
        absurd (hbefore b hb) (Nat.not_lt.mpr (hleast b (List.mem_append_left _ hb) hlt))
      simpa using hle
    rw [nextAfter, hfind]
    rfl
  · have hfind : (before ++ a :: after).find? (fun b => decide (held.getD 0 < b)) = none :=
      List.find?_eq_none.mpr fun b hb => by simpa using hnone b hb
    have hfirst : before = [] := List.eq_nil_iff_forall_not_mem.mpr fun b hb =>
      absurd (hbefore b hb) (Nat.not_lt.mpr (hleast b (List.mem_append_left _ hb)))
    rw [nextAfter, hfind, hfirst]
    rfl

/-! ### The slot (R174, R179) -/

/-- A slot of the motion cursor (R173). -/
def State.motionTurn (s : State) : Bool := s.flp.phase == 3 && !s.motionSet.isEmpty

theorem loopSlot_motion {s : State} {a : Nat} (h : s.motionTurn = true) (ha : nextAfter s.flp.motion s.motionSet = some a) :
    loopSlot s = s.onFlp fun u =>
      { u with motion := some a, polled := some a, phase := u.phase % 3 + 1, frame := s.pollFrame a } := by
  have hturn : (decide (s.flp.phase = 3) && !s.motionSet.isEmpty) = true := by simpa [State.motionTurn] using h
  unfold loopSlot
  dsimp only
  rw [if_pos hturn, ha]
  rfl

theorem loopSlot_ordinary {s : State} (h : s.motionTurn = false) : loopSlot s =
    let a := nextAfter s.flp.ordinary s.flp.configuredSet
    s.onFlp fun u =>
      { u with ordinary := a.or u.ordinary, polled := a, phase := u.phase % 3 + 1, frame := (a.map s.pollFrame).getD u.frame } := by
  have hturn : ¬(decide (s.flp.phase = 3) && !s.motionSet.isEmpty) = true := by
    rw [State.motionTurn, ← Bool.not_eq_true] at h
    simpa using h
  unfold loopSlot
  dsimp only
  rw [if_neg hturn]
  rfl

/-- Settles O51: the slot's cursor is the motion cursor or the ordinary one, and its next address the one the rule names. -/
theorem pollSlot : Obligations.PollSlot := by
  intro s hs
  cases hturn : s.motionTurn with
  | true =>
    have hif : (s.flp.phase == 3 && !s.motionSet.isEmpty) = true := hturn
    have hsome : s.motionSet ≠ [] := by
      simp only [State.motionTurn, Bool.and_eq_true, Bool.not_eq_true', List.isEmpty_eq_false_iff] at hturn
      exact hturn.2
    simp only [hif, if_true]
    refine ⟨fun hnone => absurd hnone hsome, fun a ha h => ?_⟩
    exact settle_event_silent (b := .flp) hs (loopSlot_motion hturn (nextAfter_eq s.motionSet_pairwise ha h))
  | false =>
    have hif : (s.flp.phase == 3 && !s.motionSet.isEmpty) = false := hturn
    have hslot := loopSlot_ordinary hturn
    simp only [hif, Bool.false_eq_true, if_false]
    refine ⟨fun hnone => ?_, fun a ha h => ?_⟩
    · rw [hnone] at hslot
      exact settle_event_silent (b := .flp) hs hslot
    · rw [nextAfter_eq s.flp.configuredSet_pairwise ha h] at hslot
      exact settle_event_silent (b := .flp) hs hslot

/-! ### Replies (R175, R177) -/

theorem presentWhere_eq_nil {α : Type} {l : List (Option α)} {p : α → Bool} (h : ∀ n r, present? l n = some r → p r = false) :
    presentWhere l p = [] :=
  List.eq_nil_iff_forall_not_mem.mpr fun n hn => by
    obtain ⟨r, hr, hp⟩ := mem_presentWhere.mp hn
    exact Bool.false_ne_true ((h n r hr).symm.trans hp)

theorem Loop.node?_iff {f : Loop} {a : Nat} {n : Node} :
    f.node? a = some n ↔ a ≠ 0 ∧ f.nodes[a - 1]? = some (some n) := by
  unfold Loop.node?
  by_cases h : a = 0
  · simp [h]
  · simp [h, present?_eq_some]

theorem Loop.mapNode_eq_set {f : Loop} {a : Nat} {n : Node} (h : f.node? a = some n) (g : Node → Node) :
    f.mapNode a g = { f with nodes := f.nodes.set (a - 1) (some (g n)) } := by
  obtain ⟨ha, hn⟩ := Loop.node?_iff.mp h
  rw [Loop.mapNode, if_neg ha, modify_eq_set hn]
  rfl

theorem at?_mem {t : Shutters} {node slot k : Nat} (h : t.at? node slot = some k) :
    ∃ r, t.get? k = some r ∧ r.config.node = node := by
  obtain ⟨r, hr, hp⟩ := mem_presentWhere.mp (List.mem_of_head? h)
  exact ⟨r, hr, by simpa using (Bool.and_eq_true_iff.mp hp).1⟩

theorem shutterPlaceMsgs_of_seen {s : State} {a : Nat}
    (h : ∀ k r, s.sht.get? k = some r → r.config.node = a → r.state ≠ .unseen) (slot : Nat) (i : Image) :
    shutterPlaceMsgs s a slot i = [] := by
  unfold shutterPlaceMsgs
  cases hat : s.sht.at? a slot with
  | none => rfl
  | some k =>
    obtain ⟨r, hr, hnode⟩ := at?_mem hat
    simp [hr, h k r hr hnode]

/-- An image that repeats hands nothing on where every shutter of the node is placed. -/
theorem changeMsgs_same {s : State} {a : Nat} {n : Node} {i : Image} (hi : n.image = some i)
    (h : ∀ k r, s.sht.get? k = some r → r.config.node = a → r.state ≠ .unseen) : changeMsgs s a n i = [] := by
  unfold changeMsgs
  rw [hi]
  cases n.kind with
  | shutter => simp [shutterChangeMsgs, shutterPlaceMsgs_of_seen h]
  | station => simp [stationMsgs]
  | detector => simp [detectorMsgs]

/-- A station's image without a fresh press hands nothing on. -/
theorem stationMsgs_unpressed {a : Nat} {old new : Byte} (h : ∀ k < 5, new.getLsbD k = true → old.getLsbD k = true) :
    stationMsgs a old new = [] := by
  have hpressed (k : Nat) (hk : k < 5) : (new.getLsbD k && !old.getLsbD k) = false := by
    cases hnew : new.getLsbD k with
    | false => rfl
    | true => simp [h k hk hnew]
  have hnone : ((List.range 4).filter fun k => new.getLsbD k && !old.getLsbD k) = [] :=
    List.filter_eq_nil_iff.mpr fun k hk => by
      rw [hpressed k ((List.mem_range.mp hk).trans (by decide))]
      decide
  unfold stationMsgs
  dsimp only
  rw [hnone, if_neg (Bool.eq_false_iff.mp (hpressed 4 (by decide)))]
  rfl

/-- The part with the image of a good reply kept. -/
def State.imaged (s : State) (a : Nat) (n : Node) (i : Image) : State :=
  s.onFlp fun f =>
    { f with nodes := f.nodes.set (a - 1) (some { n with state := .present, misses := 0, image := some i }), polled := none }

theorem loopReply_good {s : State} {address in0 in1 crc : Byte} {n : Node} (hpolled : s.flp.polled = some address.toNat)
    (hcrc : crc = crc8 [address, in0, in1]) (hn : s.flp.node? address.toNat = some n) :
    loopReply address in0 in1 ⟨crc, true⟩ s = (s.imaged address.toNat n ⟨in0, in1⟩).post
      (if n.state = .present then changeMsgs s address.toNat n ⟨in0, in1⟩
        else firstImageMsgs s address.toNat n ⟨in0, in1⟩ ++
          [.lnk (.notice (.nodeFound address.toNat n.kind n.state))]) := by
  have hgood : (decide (s.flp.polled = some address.toNat) && crc == crc8 [address, in0, in1]) = true := by
    simp [hpolled, hcrc]
  unfold loopReply
  dsimp only
  rw [hgood, hn]
  refine congrArg (State.post · _) (State.onFlp_congr ?_)
  rw [Loop.mapNode_eq_set hn]

theorem loopReply_bad {s : State} {address in0 in1 crc : Byte}
    (h : s.flp.polled ≠ some address.toNat ∨ crc ≠ crc8 [address, in0, in1]) :
    loopReply address in0 in1 ⟨crc, true⟩ s = loopMissed s := by
  have hbad : (decide (s.flp.polled = some address.toNat) && crc == crc8 [address, in0, in1]) = false := by
    rcases h with h | h <;> simp [h]
  unfold loopReply
  dsimp only
  rw [hbad]
  rfl

/-! ### Misses (R176) -/

theorem loopMissed_idle {s : State} (h : s.flp.polled = none) : loopMissed s = s := by
  unfold loopMissed
  rw [h]
  exact (State.onFlp_congr (g := id) (by simp [← h])).trans rfl

/-- The part with a missed poll counted. -/
def State.missed (s : State) (a : Nat) (n : Node) : State :=
  s.onFlp fun f => { f with nodes := f.nodes.set (a - 1) (some n), polled := none }

theorem loopMissed_counted {s : State} {a : Nat} {n : Node} (hpolled : s.flp.polled = some a) (hn : s.flp.node? a = some n)
    (h : n.state = .lost ∨ n.misses < 2) : loopMissed s = s.missed a { n with misses := min 3 (n.misses + 1) } := by
  have hnot : (n.state != .lost && decide (2 ≤ n.misses)) = false := by
    rcases h with h | h
    · simp [h]
    · simp [Nat.not_le.mpr h]
  unfold loopMissed
  rw [hpolled, Option.bind_some, hn]
  dsimp only [Option.map_some]
  rw [hnot, if_neg Bool.false_ne_true]
  refine State.onFlp_congr ?_
  rw [Loop.mapNode_eq_set hn]
  rfl

theorem loopMissed_lost {s : State} {a : Nat} {n : Node} (hpolled : s.flp.polled = some a) (hn : s.flp.node? a = some n)
    (hstate : n.state ≠ .lost) (hmisses : 2 ≤ n.misses) : loopMissed s =
      (s.missed a { n with misses := 3, state := .lost }).post
        (lostMsgs s a n.kind ++ [.lnk (.notice (.nodeLost a n.kind))]) := by
  have hlost : (n.state != .lost && decide (2 ≤ n.misses)) = true := by simp [hstate, hmisses]
  have hcount : min 3 (n.misses + 1) = 3 := by omega
  unfold loopMissed
  rw [hpolled, Option.bind_some, hn]
  dsimp only [Option.map_some]
  rw [hlost]
  refine congrArg (State.post · _) (State.onFlp_congr ?_)
  rw [Loop.mapNode_eq_set hn, hcount]
  rfl

theorem callStationLost_none {s : State} {a : Nat} (h : ∀ k st, s.cal.station? k = some st → st.config.node ≠ a) :
    callStationLost a s = s := by
  have hnone : presentWhere s.cal.stations (fun st => st.config.node == a) = [] :=
    presentWhere_eq_nil fun k st hst => beq_eq_false_iff_ne.mpr (h k st hst)
  unfold callStationLost
  rw [hnone]
  exact State.post_nil s

theorem fireNodeLost_none {s : State} {a : Nat} (h : ∀ k d, s.fir.input? k = some d → d.config.node ≠ a) :
    fireNodeLost a s = s := by
  have hnone : presentWhere s.fir.inputs (fun d => d.config.node == a) = [] :=
    presentWhere_eq_nil fun k d hd => beq_eq_false_iff_ne.mpr (h k d hd)
  rw [fireNodeLost, hnone]
  rfl

theorem any_present_false {α : Type} {l : List (Option α)} {p : α → Bool} (h : (l.any fun o => o.any p) = false) {k : Nat}
    {r : α} (hr : present? l k = some r) : p r = false := by
  have hmem := List.mem_of_getElem? (present?_eq_some.mp hr)
  simpa using List.any_eq_false.mp h _ hmem

/-- The owners of a node that no item names have nothing to do when it is LOST. -/
theorem Does.lostMsgs_unnamed {u : State} {a : Nat} (h : nodeNamed u a = false) (kind : NodeKind) :
    ∃ n < 2, Does n (lostMsgs u a kind) u u := by
  obtain ⟨⟨hshutters, hstations⟩, hinputs⟩ : ((u.sht.table.any fun o => o.any fun r => r.config.node == a) = false ∧
      (u.cal.stations.any fun o => o.any fun r => r.config.node == a) = false) ∧
      (u.fir.inputs.any fun o => o.any fun r => r.config.node == a) = false := by
    rw [nodeNamed, Bool.or_eq_false_iff, Bool.or_eq_false_iff] at h
    exact h
  cases kind with
  | shutter =>
    have hnone : lostMsgs u a .shutter = [] := by
      rw [lostMsgs, presentWhere_eq_nil fun k r hr => any_present_false hshutters hr]
      rfl
    exact ⟨0, by decide, hnone ▸ .nil u⟩
  | station =>
    exact ⟨1, by decide, .cal_same fun q => callStationLost_none (s := u.during q []) fun k st hst =>
      beq_eq_false_iff_ne.mp (any_present_false hstations hst)⟩
  | detector =>
    exact ⟨1, by decide, .fir_same fun q => fireNodeLost_none (s := u.during q []) fun k d hd =>
      beq_eq_false_iff_ne.mp (any_present_false hinputs hd)⟩

/-- Settles O52: a reply is discarded, counted as a miss or kept, and a miss is counted or loses the node. -/
theorem pollOutcomes : Obligations.PollOutcomes := by
  refine ⟨fun s address in0 in1 crc hs => ⟨?late, fun h => ?idle, fun h => ?bad, fun hpolled hcrc n hn => ?good⟩,
    fun s hs h => settle_event_same .flp hs (loopMissed_idle h), fun s a hs hpolled n hn => ⟨fun h => ?counted,
    fun hstate hmisses hnamed => ?lost⟩⟩
  case late => exact settle_event_same .flp hs rfl
  case idle =>
    have hbad := loopReply_bad (s := s) (address := address) (in0 := in0) (in1 := in1) (crc := crc) (Or.inl (by simp [h]))
    exact settle_event_same .flp hs (hbad.trans (loopMissed_idle h))
  case bad =>
    refine congrArg settle (?_ : ownFlp (loopReply address in0 in1 ⟨crc, true⟩) s = ownFlp loopMissed s)
    rw [ownFlp, ownFlp, loopReply_bad h]
  case good =>
    have hreply := loopReply_good hpolled hcrc (Option.mem_def.mp hn)
    refine ⟨fun hpresent himage hseen => ?_, fun hpresent hkind hpresses => ?_, fun habsent hkind => ?_⟩
    · have hnone : changeMsgs s address.toNat n ⟨in0, in1⟩ = [] := changeMsgs_same himage fun k r hr =>
        hseen k (List.getElem?_eq_some_iff.mp (present?_eq_some.mp hr)).1 r hr
      rw [if_pos hpresent, hnone] at hreply
      exact settle_event (b := .flp) hs hreply (.nil _)
    · have hnone : changeMsgs s address.toNat n ⟨in0, in1⟩ = [] := by
        unfold changeMsgs
        rw [hkind]
        refine stationMsgs_unpressed fun k hk hnew => ?_
        obtain ⟨i, hi, hold⟩ := hpresses k hk hnew
        rw [Option.mem_def.mp hi]
        exact hold
      rw [if_pos hpresent, hnone] at hreply
      exact settle_event (b := .flp) hs hreply (.nil _)
    · have hnone : firstImageMsgs s address.toNat n ⟨in0, in1⟩ = [] := by
        unfold firstImageMsgs
        rw [hkind]
      rw [if_neg habsent, hnone, hkind] at hreply
      exact settle_event (b := .flp) hs hreply (.notice _ _)
  case counted => exact settle_event_silent (b := .flp) hs (loopMissed_counted hpolled hn h)
  case lost =>
    obtain ⟨k, hk, hdoes⟩ := Does.lostMsgs_unnamed (u := s.missed a { n with misses := 3, state := .lost }) hnamed n.kind
    exact settle_event (b := .flp) hs (loopMissed_lost hpolled hn hstate hmisses) (hdoes.append (.notice _ _))
      (hn := by omega)

end Sys2Proof.Machine
end

section
/-! SUPPORT. Events that a part without calls, without programme or without landing waits takes without effect; a floor's
entry to a state; the fire condition and its soundings. -/

namespace Sys2Proof.Machine

/-! ### The call dispatcher without calls, the programme unit without programme -/

namespace Does

variable {u : State}

theorem flush_none (h : u.cal.calls = []) (f : Nat) : Does 1 [.cal (.flush f)] u u :=
  cal_same fun q => by
    simp [callTake, callFlush, callCloseAll, h]

theorem withdrawSweep_none (h : u.cal.calls = []) (f : Nat) : Does 1 [.cal (.withdrawSweep f)] u u :=
  cal_same fun q => by
    simp [callTake, callWithdrawSweep, callCloseAll, h]

theorem fireChanged_none (h : u.cal.calls = []) (c : FireCondition) : Does 1 [.cal (.fireChanged c)] u u :=
  cal_same fun q => by
    simp [callTake, callFireChanged, h]

/-- Without programme a change of a floor's state is of no account (R152). -/
theorem floorReport_idle (h : u.prg.kind = .none) (f : Nat) (left entered : FloorState) :
    Does 1 [.prg (.floorReport f left entered)] u u :=
  prg_same fun q => by
    have hat (st : ProgrammeStep) : u.prg.isAt st = false := Programme.isAt_of_none h st
    simp [programmeTake, programmeFloorReport, hat]

end Does

/-! ### A floor's entry to a state (R80) -/

/-- The floor's record as it enters a state. -/
def Floor.entering (st : FloorState) (faulted : Option Nat) (r : Floor) : Floor :=
  { r with state := st, inStep := false
           confirmation := if st = .closing || st = .trading then none else r.confirmation
           faulted := faulted.getD r.faulted }

/-- What a floor's entry to a state hands on. -/
def floorMsgs (f : Nat) (left st : FloorState) (b : NoticeBody) : List Msg :=
  (if st = .securing || st = .shut || st = .fire then [Msg.cal (.flush f)] else []) ++
    (if left = .closing && (st = .swept || st = .trading) then [Msg.cal (.withdrawSweep f)] else []) ++
    [.lnk (.notice b), .prg (.floorReport f left st)]

theorem floorEnter_eq {f : Nat} {left : FloorState} {s : State} (h : s.flr.state? f = some left) (st : FloorState)
    (cause : FloorCause) (faulted : Option Nat) (declined : Option (List Nat))
    (notOpen : Option (List (Nat × ShutterState))) : floorEnter f st cause faulted declined notOpen s =
      (s.onFlr fun t => t.modify f (Floor.entering st faulted)).post (floorMsgs f left st
        (.floorState f left st cause (if cause = .secured || cause = .openFailed then faulted else none) declined notOpen)) := by
  unfold floorEnter
  rw [h]
  rfl

/-- Without calls and without programme only the notice is left of a floor's entry to a state. -/
theorem Does.floorMsgs {u : State} (hcalls : u.cal.calls = []) (hprg : u.prg.kind = .none) (f : Nat) (left st : FloorState)
    (b : NoticeBody) : ∃ n < 5, Does n (floorMsgs f left st b) u (u.noticed b) := by
  have hflush : ∃ n ≤ 1, Does n (if st = .securing || st = .shut || st = .fire then [Msg.cal (.flush f)] else []) u u := by
    split
    · exact ⟨1, le_rfl, .flush_none hcalls f⟩
    · exact ⟨0, Nat.zero_le _, .nil u⟩
  have hwithdraw : ∃ n ≤ 1, Does n (if left = .closing && (st = .swept || st = .trading) then
      [Msg.cal (.withdrawSweep f)] else []) u u := by
    split
    · exact ⟨1, le_rfl, .withdrawSweep_none hcalls f⟩
    · exact ⟨0, Nat.zero_le _, .nil u⟩
  obtain ⟨n, hn, hflush⟩ := hflush
  obtain ⟨k, hk, hwithdraw⟩ := hwithdraw
  exact ⟨n + k + (1 + 1), by omega,
    (hflush.append hwithdraw).append ((Does.notice u b).cons (.floorReport_idle (u := u.noticed b) hprg f left st))⟩

/-! ### The fire condition (R161, R168) -/

/-- Where the held set already is what it is to be, it stands. -/
theorem fireHold_same {s : State} (h : s.fir.heldWait = true ∨ heldSet s.chn s.fir.condition = s.fir.held) :
    fireHold s = s := by
  unfold fireHold
  dsimp only
  split
  · rfl
  · next hwait =>
    have hset := h.resolve_left hwait
    have hgain : (setMinus s.fir.held s.fir.held).isEmpty = true := by
      simp [setMinus, List.isEmpty_iff]
    rw [hset, hgain]
    rfl

/-- A held set that comes to be empty gains nothing. -/
theorem fireHold_empty {s : State} (hset : heldSet s.chn s.fir.condition = []) (hwait : s.fir.heldWait = false) :
    fireHold s = s.onFir fun f => { f with held := [] } := by
  unfold fireHold
  dsimp only
  rw [hset]
  exact (if_neg (by rw [hwait]; decide)).trans rfl

/-- The condition changes, other than at a departure from NORMAL. -/
theorem fireCondition_on {s : State} {entered : FireCondition} (hleft : s.fir.condition ≠ .normal)
    (h : s.fir.heldWait = true ∨ heldSet s.chn entered = s.fir.held) : fireCondition entered s =
      (s.onFir fun f => { f with condition := entered }).post [.chn (.fireChanged false), .cal (.fireChanged entered),
        .lnk (.notice (.fireCondition s.fir.condition entered))] := by
  have hflag : (s.fir.condition == .normal) = false := beq_eq_false_iff_ne.mpr hleft
  unfold fireCondition
  dsimp only
  rw [hflag, if_neg hleft, List.append_nil]
  exact fireHold_same (s := (s.onFir fun f => { f with condition := entered }).post _) h

theorem Does.chainFireChanged (u : State) : Does 1 [.chn (.fireChanged false)] u u := .chn_same fun _ => rfl

theorem Does.condition {u : State} {entered : FireCondition} (hcalls : u.cal.calls = []) (hleft : u.fir.condition ≠ .normal)
    (h : u.fir.heldWait = true ∨ heldSet u.chn entered = u.fir.held) : Does (1 + (1 + 1 + 1)) [.fir (.condition entered)] u
      ((u.onFir fun f => { f with condition := entered }).noticed (.fireCondition u.fir.condition entered)) :=
  .fir (f := fun f => { f with condition := entered })
    (ms := [.chn (.fireChanged false), .cal (.fireChanged entered), .lnk (.notice (.fireCondition u.fir.condition entered))])
    (fun q => fireCondition_on (s := u.during q []) hleft h)
    (((Does.chainFireChanged _).cons (.fireChanged_none (u := u.onFir fun f => { f with condition := entered }) hcalls
      entered)).append (.notice _ _))

theorem heldSet_of_condition {c : Chain} {condition : FireCondition} (h : condition ≠ .normal) :
    heldSet c condition = if c.cannotPark then c.clearance else [] := by
  have hflag : (condition != .normal) = true := bne_iff_ne.mpr h
  rw [heldSet, hflag, Bool.true_and]

/-! ### EVACUATE on every zone (R98) -/

/-- EVACUATE sounds on the first `k` zones. -/
def Sounder.evacuatedTo (u : Sounder) (pattern k : Nat) : Sounder :=
  { u with
    playing := (u.playing.filter fun p => (List.range k).all fun z => !p.sounding.zones.contains z) ++
      (List.range k).map fun z =>
        u.begun { cls := .evacuate, pattern := pattern, zones := [z], repeats := none, origin := .fire
                  stamp := u.nextStamp + z, duration := 0 }
    nextStamp := u.nextStamp + k }

theorem Sounder.evacuatedTo_succ {u : Sounder} (h : ∀ p ∈ u.playing, p.sounding.cls = .alert) (pattern k : Nat) :
    (u.evacuatedTo pattern k).fireZone .evacuate pattern k = u.evacuatedTo pattern (k + 1) := by
  have hkeeps : (((u.evacuatedTo pattern k).holder? k).any fun p =>
      p.sounding.cls == .evacuate || (p.sounding.cls == .alert && SoundClass.evacuate == .alert)) = false := by
    cases hholder : (u.evacuatedTo pattern k).holder? k with
    | none => rfl
    | some p =>
      have hzone : k ∈ p.sounding.zones := by simpa using List.find?_some hholder
      rcases List.mem_append.mp (List.mem_of_find?_eq_some hholder) with hold | hnew
      · have hcls := h p (List.mem_filter.mp hold).1
        simp [hcls]
      · obtain ⟨z, hz, rfl⟩ := List.mem_map.mp hnew
        have hsame : k = z := by simpa [Sounder.begun] using hzone
        exact absurd (List.mem_range.mp hz) (by omega)
  have hnew : (((List.range k).map fun z => u.begun ⟨.evacuate, pattern, [z], none, .fire, u.nextStamp + z, 0⟩).filter fun p =>
      !p.sounding.zones.contains k) =
      (List.range k).map fun z => u.begun ⟨.evacuate, pattern, [z], none, .fire, u.nextStamp + z, 0⟩ := by
    refine List.filter_eq_self.mpr fun p hp => ?_
    obtain ⟨z, hz, rfl⟩ := List.mem_map.mp hp
    have hne : k ≠ z := (List.mem_range.mp hz).ne'
    simpa [Sounder.begun] using hne
  have hold : ((u.playing.filter fun p => (List.range k).all fun z => !p.sounding.zones.contains z).filter fun p =>
      !p.sounding.zones.contains k) =
      u.playing.filter fun p => (List.range (k + 1)).all fun z => !p.sounding.zones.contains z := by
    rw [List.filter_filter]
    refine List.filter_congr fun p _ => ?_
    rw [List.range_succ, List.all_append, Bool.and_comm]
    simp
  unfold Sounder.fireZone
  dsimp only
  rw [hkeeps, if_neg Bool.false_ne_true]
  unfold Sounder.evacuatedTo
  dsimp only
  rw [List.filter_append, hold, hnew, List.append_assoc, List.range_succ, List.map_append]
  rfl

theorem Sounder.foldl_fireZone {u : Sounder} (h : ∀ p ∈ u.playing, p.sounding.cls = .alert) (pattern k : Nat) :
    (List.range k).foldl (fun u z => u.fireZone .evacuate pattern z) u = u.evacuatedTo pattern k := by
  induction k with
  | zero => simp [Sounder.evacuatedTo]
  | succ k ih => rw [List.range_succ, List.foldl_append, ih, List.foldl_cons, List.foldl_nil, evacuatedTo_succ h]

theorem Sounder.evacuatedTo_all {u : Sounder} (h : ∀ p ∈ u.playing, ∃ z < 8, z ∈ p.sounding.zones) (pattern : Nat) :
    u.evacuatedTo pattern 8 = u.evacuated pattern := by
  have hnone : (u.playing.filter fun p => (List.range 8).all fun z => !p.sounding.zones.contains z) = [] := by
    refine List.filter_eq_nil_iff.mpr fun p hp hall => ?_
    obtain ⟨z, hz, hmem⟩ := h p hp
    simpa [hmem] using List.all_eq_true.mp hall z (List.mem_range.mpr hz)
  rw [Sounder.evacuatedTo, hnone]
  rfl

/-- EVACUATE ordered on every zone, where at most ALERT sounds. -/
theorem soundFireOrder_evacuate {s : State}
    (h : ∀ p ∈ s.snd.playing, p.sounding.cls = .alert ∧ ∃ z < 8, z ∈ p.sounding.zones) (pattern : Nat) :
    soundFireOrder .evacuate pattern allZones s = (s.onSnd fun u => u.evacuated pattern).post [.snd .startPass] := by
  have hwhich (p : Playing) (hp : p ∈ s.snd.playing) : (!p.sounding.cls.isFire && setsMeet p.sounding.zones allZones) = false := by
    rw [(h p hp).1]
    rfl
  have hhit : (s.snd.playing.filter fun p => !p.sounding.cls.isFire && setsMeet p.sounding.zones allZones) = [] :=
    List.filter_eq_nil_iff.mpr fun p hp => by simp [hwhich p hp]
  have hkeep : (s.snd.playing.filter fun p => !(!p.sounding.cls.isFire && setsMeet p.sounding.zones allZones)) =
      s.snd.playing := List.filter_eq_self.mpr fun p hp => by simp [hwhich p hp]
  have hpreempt : soundPreempt (fun p => !p.sounding.cls.isFire && setsMeet p.sounding.zones allZones) s =
      s.post [.snd .startPass] := by
    have hsame : (s.onSnd fun u => { u with
        playing := u.playing.filter fun p => !(!p.sounding.cls.isFire && setsMeet p.sounding.zones allZones) }) = s :=
      State.onSnd_congr (g := id) (by rw [hkeep]; rfl)
    unfold soundPreempt
    dsimp only
    rw [hhit, hsame]
    rfl
  unfold soundFireOrder
  rw [hpreempt]
  refine (State.onSnd_congr (s := s.post [.snd .startPass]) (g := fun u => u.evacuated pattern) ?_).trans rfl
  exact (Sounder.foldl_fireZone (fun p hp => (h p hp).1) pattern 8).trans (Sounder.evacuatedTo_all (fun p hp => (h p hp).2) _)

theorem Does.evacuate {u : State} (hq : u.snd.queue = [])
    (h : ∀ p ∈ u.snd.playing, p.sounding.cls = .alert ∧ ∃ z < 8, z ∈ p.sounding.zones) (pattern : Nat) :
    Does (1 + 1) [.snd (.fireOrder .evacuate pattern allZones)] u (u.onSnd fun v => v.evacuated pattern) :=
  .snd (f := fun v => v.evacuated pattern) (fun q => soundFireOrder_evacuate (s := u.during q []) h pattern) (.startPass_empty hq)

/-- The fire soundings end (R100). -/
theorem Does.endFire {u : State} (hq : u.snd.queue = []) : Does (1 + 1) [.snd .endFire] u
    (u.onSnd fun v => { v with playing := v.playing.filter fun p => !p.sounding.cls.isFire }) :=
  .snd (fun _ => rfl) (.startPass_empty hq)

end Sys2Proof.Machine
end

section
/-! PROOF of O49 FireTimers and O50 FireOrders. -/

namespace Sys2Proof.Machine

/-! ### Timers (R164, R165) -/

theorem fireDelayExpiry_running {s : State} (hcondition : s.fir.condition = .alerting)
    (htimer : s.fir.delayTimer.isRunning = true) : fireDelayExpiry s =
      (s.onFir fun f => { f with delayTimer := .stopped }).post [.fir (.condition .evacuating), .fir .resound] := by
  simp [fireDelayExpiry, hcondition, htimer]

theorem Does.resound_evacuating {u : State} (hcondition : u.fir.condition = .evacuating) (hq : u.snd.queue = [])
    (h : ∀ p ∈ u.snd.playing, p.sounding.cls = .alert ∧ ∃ z < 8, z ∈ p.sounding.zones) :
    Does (1 + (1 + 1)) [.fir .resound] u (u.onSnd fun v => v.evacuated u.fir.settings.evacuate) :=
  .fir (f := id) (ms := [.snd (.fireOrder .evacuate u.fir.settings.evacuate allZones)])
    (fun q => by
      have hnow : (u.during q []).fir.condition = .evacuating := hcondition
      simp only [fireTake, fireResound, evacuateMsg, hnow]
      rfl) (Does.evacuate (u := u) hq h _)

theorem heldSet_eq_held {s : State} {condition : FireCondition} (hcondition : condition ≠ .normal)
    (h : s.fir.held = if s.chn.cannotPark then s.chn.clearance else []) : heldSet s.chn condition = s.fir.held :=
  (heldSet_of_condition hcondition).trans h.symm

/-- Settles O49: a rise of the condition with its soundings, and the timers alone. -/
theorem fireTimers : Obligations.FireTimers := by
  refine ⟨fun s hs hcondition htimer hcalls hq hplaying hheld => ?_, fun s hs => ⟨fun h => ?_, fun h => ?_, fun h => ?_, fun h => ?_⟩⟩
  · have hchange : Does _ [.fir (.condition .evacuating)] (s.onFir fun f => { f with delayTimer := .stopped }) _ :=
      Does.condition (entered := .evacuating) hcalls (by simp [hcondition]) (.inr (heldSet_eq_held (by decide) hheld))
    have hall := hchange.cons (Does.resound_evacuating rfl hq hplaying)
    rw [← hcondition]
    exact settle_event (b := .fir) hs (fireDelayExpiry_running hcondition htimer) hall
  · exact settle_event (b := .fir) hs (if_pos h) (.notice _ _)
  · exact settle_event_silent (b := .fir) hs (if_pos h)
  · exact settle_event_same .fir hs (if_neg (Bool.eq_false_iff.mp h))
  · exact settle_event_same .fir hs (if_neg (Bool.eq_false_iff.mp h))

/-! ### ACKNOWLEDGE FIRE and SILENCE (R165, R166) -/

theorem exec_acknowledgeFire {s : State} (tag : Nat) (hs : s.ready = true) (h : s.fir.condition ≠ .normal) :
    exec (.acknowledgeFire tag) s = .next
      (if s.fir.ackTimer.isRunning then
        ((s.onFir fun r => { r with ackTimer := .stopped }).noticed .fireAcknowledged).answered tag .acknowledgeFire
          (.done false [])
      else s.answered tag .acknowledgeFire (.done false [])) := by
  have horder (u : State) (hu : u.fir = s.fir) : orderAcknowledgeFire u =
      if s.fir.ackTimer.isRunning then done ((u.onFir fun f => { f with ackTimer := .stopped }).notify .fireAcknowledged)
      else done u := by
    rw [orderAcknowledgeFire, hu, if_neg h]
  split
  · next hrunning =>
    exact exec_of_does rfl hs (fun hw => absurd hw Bool.false_ne_true)
      (fun q => (horder (s.during q []) rfl).trans (if_pos hrunning)) (.notice _ _)
  · next hstopped =>
    exact exec_unchanged rfl hs (fun hw => absurd hw Bool.false_ne_true)
      fun q => (horder (s.during q []) rfl).trans (if_neg hstopped)

theorem isFire_eq (c : SoundClass) : (!c.isFire) = decide (c ≠ .evacuate ∧ c ≠ .alert) := by cases c <;> rfl

theorem orderSilence_sounding {s : State} (h : s.fir.condition = .alerting ∨ s.fir.condition = .evacuating) :
    orderSilence s =
      done ((s.onFir fun f => { f with delayTimer := .stopped }).post [.snd .endFire, .fir (.condition .silenced)]) := by
  unfold orderSilence
  rcases h with h | h <;> rw [h]

theorem exec_silence {s : State} (tag : Nat) (hs : s.ready = true)
    (h : s.fir.condition = .alerting ∨ s.fir.condition = .evacuating) (hcalls : s.cal.calls = []) (hq : s.snd.queue = [])
    (hheld : s.fir.held = if s.chn.cannotPark then s.chn.clearance else []) :
    exec (.silence tag) s = .next
      ((((s.onFir fun r => { r with condition := .silenced, delayTimer := .stopped }).onSnd fun u =>
        { u with playing := u.playing.filter fun p => !p.sounding.cls.isFire }).noticed
        (.fireCondition s.fir.condition .silenced)).answered tag .silence (.done false [])) := by
  have hleft : s.fir.condition ≠ .normal := by rcases h with h | h <;> rw [h] <;> decide
  have hend := Does.endFire (u := s.onFir fun f => { f with delayTimer := .stopped }) hq
  have hchange := Does.condition (u := (s.onFir fun f => { f with delayTimer := .stopped }).onSnd fun u =>
    { u with playing := u.playing.filter fun p => !p.sounding.cls.isFire }) (entered := .silenced) hcalls hleft
    (.inr (heldSet_eq_held (by decide) hheld))
  refine exec_of_does rfl hs (fun hw => absurd hw Bool.false_ne_true) (fun q => ?_) (hend.cons hchange)
  exact orderSilence_sounding (s := s.during q []) h

/-! ### RESET FIRE (R167) -/

theorem Fire.alarmed_eq_nil {f : Fire} (h : ∀ n < f.inputs.length, ∀ d ∈ f.input? n, d.state ≠ .alarm) : f.alarmed = [] :=
  presentWhere_eq_nil fun n d hd => beq_eq_false_iff_ne.mpr
    (h n (List.getElem?_eq_some_iff.mp (present?_eq_some.mp hd)).1 d hd)

/-- The lowest input in ALARM is the first of the list. -/
theorem Fire.alarmed_eq_cons {f : Fire} {n : Nat} (hlow : ∀ k < n, ∀ d ∈ f.input? k, d.state ≠ .alarm)
    (hn : ∀ d ∈ f.input? n, d.state = .alarm) (hpresent : f.input? n ≠ none) : ∃ l, f.alarmed = n :: l := by
  obtain ⟨d, hd⟩ := Option.ne_none_iff_exists'.mp hpresent
  have hmem : n ∈ f.alarmed := mem_presentWhere.mpr ⟨d, hd, beq_iff_eq.mpr (hn d hd)⟩
  have hfirst : ∀ k ∈ f.alarmed, n ≤ k := fun k hk => by
    obtain ⟨e, he, halarm⟩ := mem_presentWhere.mp hk
    exact Nat.not_lt.mp fun hlt => hlow k hlt e he (beq_iff_eq.mp halarm)
  obtain ⟨before, after, heq⟩ := List.append_of_mem hmem
  have hsorted : f.alarmed.Pairwise (· < ·) := numbersWhere_pairwise ..
  cases before with
  | nil => exact ⟨after, heq⟩
  | cons k before =>
    rw [heq] at hsorted
    have hlt : k < n := (List.pairwise_append.mp hsorted).2.2 k (List.mem_cons_self ..) n (List.mem_cons_self ..)
    exact absurd (hfirst k (heq ▸ List.mem_append_left _ (List.mem_cons_self ..))) (Nat.not_le.mpr hlt)

/-- The floors of a list are released. -/
def Floors.released (t : Floors) (l : List Nat) : Floors :=
  l.foldl (fun t f => t.modify f (Floor.entering .shut none)) t

theorem Floors.released_get (t : Floors) {l : List Nat} (hl : l.Nodup) (n : Nat) : (t.released l).get? n =
    (t.get? n).map fun r => if n ∈ l then Floor.entering .shut none r else r := by
  induction l generalizing t with
  | nil => simp [Floors.released]
  | cons f l ih =>
    obtain ⟨hf, hl⟩ := List.nodup_cons.mp hl
    have hmodify : (t.modify f (Floor.entering .shut none)).get? n =
        (t.get? n).map fun r => if f = n then Floor.entering .shut none r else r := by
      rw [Floors.get?, Floors.modify, List.getElem?_modify]
      split <;> rfl
    refine (ih (t.modify f (Floor.entering .shut none)) hl).trans ?_
    rw [hmodify, Option.map_map]
    congr 1
    funext r
    by_cases hn : f = n
    · subst hn
      simp [hf]
    · simp [hn, Ne.symm hn]

/-- The notices of the floors released. -/
def State.releaseNotices (u : State) (l : List Nat) : State :=
  l.foldl (fun u f => u.noticed (.floorState f .fire .shut .fireReset none none none)) u

theorem State.releaseNotices_onFlr (u : State) (l : List Nat) (g : Floors → Floors) :
    (u.releaseNotices l).onFlr g = (u.onFlr g).releaseNotices l := by
  induction l generalizing u with
  | nil => rfl
  | cons f l ih => exact ih _

theorem State.releaseNotices_onFir (u : State) (l : List Nat) (g : Fire → Fire) :
    (u.releaseNotices l).onFir g = (u.onFir g).releaseNotices l := by
  induction l generalizing u with
  | nil => rfl
  | cons f l ih => exact ih _

theorem State.releaseNotices_frame (u : State) (l : List Nat) :
    u.releaseNotices l = { u with lnk := (u.releaseNotices l).lnk } := by
  induction l generalizing u with
  | nil => rfl
  | cons f l ih => exact ih _

theorem State.releaseNotices_snd (u : State) (l : List Nat) : (u.releaseNotices l).snd = u.snd := by
  rw [u.releaseNotices_frame l]

theorem State.releaseNotices_fir (u : State) (l : List Nat) : (u.releaseNotices l).fir = u.fir := by
  rw [u.releaseNotices_frame l]

theorem State.releaseNotices_cal (u : State) (l : List Nat) : (u.releaseNotices l).cal = u.cal := by
  rw [u.releaseNotices_frame l]

theorem floorRelease_eq {s : State} {f : Nat} (h : s.flr.isIn f .fire = true) : floorRelease f s =
    (s.onFlr fun t => t.modify f (Floor.entering .shut none)).post
      (floorMsgs f .fire .shut (.floorState f .fire .shut .fireReset none none none)) := by
  rw [floorRelease, if_pos h]
  exact floorEnter_eq (beq_iff_eq.mp h) ..

/-- The floors in FIRE are released one after another. -/
theorem Does.releases {u : State} (hcalls : u.cal.calls = []) (hprg : u.prg.kind = .none) {l : List Nat} (hl : l.Nodup)
    (hfire : ∀ f ∈ l, u.flr.isIn f .fire = true) :
    ∃ n ≤ 6 * l.length, Does n (l.map fun f => .flr (.release f)) u ((u.onFlr fun t => t.released l).releaseNotices l) := by
  induction l generalizing u with
  | nil => exact ⟨0, le_rfl, .nil u⟩
  | cons f l ih =>
    obtain ⟨hf, hl⟩ := List.nodup_cons.mp hl
    obtain ⟨hfirst, hrest⟩ := List.forall_mem_cons.mp hfire
    set v := (u.onFlr fun t => t.modify f (Floor.entering .shut none)).noticed
      (.floorState f .fire .shut .fireReset none none none)
    obtain ⟨n, hn, hmsgs⟩ := Does.floorMsgs (u := u.onFlr fun t => t.modify f (Floor.entering .shut none)) hcalls hprg f
      .fire .shut (.floorState f .fire .shut .fireReset none none none)
    have hone : Does (1 + n) [.flr (.release f)] u v := .flr (fun q => floorRelease_eq (s := u.during q []) hfirst) hmsgs
    have hkeep (g : Nat) (hg : g ∈ l) : v.flr.isIn g .fire = true := by
      have hne : f ≠ g := fun h => hf (h ▸ hg)
      have hget : v.flr.get? g = u.flr.get? g := by
        change (u.flr.table.modify f _)[g]? = u.flr.table[g]?
        simp [hne]
      rw [Floors.isIn, Floors.state?, hget]
      exact hrest g hg
    obtain ⟨k, hk, hothers⟩ := ih (u := v) hcalls hprg hl hkeep
    refine ⟨1 + n + k, ?_, hone.cons hothers⟩
    rw [List.length_cons]
    omega

theorem fireCondition_normal {s : State} (hleft : s.fir.condition ≠ .normal) (hwait : s.fir.heldWait = false) :
    fireCondition .normal s = (s.onFir fun f => { f with condition := .normal, held := [] }).post [.chn (.fireChanged false),
      .cal (.fireChanged .normal), .lnk (.notice (.fireCondition s.fir.condition .normal))] := by
  have hflag : (s.fir.condition == .normal) = false := beq_eq_false_iff_ne.mpr hleft
  unfold fireCondition
  dsimp only
  rw [hflag, if_neg hleft, List.append_nil]
  exact fireHold_empty (s := (s.onFir fun f => { f with condition := .normal }).post _) rfl hwait

theorem Does.condition_normal {u : State} (hcalls : u.cal.calls = []) (hleft : u.fir.condition ≠ .normal)
    (hwait : u.fir.heldWait = false) : Does (1 + (1 + 1 + 1)) [.fir (.condition .normal)] u
      ((u.onFir fun f => { f with condition := .normal, held := [] }).noticed (.fireCondition u.fir.condition .normal)) :=
  .fir (f := fun f => { f with condition := .normal, held := [] })
    (ms := [.chn (.fireChanged false), .cal (.fireChanged .normal), .lnk (.notice (.fireCondition u.fir.condition .normal))])
    (fun q => fireCondition_normal (s := u.during q []) hleft hwait)
    (((Does.chainFireChanged _).cons (.fireChanged_none
      (u := u.onFir fun f => { f with condition := .normal, held := [] }) hcalls .normal)).append (.notice _ _))

theorem orderResetFire_clear {s : State} (h : s.fir.condition ≠ .normal) (hclear : s.fir.alarmed = []) :
    orderResetFire s = done ((s.onFir fun f =>
      { f with delayTimer := .stopped, ackTimer := .stopped, zones := f.zones.mapIdx fun z r => f.resetZone z r }).post
      ([.snd .endFire] ++ (s.flr.inState .fire).map (fun f => Msg.flr (.release f)) ++
        [.fir (.condition .normal), .lnk (.notice (.fireReset s.fir.enteringFault))])) := by
  unfold orderResetFire
  rw [if_neg h, hclear]
  rfl

theorem Floors.released_fire {t : Floors} : t.released (t.inState .fire) =
    { table := t.table.map fun r => if r.state = .fire then { r with state := .shut, inStep := false } else r } := by
  have hnodup : (t.inState .fire).Nodup := (numbersWhere_pairwise ..).imp fun h => h.ne
  have hget (n : Nat) : (t.released (t.inState .fire)).table[n]? =
      (t.table.map fun r => if r.state = .fire then { r with state := .shut, inStep := false } else r)[n]? := by
    rw [List.getElem?_map]
    refine (Floors.released_get t hnodup n).trans ?_
    unfold Floors.get?
    cases hr : t.table[n]? with
    | none => rfl
    | some r =>
      have hmem : n ∈ t.inState .fire ↔ r.state = .fire := by
        rw [Floors.inState, mem_numbersWhere, hr]
        simp
      simp only [hmem]
      rfl
  exact congrArg Floors.mk (List.ext_getElem? hget)

theorem Fire.resetZone_eq (f : Fire) (z : Nat) (r : FireZone) : f.resetZone z r =
    if r.state = .alarm ∨ r.state = .confirming then
      { r with state := if f.inputs.any fun o => o.any fun d => d.config.zone == z && d.state == .fault then .fault else .normal
               confirmTimer := .stopped }
    else r := by
  unfold Fire.resetZone Fire.calm Fire.zoneHas
  by_cases h : r.state = .alarm ∨ r.state = .confirming
  · rw [if_pos h, if_pos (by simpa using h)]
  · rw [if_neg h, if_neg (by simpa using h)]

theorem Fire.enteringFault_eq (f : Fire) : f.enteringFault = (List.range f.zones.length).filter fun z =>
    (f.zones[z]?).any fun r => (r.state == .alarm || r.state == .confirming) &&
      f.inputs.any fun o => o.any fun d => d.config.zone == z && d.state == .fault := by
  refine List.filter_congr fun z _ => ?_
  congr 1
  funext r
  rw [Fire.resetZone_eq]
  by_cases h : r.state = .alarm ∨ r.state = .confirming
  · have hcheck : (r.state == .alarm || r.state == .confirming) = true := by simpa using h
    have hleft : (r.state != .fault) = true := by rcases h with h | h <;> rw [h] <;> rfl
    rw [if_pos h, hcheck, hleft]
    dsimp only
    split
    · next hfault => rw [hfault]; rfl
    · next hfault => rw [Bool.eq_false_iff.mpr hfault]; rfl
  · have hcheck : (r.state == .alarm || r.state == .confirming) = false := by simpa using h
    rw [if_neg h, hcheck]
    cases r.state <;> rfl

theorem exec_resetFire {s : State} (tag : Nat) (hs : s.ready = true) (h : s.fir.condition ≠ .normal)
    (hclear : s.fir.alarmed = []) (hlen : s.flr.table.length = 8) (hcalls : s.cal.calls = []) (hq : s.snd.queue = [])
    (hwait : s.fir.heldWait = false) (hprg : s.prg.kind = .none) :
    exec (.resetFire tag) s = .next
      ((((State.releaseNotices (((s.onSnd fun u => { u with
          playing := u.playing.filter fun p => !p.sounding.cls.isFire }).onFlr fun u => u.released (s.flr.inState .fire)).onFir
        fun u => { u with
          condition := .normal, delayTimer := .stopped, ackTimer := .stopped, held := []
          zones := u.zones.mapIdx fun z r => u.resetZone z r }) (s.flr.inState .fire)).noticed
        (.fireCondition s.fir.condition .normal)).noticed (.fireReset s.fir.enteringFault)).answered
        tag .resetFire (.done false [])) := by
  set l := s.flr.inState .fire with hl
  set v := (s.onFir fun f =>
    { f with delayTimer := .stopped, ackTimer := .stopped, zones := f.zones.mapIdx fun z r => f.resetZone z r })
  set w := v.onSnd fun u => { u with playing := u.playing.filter fun p => !p.sounding.cls.isFire }
  have hnodup : l.Nodup := (numbersWhere_pairwise ..).imp fun h => h.ne
  have hlength : l.length ≤ 8 := hlen ▸ (List.length_filter_le ..).trans_eq List.length_range
  have hfire (f : Nat) (hf : f ∈ l) : w.flr.isIn f .fire = true := by
    obtain ⟨r, hr, hstate⟩ := mem_numbersWhere.mp hf
    have hget : s.flr.get? f = some r := hr
    change (s.flr.state? f == some .fire) = true
    rw [Floors.state?, hget]
    simpa using hstate
  obtain ⟨n, hn, hreleases⟩ := Does.releases (u := w) hcalls hprg hnodup hfire
  set x := (w.onFlr fun t => t.released l).releaseNotices l
  have hxcal : x.cal.calls = [] := (congrArg Calls.calls (State.releaseNotices_cal ..)).trans hcalls
  have hxfir : x.fir = v.fir := State.releaseNotices_fir ..
  have hchange := Does.condition_normal (u := x) hxcal (by rw [hxfir]; exact h) (by rw [hxfir]; exact hwait)
  have hall := (((Does.endFire (u := v) hq).append hreleases).append (hchange.append (.notice _ (.fireReset s.fir.enteringFault))))
  set base := ((s.onSnd fun u => { u with
      playing := u.playing.filter fun p => !p.sounding.cls.isFire }).onFlr fun u => u.released l).onFir fun u => { u with
    condition := .normal, delayTimer := .stopped, ackTimer := .stopped, held := []
    zones := u.zones.mapIdx fun z r => u.resetZone z r }
  have hend : x.onFir (fun f => { f with condition := .normal, held := [] }) = base.releaseNotices l :=
    State.releaseNotices_onFir ..
  rw [hend, hxfir] at hall
  refine exec_of_does (v := v) rfl hs (fun hw => absurd hw Bool.false_ne_true) (fun q => ?_) hall (hroom := ?_) (hn := by omega)
  · exact orderResetFire_clear (s := s.during q []) h hclear
  · have hsnd := congrArg Sounder.roomDue (base.releaseNotices_snd l)
    exact hsnd

/-- Settles O50: what each order finds by the condition, and RESET FIRE floor by floor. -/
theorem fireOrders : Obligations.FireOrders := by
  intro s tag hs
  have hplain {p : Prop} (hw : false = true) : p := absurd hw Bool.false_ne_true
  refine ⟨fun h => ⟨?_, ?_, ?_⟩, fun h => exec_acknowledgeFire tag hs h, fun h => ?_, fun h hcalls hq hheld => ?_,
    fun h n hn hlow halarm hpresent => ?_, fun h hnone hlen hcalls hq hwait hprg => ?_⟩
  · exact exec_unchanged rfl hs hplain fun q => if_pos h
  · refine exec_unchanged rfl hs hplain fun q => ?_
    simp only [serveOrder, orderSilence, State.during_fir, h]
    rfl
  · exact exec_unchanged rfl hs hplain fun q => if_pos h
  · refine exec_unchanged rfl hs hplain fun q => ?_
    simp only [serveOrder, orderSilence, State.during_fir, h]
    rfl
  · simp only [← isFire_eq]
    exact exec_silence tag hs h hcalls hq hheld
  · refine exec_unchanged rfl hs hplain fun q => ?_
    obtain ⟨l, hl⟩ := Fire.alarmed_eq_cons hlow halarm hpresent
    simp only [serveOrder, orderResetFire, State.during_fir, h, hl]
    rfl
  · have hexec := exec_resetFire tag hs h (Fire.alarmed_eq_nil hnone) hlen hcalls hq hwait hprg
    simp only [isFire_eq, Fire.enteringFault_eq] at hexec
    refine hexec.trans (congrArg (fun u : State => Host.Outcome.next
      ((((u.releaseNotices (s.flr.inState .fire)).noticed _).noticed _).answered tag .resetFire (.done false []))) ?_)
    rw [State.onFlr_congr (s := s.onSnd _) (f := fun u => u.released (s.flr.inState .fire))
      (g := fun u => { table := u.table.map fun r =>
        if r.state = .fire then { r with state := .shut, inStep := false } else r }) Floors.released_fire]
    refine State.onFir_congr ?_
    simp only [Fire.resetZone_eq]
    rfl


end Sys2Proof.Machine
end

section
/-! PROOF of O41 SetFloorState. -/

namespace Sys2Proof.Machine

theorem Shutters.everyOf_iff (t : Shutters) (f : Nat) (p : Shutter → Bool) :
    (!t.everyOf f p) = true ↔ ∃ k < t.table.length, ∃ q ∈ t.get? k, q.config.floor = f ∧ p q = false := by
  rw [Bool.not_eq_true', ← Bool.not_eq_true, Shutters.everyOf]
  constructor
  · intro h
    by_contra hnone
    refine h (List.all_eq_true.mpr fun o ho => ?_)
    obtain ⟨k, hk, rfl⟩ := List.getElem_of_mem ho
    cases hq : t.table[k] with
    | none => rfl
    | some q =>
      have hget : t.get? k = some q := present?_eq_some.mpr (by rw [List.getElem?_eq_getElem hk, hq])
      by_contra hfalse
      refine hnone ⟨k, hk, q, hget, ?_⟩
      simpa using hfalse
  · rintro ⟨k, hk, q, hq, hfloor, hp⟩ hall
    have hmem : some q ∈ t.table := List.mem_of_getElem? (present?_eq_some.mp hq)
    have := List.all_eq_true.mp hall _ hmem
    simp [hfloor, hp] at this

/-- What bars a floor from the state wanted: a shutter of the floor that does not stand as the state needs it (R89). -/
theorem Shutters.bars_iff {t : Shutters} {f code : Nat} {wanted : FloorState} (h : floorStateOf code = some wanted) :
    (!(if wanted = .trading then t.allOpen f else t.allClosed f)) = true ↔
      ∃ k < t.table.length, ∃ q ∈ t.get? k, q.config.floor = f ∧
          (if code = 2 then q.state ≠ .opened else q.state ≠ .closed ∧ ¬(q.state = .fault ∧ q.observed = some .bottom)) := by
  unfold floorStateOf at h
  split at h
  · next hcode =>
    obtain rfl := Option.some.inj h
    refine (t.everyOf_iff f _).trans ?_
    simp [Shutter.countsClosed, hcode]
  · split at h
    · next hcode =>
      obtain rfl := Option.some.inj h
      refine (t.everyOf_iff f _).trans ?_
      simp [hcode]
    · cases h

theorem floorStateOf_eq {code : Nat} (h : code = 0 ∨ code = 2) :
    floorStateOf code = some (if code = 0 then .shut else .trading) := by
  rcases h with rfl | rfl <;> rfl

theorem floorStateOf_none {code : Nat} (h : code ≠ 0 ∧ code ≠ 2) : floorStateOf code = none := by
  rw [floorStateOf, if_neg h.1, if_neg h.2]

theorem orderSetFloorState_outOfRange {s : State} {f code : Nat}
    (h : s.flr.table[f]? = none ∨ (code ≠ 0 ∧ code ≠ 2)) : orderSetFloorState f code s = declined .outOfRange s := by
  unfold orderSetFloorState
  rcases h with h | h
  · have hstate : s.flr.state? f = none := by rw [Floors.state?, Floors.get?, h]; rfl
    rw [hstate]
  · rw [floorStateOf_none h]
    cases s.flr.state? f <;> rfl

theorem orderSetFloorState_inRange {s : State} {f code : Nat} {st wanted : FloorState} (hst : s.flr.state? f = some st)
    (hwanted : floorStateOf code = some wanted) : orderSetFloorState f code s =
      if s.prg.kind != .none then declined .busy s
      else if st = .fire then declined .fireLock s
      else if st = wanted then done s
      else if !(if wanted = .trading then s.sht.allOpen f else s.sht.allClosed f) then declined .wrongState s
      else done (floorEnter f wanted .order none none none s) := by
  unfold orderSetFloorState
  rw [hst, hwanted]

theorem floorEnter_order {s : State} {f : Nat} {r : Floor} (hr : s.flr.table[f]? = some r) (wanted : FloorState) :
    floorEnter f wanted .order none none none s =
      (s.onFlr fun t => { t with table := t.table.set f (Floor.entering wanted none r) }).post
        (floorMsgs f r.state wanted (.floorState f r.state wanted .order none none none)) := by
  have hstate : s.flr.state? f = some r.state := by rw [Floors.state?, Floors.get?, hr]; rfl
  rw [floorEnter_eq hstate]
  exact congrArg (State.post · _) (State.onFlr_congr (congrArg Floors.mk (modify_eq_set hr _)))

theorem exec_setFloorState {s : State} {f code : Nat} {r : Floor} {wanted : FloorState} (tag : Nat) (hs : s.ready = true)
    (hcalls : s.cal.calls = []) (hr : s.flr.table[f]? = some r) (hwanted : floorStateOf code = some wanted) :
    exec (.setFloorState tag f code) s = .next
      (if s.prg.kind ≠ .none then s.answered tag (.setFloorState f code) (.declined .busy [])
      else if r.state = .fire then s.answered tag (.setFloorState f code) (.declined .fireLock [])
      else if r.state = wanted then s.answered tag (.setFloorState f code) (.done false [])
      else if ∃ k < s.sht.table.length, ∃ q ∈ s.sht.get? k, q.config.floor = f ∧
          (if code = 2 then q.state ≠ .opened else q.state ≠ .closed ∧ ¬(q.state = .fault ∧ q.observed = some .bottom)) then
        s.answered tag (.setFloorState f code) (.declined .wrongState [])
      else
        ((s.onFlr fun t => { t with table := t.table.set f (Floor.entering wanted none r) }).noticed
          (.floorState f r.state wanted .order none none none)).answered tag (.setFloorState f code) (.done false [])) := by
  have hplain {p : Prop} (hw : false = true) : p := absurd hw Bool.false_ne_true
  have hstate : s.flr.state? f = some r.state := by rw [Floors.state?, Floors.get?, hr]; rfl
  have horder (q : List Request) := orderSetFloorState_inRange (s := s.during q []) hstate hwanted
  by_cases hprg : s.prg.kind = .none
  · rw [if_neg (not_not.mpr hprg)]
    replace horder (q : List Request) := (horder q).trans (if_neg (by simpa using hprg))
    by_cases hfire : r.state = .fire
    · rw [if_pos hfire]
      exact exec_unchanged rfl hs hplain fun q => (horder q).trans (if_pos hfire)
    · rw [if_neg hfire]
      replace horder (q : List Request) := (horder q).trans (if_neg hfire)
      by_cases hsame : r.state = wanted
      · rw [if_pos hsame]
        exact exec_unchanged rfl hs hplain fun q => (horder q).trans (if_pos hsame)
      · rw [if_neg hsame]
        replace horder (q : List Request) := (horder q).trans (if_neg hsame)
        have hbars := Shutters.bars_iff (t := s.sht) (f := f) hwanted
        by_cases h : (!(if wanted = .trading then s.sht.allOpen f else s.sht.allClosed f)) = true
        · rw [if_pos (hbars.mp h)]
          exact exec_unchanged rfl hs hplain fun q => (horder q).trans (if_pos h)
        · rw [if_neg (hbars.not.mp h)]
          replace horder (q : List Request) := (horder q).trans (if_neg h)
          obtain ⟨n, hn, hmsgs⟩ := Does.floorMsgs
            (u := s.onFlr fun t => { t with table := t.table.set f (Floor.entering wanted none r) }) hcalls hprg f r.state
            wanted (.floorState f r.state wanted .order none none none)
          refine exec_of_does rfl hs hplain (fun q => (horder q).trans ?_) hmsgs (hn := by omega)
          rw [floorEnter_order (s := s.during q []) hr]
          rfl
  · rw [if_pos hprg]
    exact exec_unchanged rfl hs hplain fun q => (horder q).trans (if_pos (bne_iff_ne.mpr hprg))

/-- Settles O41: the checks of the order one after another, and a floor's entry to the state wanted. -/
theorem setFloorState : Obligations.SetFloorState := by
  intro s tag f code hs hcalls
  refine ⟨fun h => exec_unchanged rfl hs (fun hw => absurd hw Bool.false_ne_true) fun q =>
    orderSetFloorState_outOfRange (s := s.during q []) h, fun hcode r hr => ?_⟩
  have hexec := exec_setFloorState tag hs hcalls hr (floorStateOf_eq hcode)
  rcases hcode with rfl | rfl
  · exact hexec
  · exact hexec

end Sys2Proof.Machine
end

section
/-! PROOF of O48 ConfirmedAlarmEvacuates: the steps of R162 one after another. -/

namespace Sys2Proof.Machine

theorem numbersWhere_eq_singleton {α : Type} {l : List α} {p : α → Bool} {n : Nat}
    (h : ∀ k, (∃ a, l[k]? = some a ∧ p a = true) ↔ k = n) : numbersWhere l p = [n] := by
  have hnodup : (numbersWhere l p).Nodup := (numbersWhere_pairwise l p).imp fun hlt => hlt.ne
  refine List.perm_singleton.mp ((List.perm_ext_iff_of_nodup hnodup (List.nodup_singleton n)).mpr fun k => ?_)
  rw [mem_numbersWhere, h k, List.mem_singleton]

/-- A table without records has none that meets a condition. -/
theorem presentWhere_absent {α : Type} {l : List (Option α)} (h : ∀ o ∈ l, o = none) (p : α → Bool) :
    presentWhere l p = [] :=
  presentWhere_eq_nil fun _ _ hr => absurd (h _ (List.mem_of_getElem? (present?_eq_some.mp hr))) (by simp)

/-! ### The chain at rest without landings -/

theorem chainFireChanged_idle {s : State} (hstate : s.chn.state = .halted) (hall : s.chn.config.allLandings = [])
    (hclearance : s.chn.clearance = []) (left : Bool) : chainFireChanged left s = s := by
  cases left with
  | false => rfl
  | true =>
    have hset : setUnion s.chn.config.allLandings s.chn.clearance = [] := by
      rw [hall, hclearance]
      exact List.filter_eq_nil_iff.mpr fun k _ => by simp
    unfold chainFireChanged
    rw [hset, hstate]
    simp

/-! ### The steps (R162) -/

section Steps

variable {u : State}

theorem floorDeclare_eq {f : Nat} {r : Floor} (hr : u.flr.table[f]? = some r) (hstate : r.state ≠ .fire) :
    floorDeclare f u = (u.onFlr fun t => { t with table := t.table.set f (Floor.entering .fire none r) }).post
      (floorMsgs f r.state .fire (.floorState f r.state .fire .fire none none none)) := by
  have hin : u.flr.state? f = some r.state := by rw [Floors.state?, Floors.get?, hr]; rfl
  have hnot : u.flr.isIn f .fire = false := by
    rw [Floors.isIn, hin]
    simpa using hstate
  rw [floorDeclare, if_neg (Bool.eq_false_iff.mp hnot), floorEnter_eq hin]
  exact congrArg (State.post · _) (State.onFlr_congr (congrArg Floors.mk (modify_eq_set hr _)))

theorem Does.declare {f : Nat} {r : Floor} (hcalls : u.cal.calls = []) (hprg : u.prg.kind = .none)
    (hr : u.flr.table[f]? = some r) (hstate : r.state ≠ .fire) : ∃ n < 6, Does n [.flr (.declare f)] u
      ((u.onFlr fun t => { t with table := t.table.set f (Floor.entering .fire none r) }).noticed
        (.floorState f r.state .fire .fire none none none)) := by
  obtain ⟨n, hn, hmsgs⟩ := Does.floorMsgs
    (u := u.onFlr fun t => { t with table := t.table.set f (Floor.entering .fire none r) }) hcalls hprg f r.state .fire
    (.floorState f r.state .fire .fire none none none)
  exact ⟨1 + n, by omega, .flr (fun q => floorDeclare_eq (u := u.during q []) hr hstate) hmsgs⟩

theorem fireDepart_evacuating (hdelay : u.fir.settings.delay = 0) (hcondition : u.fir.condition = .normal) :
    fireDepart u = (u.onFir fun r => { r with heldWait := true, condition := .evacuating }).post
      [.chn (.fireChanged true), .cal (.fireChanged .evacuating), .lnk (.notice (.fireCondition .normal .evacuating)),
        .prg .fireLeft] := by
  refine (if_pos hdelay).trans ?_
  unfold fireCondition
  dsimp only [State.onFir_fir]
  rw [hcondition]
  exact fireHold_same (s := (u.onFir fun r => { r with heldWait := true, condition := .evacuating }).post _) (.inl rfl)

theorem Does.fireLeft_idle (hprg : u.prg.kind = .none) : Does 1 [.prg .fireLeft] u u :=
  .prg_same fun q => by
    have hrunning : u.prg.running = false := by simp [Programme.running, hprg]
    simp [programmeTake, programmeAbort, hrunning]

theorem Does.depart (hcalls : u.cal.calls = []) (hprg : u.prg.kind = .none) (hdelay : u.fir.settings.delay = 0)
    (hcondition : u.fir.condition = .normal) (hstate : u.chn.state = .halted) (hall : u.chn.config.allLandings = [])
    (hclearance : u.chn.clearance = []) : Does (1 + (1 + (1 + (1 + 1)))) [.fir .depart] u
      ((u.onFir fun r => { r with heldWait := true, condition := .evacuating }).noticed (.fireCondition .normal .evacuating)) := by
  set v := u.onFir fun r => { r with heldWait := true, condition := .evacuating }
  have hchain : Does 1 [.chn (.fireChanged true)] v v :=
    .chn_same fun q => chainFireChanged_idle (s := v.during q []) hstate hall hclearance true
  exact .fir (fun q => fireDepart_evacuating (u := u.during q []) hdelay hcondition)
    (hchain.cons ((Does.fireChanged_none (u := v) hcalls _).cons ((Does.notice v _).cons
      (.fireLeft_idle (u := v.noticed (.fireCondition .normal .evacuating)) hprg))))

theorem Does.dropsOrdered (hclearance : u.chn.clearance = []) : Does 1 [.fir .dropsOrdered] u
    (u.onFir fun r => { r with heldWait := false, held := [] }) :=
  .fir (f := fun r => { r with heldWait := false, held := [] }) (ms := []) (fun q => by
    refine (fireHold_empty (s := (u.during q []).onFir fun f => { f with heldWait := false }) ?_ rfl).trans ?_
    · exact heldSet_of_no_clearance (c := u.chn) hclearance _
    · rw [State.post_nil]
      rfl) (.nil _)

theorem Does.hallDrops_none (h : ∀ o ∈ u.sht.table, o = none) : Does 1 [.fir .hallDrops] u u :=
  .fir_same fun q => by
    have hnone : hallsInFire (u.during q []) = [] := presentWhere_absent h _
    simp only [fireTake, hnone]
    exact State.post_nil _

theorem Does.soundings_evacuating (hcondition : u.fir.condition = .evacuating) (hsilent : u.snd.silent = true) :
    Does (1 + (1 + 1)) [.fir .soundings] u (u.onSnd fun v => v.evacuated u.fir.settings.evacuate) := by
  obtain ⟨hq, hplaying⟩ : u.snd.queue = [] ∧ u.snd.playing = [] := by simpa [Sounder.silent] using hsilent
  exact .fir (f := id) (ms := [.snd (.fireOrder .evacuate u.fir.settings.evacuate allZones)])
    (fun q => by
      have hnow : (u.during q []).fir.condition = .evacuating := hcondition
      simp only [fireTake, fireSoundings, evacuateMsg, hnow]
      rfl) (Does.evacuate (u := u) hq (fun p hp => by simp [hplaying] at hp) _)

/-- The first WARDEN call, with its lamp only. -/
theorem callPlaceWarden_first {f : Nat} {r : Floor} (hcalls : u.cal.calls = []) (hcondition : u.fir.condition = .evacuating)
    (hr : u.flr.table[f]? = some r) : callPlaceWarden f u =
      (u.onCal fun c => { c with
        calls := [newCall c.nextNumber .warden (.floor f) r.config.wardenTeam .awaitingAck false true]
        nextNumber := nextCallNumber c.nextNumber }).post
      [.lnk (.notice (.callOpened u.cal.nextNumber .warden (.floor f) r.config.wardenTeam))] := by
  have hopen : u.cal.ofFloor .warden f = none := by rw [Calls.ofFloor, hcalls]; rfl
  have hroom : callRoom u = some u := by
    rw [callRoom, hcalls]
    rfl
  have hnumber : u.cal.number = u.cal.nextNumber := by
    have hfree : u.cal.call? u.cal.nextNumber = none := by rw [Calls.call?, hcalls]; rfl
    rw [Calls.number, Calls.freeNumber, hfree]
    rfl
  have hteam : ((u.flr.get? f).map (·.config.wardenTeam)).getD 0 = r.config.wardenTeam := by
    rw [Floors.get?, hr]
    rfl
  unfold callPlaceWarden
  rw [hopen, hroom]
  dsimp only
  rw [hnumber, hteam, hcondition]
  refine congrArg (State.post · _) ((if_pos rfl).trans (State.onCal_congr ?_))
  rw [Calls.append, hcalls]
  rfl

theorem Does.wardens {f : Nat} {r : Floor} (hcalls : u.cal.calls = []) (hcondition : u.fir.condition = .evacuating)
    (hr : u.flr.table[f]? = some r) (hfire : u.flr.inState .fire = [f]) : Does (1 + (1 + 1)) [.fir .wardens] u
      ((u.onCal fun c => { c with
        calls := [newCall c.nextNumber .warden (.floor f) r.config.wardenTeam .awaitingAck false true]
        nextNumber := nextCallNumber c.nextNumber }).noticed
      (.callOpened u.cal.nextNumber .warden (.floor f) r.config.wardenTeam)) :=
  .fir (f := id) (ms := [.cal (.placeWarden f)])
    (fun q => by
      have hnow : (u.during q []).flr.inState .fire = [f] := hfire
      simp only [fireTake, fireWardens, hnow]
      rfl)
    (.cal (u := u) (f := fun c => { c with
        calls := [newCall c.nextNumber .warden (.floor f) r.config.wardenTeam .awaitingAck false true]
        nextNumber := nextCallNumber c.nextNumber })
      (ms := [.lnk (.notice (.callOpened u.cal.nextNumber .warden (.floor f) r.config.wardenTeam))])
      (fun q => callPlaceWarden_first (u := u.during q []) hcalls hcondition hr) (.notice _ _))

theorem Does.report {z : Nat} {r : FireZone} (hr : u.fir.zones[z]? = some r) : Does (1 + 1) [.fir (.report z)] u
    (u.noticed (.fireZone z r.floors u.fir.condition)) :=
  .fir (f := id) (ms := [.lnk (.notice (.fireZone z r.floors u.fir.condition))])
    (fun q => by
      simp only [fireTake, fireReport, State.during_fir, hr]
      rfl) (.notice u _)

theorem Does.watchdog (h : u.fir.ackTimer.isRunning = false) : Does 1 [.fir .watchdog] u
    (u.onFir fun f => { f with ackTimer := Timer.start f.settings.acknowledge, pulses := 0 }) :=
  .fir (f := fun f => { f with ackTimer := Timer.start f.settings.acknowledge, pulses := 0 }) (ms := []) (fun q => by
    rw [State.post_nil]
    exact State.onFir_congr (s := u.during q [])
      (f := fun f => if f.ackTimer.isRunning then f else
        { f with ackTimer := Timer.start f.settings.acknowledge, pulses := 0 }) (if_neg (Bool.eq_false_iff.mp h))) (.nil _)

end Steps

theorem fireConfirmExpiry_alarm {s : State} {z f : Nat} {zone : FireZone} (hz : s.fir.zones[z]? = some zone)
    (hstate : zone.state = .confirming) (htimer : zone.confirmTimer.isRunning = true) (hfloors : zone.floors = [f])
    (hcondition : s.fir.condition = .normal) (hsht : ∀ o ∈ s.sht.table, o = none) : fireConfirmExpiry z s =
      (s.onFir fun r => { r with zones := r.zones.set z { zone with state := .alarm, confirmTimer := .stopped } }).post
        [.flr (.declare f), .fir .depart, .fir .dropsOrdered, .fir .hallDrops, .fir .soundings, .fir .wardens,
          .fir (.report z), .fir .watchdog] := by
  have hconfirms : ((s.fir.zones[z]?).any fun r => r.state == .confirming && r.confirmTimer.isRunning) = true := by
    rw [hz]
    simp [hstate, htimer]
  have hlandings : s.sht.landings = [] := presentWhere_absent hsht _
  have halarm : (s.onFir fun g => g.mapZone z fun r => { r with state := .alarm, confirmTimer := .stopped }) =
      s.onFir fun r => { r with zones := r.zones.set z { zone with state := .alarm, confirmTimer := .stopped } } :=
    State.onFir_congr (congrArg (fun l => { s.fir with zones := l }) (modify_eq_set hz _))
  refine (if_pos hconfirms).trans ?_
  unfold fireAlarm
  dsimp only
  rw [hz, halarm, Option.map_some, Option.getD_some, hfloors]
  refine (if_pos hcondition).trans ?_
  dsimp only [State.onFir_sht]
  rw [hlandings]
  rfl

/-- Settles O48: the declared floor, the departure from NORMAL, the soundings, the WARDEN call and the watchdog. -/
theorem confirmedAlarmEvacuates : Obligations.ConfirmedAlarmEvacuates := by
  intro s z f hs zone hz hstate htimer hfloors hcondition hdelay hack floor hfloor hnofire hsht hcalls hsilent hprg hchain
    hall hclearance
  have hfloor : s.flr.table[f]? = some floor := hfloor
  have hf : f < s.flr.table.length := (List.getElem?_eq_some_iff.mp hfloor).1
  set s₁ := s.onFir fun r => { r with zones := r.zones.set z { zone with state := .alarm, confirmTimer := .stopped } }
  obtain ⟨n, hn, hdeclare⟩ := Does.declare (u := s₁) hcalls hprg hfloor (hnofire _ (List.mem_of_getElem? hfloor))
  set s₂ := (s₁.onFlr fun t => { t with table := t.table.set f (Floor.entering .fire none floor) }).noticed
    (.floorState f floor.state .fire .fire none none none)
  have hdepart := Does.depart (u := s₂) (by simpa [s₂, s₁]) (by simpa [s₂, s₁]) (by simpa [s₂, s₁]) (by simpa [s₂, s₁])
    (by simpa [s₂, s₁]) (by simpa [s₂, s₁]) (by simpa [s₂, s₁])
  set s₃ := (s₂.onFir fun r => { r with heldWait := true, condition := .evacuating }).noticed
    (.fireCondition .normal .evacuating)
  have hdrops := Does.dropsOrdered (u := s₃) (by simpa [s₃, s₂, s₁])
  set s₄ := s₃.onFir fun r => { r with heldWait := false, held := [] }
  have hhalls := Does.hallDrops_none (u := s₄) (by simpa [s₄, s₃, s₂, s₁])
  have hsoundings : Does _ [.fir .soundings] s₄ (s₄.onSnd fun v => v.evacuated s.fir.settings.evacuate) :=
    Does.soundings_evacuating (u := s₄) rfl (by simpa [s₄, s₃, s₂, s₁])
  set s₅ := s₄.onSnd fun v => v.evacuated s.fir.settings.evacuate
  have hentered : s₅.flr.table[f]? = some (Floor.entering .fire none floor) := List.getElem?_set_self hf
  have hfire : s₅.flr.inState .fire = [f] := by
    refine numbersWhere_eq_singleton fun k => ⟨fun ⟨r, hr, hp⟩ => ?_, fun hk => ⟨_, hk ▸ hentered, rfl⟩⟩
    by_contra hne
    have hold : s.flr.table[k]? = some r := (List.getElem?_set_ne (Ne.symm hne)).symm.trans hr
    exact hnofire r (List.mem_of_getElem? hold) (beq_iff_eq.mp hp)
  have hwardens := Does.wardens (u := s₅) (by simpa [s₅, s₄, s₃, s₂, s₁]) (by simp [s₅, s₄, s₃]) hentered hfire
  set s₆ := (s₅.onCal fun c => { c with
    calls := [newCall c.nextNumber .warden (.floor f) floor.config.wardenTeam .awaitingAck false true]
    nextNumber := nextCallNumber c.nextNumber }).noticed
    (.callOpened s.cal.nextNumber .warden (.floor f) floor.config.wardenTeam)
  have hzone : s₆.fir.zones[z]? = some { zone with state := .alarm, confirmTimer := .stopped } :=
    List.getElem?_set_self (List.getElem?_eq_some_iff.mp (show s.fir.zones[z]? = some zone from hz)).1
  have hreport : Does _ [.fir (.report z)] s₆ (s₆.noticed (.fireZone z zone.floors .evacuating)) :=
    Does.report (u := s₆) (r := { zone with state := .alarm, confirmTimer := .stopped }) hzone
  have hwatchdog := Does.watchdog (u := s₆.noticed (.fireZone z zone.floors .evacuating)) hack
  have hsteps := hdeclare.cons (hdepart.cons (hdrops.cons (hhalls.cons (hsoundings.cons (hwardens.cons
    (hreport.cons hwatchdog))))))
  have hevent := settle_event (b := .fir) hs
    (fireConfirmExpiry_alarm (s := s) hz hstate htimer hfloors hcondition hsht) hsteps (hn := by omega)
  refine hevent.trans (congrArg Host.Outcome.next ?_)
  simp only [s₆, s₅, s₄, s₃, s₂, s₁, State.noticed_onFir, State.noticed_onSnd, State.noticed_onCal, hfloors]
  iterate 4 refine congrArg (State.noticed · _) ?_
  simp only [State.onFir, State.onFlr, State.onSnd, State.onCal]
  rfl

end Sys2Proof.Machine
end

section
/-! SUPPORT. What the supply admission unit's messages do (chapter 4). -/

namespace Sys2Proof.Machine

/-! ### Groups -/

theorem Supply.modify_of_none {u : Supply} {g : Nat} {f : Group → Group} (h : ∀ r ∈ u.groups[g]?, f r = r) :
    u.modify g f = u := by
  have hgroups : u.groups.modify g f = u.groups := by
    cases hr : u.groups[g]? with
    | none => exact List.modify_eq_self (List.getElem?_eq_none_iff.mp hr)
    | some r => rw [modify_eq_set hr, h r hr, set_same hr]
  unfold Supply.modify
  rw [hgroups]

theorem Supply.full_eq_false {u : Supply} {owner : MoveOwner} {g : Nat} {r : Group} (hr : u.groups[g]? = some r)
    (hroom : r.queue.length < 16) : u.full owner g = false := by
  have hle := List.length_filter_le (fun q : MoveRequest => q.owner != owner) r.queue
  have hnot : ¬ 16 ≤ (r.queue.filter fun q => q.owner != owner).length := by omega
  simp [Supply.full, Supply.group?, hr, Config.moveQueuePlaces, hnot]

theorem Supply.holds_iff {u : Supply} {g : Nat} : u.holds g = true ↔
    ∃ r, u.groups[g]? = some r ∧ r.queue.length < 16 ∧ (u.mode = .steady → r.config.capacity ≤ r.moves.length) := by
  simp [Supply.holds, Option.any_eq_true, imp_iff_not_or]

theorem Supply.admits_iff {u : Supply} {g : Nat} : u.admits g = true ↔
    ∃ r, u.groups[g]? = some r ∧ u.mode = .steady ∧ r.queue = [] ∧ r.moves.length < r.config.capacity := by
  simp [Supply.admits, Option.any_eq_true, and_assoc]

theorem Supply.waitsOnlyIn_iff {u : Supply} {owner : MoveOwner} {g : Nat} : u.waitsOnlyIn owner g = true ↔
    ∀ k ≠ g, ∀ r ∈ u.groups[k]?, ∀ q ∈ r.queue, q.owner ≠ owner := by
  simp only [Supply.waitsOnlyIn, List.all_eq_true, List.mem_range, Bool.or_eq_true, beq_iff_eq, Option.all_eq_true,
    bne_iff_ne, ne_eq]
  constructor
  · intro h k hk r hr q hq
    exact (h k (List.getElem?_eq_some_iff.mp hr).1).resolve_left hk r hr q hq
  · intro h k _
    by_cases hk : k = g
    · exact .inl hk
    · exact .inr (h k hk)

/-! ### Moves that end -/

/-- The owner's active move settles; a settle time of 0 is not looked for. -/
def Supply.ended (u : Supply) (owner : MoveOwner) : Supply :=
  match u.activeIn owner with
  | none => u
  | some g =>
    { u.modify g fun r =>
        { r with moves := r.moves.map fun m =>
                   if m.owner == owner && m.active then { m with phase := .settling (Config.seconds r.config.settle) } else m } with
      order := u.order.filter fun o => o != owner }

theorem supplyEnded_of_settles {s : State} (h : s.sup.settles = true) (owner : MoveOwner) :
    supplyEnded owner s = s.onSup fun u => u.ended owner := by
  have hall : ∀ r ∈ s.sup.groups, 0 < r.config.settle := by simpa [Supply.settles] using h
  unfold supplyEnded Supply.ended
  cases hactive : s.sup.activeIn owner with
  | none => simp [State.onSup, hactive]
  | some g =>
    cases hr : s.sup.groups[g]? with
    | none =>
      have hlt : g < s.sup.groups.length := by
        have hmem := List.mem_of_mem_head? (Option.mem_def.mpr hactive)
        obtain ⟨r, hr', -⟩ := mem_numbersWhere.mp hmem
        rw [hr] at hr'
        cases hr'
      exact absurd (List.getElem?_eq_none_iff.mp hr) (by omega)
    | some r =>
      have hsettle : r.config.settle ≠ 0 := (hall r (List.mem_of_getElem? hr)).ne'
      simp [Supply.group?, hr, hsettle, State.onSup, hactive, Supply.modify, modify_eq_set hr]

theorem supplyEnded_sup {s : State} (h : s.sup.settles = true) (owner : MoveOwner) :
    (supplyEnded owner s).sup = s.sup.ended owner := by
  rw [supplyEnded_of_settles h]
  rfl

namespace Does

variable {n : Nat} {u w : State}

theorem ended (h : u.sup.settles = true) (owner : MoveOwner) :
    Does 1 [.sup (.ended owner)] u (u.onSup fun p => p.ended owner) :=
  sup (u := u) (m := .ended owner) (ms := []) (f := fun p => p.ended owner)
    (fun q => (supplyEnded_of_settles (s := u.during q []) h owner).trans (State.post_nil _).symm) (.nil _)

/-- A move that is not active is not released. -/
theorem released_none {owner : MoveOwner} (h : ∀ r ∈ u.sup.groups, ∀ m ∈ r.moves, m.owner ≠ owner) :
    Does 1 [.sup (.released owner)] u u :=
  sup_same fun q => by
    have hnone : u.sup.activeIn owner = none := by
      refine List.head?_eq_none_iff.mpr (List.eq_nil_iff_forall_not_mem.mpr fun g hg => ?_)
      obtain ⟨r, hr, hany⟩ := mem_numbersWhere.mp hg
      obtain ⟨m, hm, howner⟩ := List.any_eq_true.mp hany
      simp only [Bool.and_eq_true, beq_iff_eq] at howner
      exact h r (List.mem_of_getElem? hr) m hm howner.1
    simp only [supplyTake, supplyReleased, State.during_sup, hnone]

/-! ### Requests -/

/-- With no refused creep the chain takes a move in a queue without effect (R14). -/
theorem queueMoved_free (h : u.chn.creepRefused = false) : Does 1 [.chn .queueMoved] u u :=
  chn_same fun q => by
    simp only [chainTake, chainQueueMoved, State.during_chn, h, Bool.false_eq_true, if_false]

theorem queueMovedMsgs_free (h : u.chn.creepRefused = false) (s : State) (owner : MoveOwner) (g : Nat) :
    ∃ k ≤ 1, Does k (queueMovedMsgs s owner g) u u := by
  unfold queueMovedMsgs
  split
  · exact ⟨1, le_rfl, queueMoved_free h⟩
  · exact ⟨0, by norm_num, .nil u⟩

theorem request {owner : MoveOwner} {kind : MoveKind} {g : Nat} {r : Group} (hr : u.sup.groups[g]? = some r)
    (hroom : r.queue.length < 16) (hnew : ∀ q ∈ r.queue, q.owner ≠ owner) :
    Does 1 [.sup (.request owner kind g)] u (u.onSup fun p => p.modify g fun r =>
      { r with queue := if owner = .chain then ⟨owner, kind⟩ :: r.queue else r.queue ++ [⟨owner, kind⟩] }) :=
  sup (fun q => by
    have hnone : (r.queue.any fun q => q.owner == owner) = false := by simpa [List.any_eq_false] using hnew
    have hplace : ¬ 16 ≤ r.queue.length := by omega
    simp only [supplyTake, supplyRequest, State.during_sup, Supply.group?, hr, hnone, Config.moveQueuePlaces, hplace,
      decide_false, Bool.or_self, Bool.false_eq_true, if_false, State.post_nil]) (.nil _)

/-- The admission pass of a group whose queue is empty or must wait (R69). -/
theorem pass_waits {g : Nat}
    (h : ∀ r ∈ u.sup.groups[g]?, r.queue = [] ∨ (u.sup.mode = .steady → r.config.capacity ≤ r.moves.length)) :
    Does 1 [.sup (.pass g)] u u :=
  sup_same fun q => by
    unfold supplyTake supplyPass
    dsimp only [State.during_sup, Supply.group?]
    cases hr : u.sup.groups[g]? with
    | none => rfl
    | some r =>
      cases hq : r.queue with
      | nil => simp [hq]
      | cons x rest =>
        have hwait : ¬ (u.sup.mode = .steady && decide (r.moves.length < r.config.capacity)) = true := by
          have hfull := (h r hr).resolve_left (by simp [hq])
          simp only [Bool.and_eq_true, decide_eq_true_eq, not_and, not_lt]
          exact hfull
        simp only [hq]
        exact if_neg hwait

/-- The head of the queue is admitted, its owner told, and the pass goes on (R69). -/
theorem pass_admits {g : Nat} {r : Group} {x : MoveRequest} {rest : List MoveRequest} (hr : u.sup.groups[g]? = some r)
    (hq : r.queue = x :: rest) (hsteady : u.sup.mode = .steady) (hroom : r.moves.length < r.config.capacity)
    (hd : Does n ([admittedMsg x] ++ queueMovedMsgs u x.owner g ++ [.sup (.pass g)])
      (u.onSup fun p => { p.modify g fun r =>
        { r with queue := rest, moves := r.moves ++ [⟨x.owner, x.kind, .running⟩] } with order := p.order ++ [x.owner] }) w) :
    Does (1 + n) [.sup (.pass g)] u w :=
  sup (fun q => by
    have hgo : (u.sup.mode = .steady && decide (r.moves.length < r.config.capacity)) = true := by simp [hsteady, hroom]
    simp only [supplyTake, supplyPass, State.during_sup, Supply.group?, hr, hq]
    refine (if_pos hgo).trans ?_
    simp only [State.onSup, State.during_sup, Supply.modify, modify_eq_set hr]
    rfl) hd

/-- A request that joins its queue and waits there. -/
theorem request_holds {owner : MoveOwner} {kind : MoveKind} {g : Nat} (h : u.sup.holds g = true)
    (hnew : ∀ r ∈ u.sup.groups[g]?, ∀ q ∈ r.queue, q.owner ≠ owner) :
    Does 2 [.sup (.request owner kind g), .sup (.pass g)] u (u.onSup fun p => p.modify g fun r =>
      { r with queue := if owner = .chain then ⟨owner, kind⟩ :: r.queue else r.queue ++ [⟨owner, kind⟩] }) := by
  obtain ⟨r, hr, hroom, hfull⟩ := Supply.holds_iff.mp h
  refine (request hr hroom (hnew r hr)).cons (pass_waits fun r' hr' => .inr ?_)
  obtain rfl : { r with queue := if owner = .chain then ⟨owner, kind⟩ :: r.queue else r.queue ++ [⟨owner, kind⟩] } = r' := by
    simpa [Supply.modify, modify_eq_set hr, (List.getElem?_eq_some_iff.mp hr).1] using hr'
  exact hfull

/-- A request admitted at once: its owner is told, and nothing else waits. -/
theorem request_admits {owner : MoveOwner} {kind : MoveKind} {g : Nat} (h : u.sup.admits g = true)
    (hd : Does n [admittedMsg ⟨owner, kind⟩] (u.onSup fun p => p.withMove g owner kind) w)
    (hrefused : owner = .chain ∨ w.chn.creepRefused = false) (hempty : ∀ r ∈ w.sup.groups[g]?, r.queue = []) :
    ∃ k ≤ n + 4, Does k [.sup (.request owner kind g), .sup (.pass g)] u w := by
  obtain ⟨r, hr, hsteady, hq, hroom⟩ := Supply.admits_iff.mp h
  have hlt := (List.getElem?_eq_some_iff.mp hr).1
  set v := u.onSup fun p => p.modify g fun r =>
    { r with queue := if owner = .chain then ⟨owner, kind⟩ :: r.queue else r.queue ++ [⟨owner, kind⟩] } with hv
  have hv' : v.sup.groups[g]? = some { r with queue := [⟨owner, kind⟩] } := by
    simp [hv, Supply.modify, modify_eq_set hr, hlt, hq]
  have hnext : (v.onSup fun p => { p.modify g fun r =>
      { r with queue := [], moves := r.moves ++ [⟨owner, kind, .running⟩] } with order := p.order ++ [owner] }) =
      u.onSup fun p => p.withMove g owner kind := by
    simp only [hv, State.onSup, Supply.withMove, Supply.modify, modify_eq_set hr, hq]
    rw [modify_eq_set (by rw [List.getElem?_set_self hlt]), List.set_set]
  obtain ⟨j, hj, hmoved⟩ : ∃ j ≤ 1, Does j (queueMovedMsgs v owner g) w w := by
    rcases hrefused with rfl | hrefused
    · exact ⟨0, by norm_num, .nil w⟩
    · exact queueMovedMsgs_free hrefused v owner g
  have hpass : Does (1 + (n + j + 1)) [.sup (.pass g)] v w :=
    pass_admits hv' rfl hsteady hroom (hnext ▸ (hd.append hmoved).append (pass_waits fun r hr => .inl (hempty r hr)))
  exact ⟨_, by omega, (request hr (by rw [hq]; norm_num) (by simp [hq])).cons hpass⟩

/-- The owner's request is taken out of the one queue it can wait in (R71). -/
theorem withdraw {owner : MoveOwner} {g : Nat} (h : u.sup.waitsOnlyIn owner g = true)
    (hrefused : owner = .chain ∨ u.chn.creepRefused = false) :
    ∃ k ≤ 2, Does k [.sup (.withdraw owner)] u (u.onSup fun p => p.withdrawn owner g) := by
  have honly := Supply.waitsOnlyIn_iff.mp h
  cases hqueued : u.sup.queuedIn owner with
  | none =>
    have hsame : (u.onSup fun p => p.withdrawn owner g) = u := by
      have hfree : ∀ r ∈ u.sup.groups[g]?, ({ r with queue := r.queue.filter fun q => q.owner != owner } : Group) = r := by
        intro r hr
        have hnone : ∀ q ∈ r.queue, q.owner ≠ owner := by
          intro q hq hown
          have hmem : g ∈ numbersWhere u.sup.groups fun g => g.queue.any fun q => q.owner == owner :=
            mem_numbersWhere.mpr ⟨r, hr, List.any_eq_true.mpr ⟨q, hq, beq_iff_eq.mpr hown⟩⟩
          rw [List.head?_eq_none_iff.mp hqueued] at hmem
          cases hmem
        rw [List.filter_eq_self.mpr fun q hq => bne_iff_ne.mpr (hnone q hq)]
      exact State.onSup_congr (g := id) (Supply.modify_of_none hfree)
    rw [hsame]
    exact ⟨1, by norm_num, sup_same fun q => by simp only [supplyTake, supplyWithdraw, State.during_sup, hqueued]⟩
  | some k =>
    obtain ⟨r, hr, hany⟩ := mem_numbersWhere.mp (List.mem_of_mem_head? (Option.mem_def.mpr hqueued))
    obtain ⟨q, hq, hown⟩ := List.any_eq_true.mp hany
    obtain rfl : k = g := by
      by_contra hne
      exact honly k hne r hr q hq (beq_iff_eq.mp hown)
    obtain ⟨j, hj, hmoved⟩ : ∃ j ≤ 1, Does j (queueMovedMsgs u owner k) (u.onSup fun p => p.withdrawn owner k)
        (u.onSup fun p => p.withdrawn owner k) := by
      rcases hrefused with rfl | hrefused
      · exact ⟨0, by norm_num, .nil _⟩
      · exact queueMovedMsgs_free (u := u.onSup fun p => p.withdrawn owner k) hrefused u owner k
    exact ⟨1 + j, by omega, sup (fun q => by simp only [supplyTake, supplyWithdraw, State.during_sup, hqueued]; rfl) hmoved⟩

end Does

end Sys2Proof.Machine
end

section
/-! SUPPORT. What a shutter's change hands on, and when nobody waits for it (chapter 3). -/

namespace Sys2Proof.Machine

/-! ### The record -/

theorem Shutter.goTo_eq (r : Shutter) (st : ShutterState) :
    r.goTo st = { r.resting st with forced := r.forced && st != .opened && st != .partOpen } := rfl

theorem Shutter.goTo_closed (r : Shutter) : r.goTo .closed = r.resting .closed := by
  cases hf : r.forced <;> simp [Shutter.goTo_eq, Shutter.resting, hf]

/-- A shutter returned by its position (R46, R53). -/
theorem Shutter.goTo_still (r : Shutter) : r.goTo r.stillState = r.held := by
  cases hp : r.position <;> cases hf : r.forced <;> simp [Shutter.goTo_eq, Shutter.held, Shutter.stillState, hp, hf]

theorem Shutter.held_state (r : Shutter) : r.held.state = r.stillState := by
  rw [← r.goTo_still]
  rfl

theorem Shutter.held_state_ne_awaitClear (r : Shutter) : r.held.state ≠ .awaitClear := by
  rw [r.held_state, Shutter.stillState]
  cases r.position <;> simp

theorem Shutter.landing_of_hall {r : Shutter} (h : r.isLanding = false) : r.landing? = none := by
  simpa [Shutter.isLanding] using h

/-- A record replaced by one that bars the chain no less leaves run permission with the table it had (R7). -/
theorem Shutters.permit_of_set {t : Shutters} {n : Nat} {old : Shutter} {o : Option Shutter} (hold : t.get? n = some old)
    (hpermits : old.isLanding = true → old.state.permits = true) (h : (t.set n o).permit = true) : t.permit = true := by
  simp only [Shutters.permit, List.all_eq_true, Shutters.set] at h ⊢
  intro x hx
  obtain ⟨k, hk⟩ := List.mem_iff_getElem?.mp hx
  by_cases hkn : k = n
  · subst hkn
    obtain rfl : x = some old := Option.some.inj (hk.symm.trans (present?_eq_some.mp hold))
    cases hl : old.isLanding with
    | false => simp [hl]
    | true => simp [hpermits hl]
  · exact h x (List.mem_iff_getElem?.mpr ⟨k, by rw [List.getElem?_set_ne (Ne.symm hkn)]; exact hk⟩)

theorem Shutters.permit_set_eq_false {t : Shutters} {n : Nat} {old r : Shutter} (hold : t.get? n = some old)
    (hlanding : r.isLanding = true) (hbars : r.state.permits = false) : (t.set n (some r)).permit = false := by
  rw [Bool.eq_false_iff]
  intro h
  have hr : (t.set n (some r)).get? n = some r := Shutters.get?_set_self hold _
  have hmem : some r ∈ (t.set n (some r)).table := List.mem_of_getElem? (present?_eq_some.mp hr)
  have hall := List.all_eq_true.mp h _ hmem
  simp [hlanding, hbars] at hall

/-! ### What a change hands on -/

/-- The messages of a shutter's change (R47, R63). -/
def alterMsgs (n : Nat) (old r : Shutter) (permitted : Bool) : List Msg :=
  (if old.state = .awaitClear && r.state != .awaitClear then old.landing?.toList.map fun l => .chn (.leave l) else []) ++
    (if r.state = .awaitClear && old.state != .awaitClear then r.landing?.toList.map fun l => .chn (.join l) else []) ++
    (if r.isLanding && old.state != r.state then [.chn (.shutterChanged permitted (r.state == .fault))] else []) ++
    (if old.state != r.state || old.observed != r.observed then [.flr (.shutterChanged r.config.floor n old.state r.state)]
      else [])

theorem shutterAlter_eq (n : Nat) (old r : Shutter) (s : State) :
    shutterAlter n old r s = (s.onSht fun t => t.set n (some r)).post (alterMsgs n old r s.sht.permit) := rfl

theorem shutterChange_eq {s : State} {n : Nat} {r : Shutter} (hr : s.sht.get? n = some r) (f : Shutter → Shutter) :
    shutterChange n f s = (s.onSht fun t => t.set n (some (f r))).post (alterMsgs n r (f r) s.sht.permit) := by
  unfold shutterChange
  rw [hr]
  rfl

theorem alterMsgs_not_ahead (n : Nat) (old r : Shutter) (permitted : Bool) :
    ∀ m ∈ alterMsgs n old r permitted, m.isAhead = false := by
  intro m hm
  simp only [alterMsgs, List.mem_append] at hm
  rcases hm with ((hm | hm) | hm) | hm <;> split at hm <;> simp at hm <;> aesop

/-- What SUP is asked goes before what the change reports (R68). -/
theorem request_post_alterMsgs {s : State} (hs : s.agenda = []) (n : Nat) (old r : Shutter) (permitted : Bool)
    (owner : MoveOwner) (kind : MoveKind) (g : Nat) :
    (s.post (alterMsgs n old r permitted)).request owner kind g =
      s.post ([.sup (.request owner kind g), .sup (.pass g)] ++ alterMsgs n old r permitted) := by
  have hahead : (alterMsgs n old r permitted).filter Msg.isAhead = [] :=
    List.filter_eq_nil_iff.mpr fun m hm => by simp [alterMsgs_not_ahead n old r permitted m hm]
  have hbehind : ((alterMsgs n old r permitted).filter fun m => !m.isAhead) = alterMsgs n old r permitted :=
    List.filter_eq_self.mpr fun m hm => by simp [alterMsgs_not_ahead n old r permitted m hm]
  simp only [State.request, State.ask, State.post, hs, List.nil_append, hahead, hbehind, List.map_cons, List.map_nil]

namespace Does

variable {u : State} {n f : Nat}

/-- The chain takes a landing shutter's change without effect: no fault while it moves, and no clearance duty to take up as
run permission comes to hold (R7, R14, R22). -/
theorem landingChanged {permitted faulted : Bool} (hfault : faulted = true → u.chn.state.moving = false)
    (hduty : permitted = false → runPermission u.chn u.sht = true → u.chn.state = .halted → u.chn.clearance = []) :
    Does 1 [.chn (.shutterChanged permitted faulted)] u u :=
  chn_same fun q => by
    have hno : ¬ (faulted && u.chn.state.moving) = true := by
      cases faulted
      · simp
      · simp [hfault rfl]
    refine (if_neg hno).trans ?_
    by_cases hgo : (!permitted && runPermission u.chn u.sht) = true
    · refine (if_pos hgo).trans ?_
      obtain ⟨hp, hrun⟩ := Bool.and_eq_true_iff.mp hgo
      have hidle := hduty (by simpa using hp) hrun
      refine if_neg fun h => ?_
      simp only [State.during_chn, Bool.and_eq_true, Bool.not_eq_true', List.isEmpty_eq_false_iff] at h
      obtain ⟨⟨⟨hhalted, -⟩, -⟩, hsome⟩ := h
      exact hsome (hidle (of_decide_eq_true hhalted))
    · exact if_neg hgo

/-- A change of a shutter that barred no move before, or of whose permission a chain has nothing to make (R7, R14). -/
theorem landingChanged_of_set {t : Shutters} {old : Shutter} {o : Option Shutter} (hold : t.get? n = some old)
    (hpermits : old.isLanding = true → old.state.permits = true ∨ (u.chn.state = .halted → u.chn.clearance = []))
    (hu : u.sht = t.set n o) : Does 1 [.chn (.shutterChanged t.permit false)] u u :=
  landingChanged (fun h => by cases h) fun hp hrun => by
    by_cases hidle : u.chn.state = .halted → u.chn.clearance = []
    · exact hidle
    · have hnow : (t.set n o).permit = true := by
        rw [← hu]
        exact (Bool.and_eq_true_iff.mp hrun).2
      rw [Shutters.permit_of_set hold (fun h => (hpermits h).resolve_right hidle) hnow] at hp
      cases hp

/-- A landing shutter that bars the chain now (R7). -/
theorem landingChanged_bars {permitted : Bool} {r : Shutter} (hr : u.sht.get? n = some r) (hlanding : r.isLanding = true)
    (hbars : r.state.permits = false) : Does 1 [.chn (.shutterChanged permitted false)] u u :=
  landingChanged (fun h => by cases h) fun _ hrun => by
    have hall := List.all_eq_true.mp (Bool.and_eq_true_iff.mp hrun).2 _ (List.mem_of_getElem? (present?_eq_some.mp hr))
    simp [hlanding, hbars] at hall

/-- A floor that waits for no shutter takes a change without effect (R80). -/
theorem floorChanged_idle (h : u.flr.waitsFor f = false) (left entered : ShutterState) :
    Does 1 [.flr (.shutterChanged f n left entered)] u u :=
  flr_same fun q => by
    have hsecuring : u.flr.isIn f .securing = false := (Bool.or_eq_false_iff.mp h).1
    have hredrop : floorRedrop f n left entered (u.during q []) = u.during q [] := by
      simp [floorRedrop, hsecuring]
    simp only [floorTake, floorShutterChanged, hredrop]
    exact floorTest_of_not_waiting (s := u.during q []) h

/-- A floor one of whose shutters is on its way, or waits, completes nothing (R84, R86). -/
theorem floorTest_of_inUse {s : State} {r : Shutter} (hr : s.sht.get? n = some r) (hfloor : r.config.floor = f)
    (hstate : r.state.inUse = true) : floorTest f s = s := by
  have hmem : some r ∈ s.sht.table := List.mem_of_getElem? (present?_eq_some.mp hr)
  have hnot {p : Shutter → Bool} (hp : p r = false) : s.sht.everyOf f p = false := by
    rw [Bool.eq_false_iff]
    intro h
    have := List.all_eq_true.mp h _ hmem
    simp [hfloor, hp] at this
  have hclosed : s.sht.allClosed f = false := hnot (by cases h : r.state <;> simp_all [Shutter.countsClosed, ShutterState.inUse])
  have hsettled : s.sht.settled f = false := hnot (by cases h : r.state <;> simp_all [Shutter.atRest, ShutterState.inUse])
  unfold floorTest
  cases s.flr.get? f with
  | none => rfl
  | some x => cases hx : x.state <;> cases hi : x.inStep <;> simp [hx, hi, hclosed, hsettled]

theorem floorChanged_inUse {r : Shutter} {left entered : ShutterState} (hr : u.sht.get? n = some r)
    (hfloor : r.config.floor = f) (hstate : r.state.inUse = true) (hentered : entered.inUse = true) :
    Does 1 [.flr (.shutterChanged f n left entered)] u u :=
  flr_same fun q => by
    have hnot : (entered == .opened || entered == .partOpen) = false := by cases entered <;> simp_all [ShutterState.inUse]
    have hredrop : floorRedrop f n left entered (u.during q []) = u.during q [] := by
      simp [floorRedrop, hnot]
    simp only [floorTake, floorShutterChanged, hredrop]
    exact floorTest_of_inUse (s := u.during q []) hr hfloor hstate

/-- A change that brings no landing to AWAIT_CLEAR or out of it, and for which nobody waits. -/
theorem altered {old r : Shutter} {permitted : Bool} (hwait : old.state = .awaitClear ↔ r.state = .awaitClear)
    (hchain : r.isLanding = true → Does 1 [.chn (.shutterChanged permitted (r.state == .fault))] u u)
    (hfloor : Does 1 [.flr (.shutterChanged r.config.floor n old.state r.state)] u u) :
    ∃ k ≤ 2, Does k (alterMsgs n old r permitted) u u := by
  have hleave : ¬ (old.state = .awaitClear && r.state != .awaitClear) = true := by simpa using hwait.mp
  have hjoin : ¬ (r.state = .awaitClear && old.state != .awaitClear) = true := by simpa using hwait.mpr
  rw [alterMsgs, if_neg hleave, if_neg hjoin, List.nil_append, List.nil_append]
  have hone {p : Prop} [Decidable p] {m : Msg} (h : p → Does 1 [m] u u) : ∃ k ≤ 1, Does k (if p then [m] else []) u u := by
    by_cases hp : p
    · exact ⟨1, le_rfl, by rw [if_pos hp]; exact h hp⟩
    · exact ⟨0, by norm_num, by rw [if_neg hp]; exact .nil u⟩
  obtain ⟨j, hj, hc⟩ := hone (p := (r.isLanding && old.state != r.state) = true)
    fun h => hchain (Bool.and_eq_true_iff.mp h).1
  obtain ⟨k, hk, hf⟩ := hone (p := (old.state != r.state || old.observed != r.observed) = true) fun _ => hfloor
  exact ⟨j + k, by omega, hc.append hf⟩

/-- A hall shutter's change, of a floor that waits for no shutter. -/
theorem altered_hall {old r : Shutter} {permitted : Bool} (hwait : old.state = .awaitClear ↔ r.state = .awaitClear)
    (hhall : r.isLanding = false) (hfloor : u.flr.waitsFor r.config.floor = false) :
    ∃ k ≤ 2, Does k (alterMsgs n old r permitted) u u :=
  altered hwait (fun h => by rw [hhall] at h; cases h) (floorChanged_idle hfloor _ _)

/-- A shutter that is on its way, or waits for its raise, after a change of which nobody makes anything. -/
theorem altered_inUse {old r x : Shutter} {permitted : Bool} (hx : u.sht.get? n = some x) (hconfig : x.config = r.config)
    (hold : old.state ≠ .awaitClear) (hr : r.state ≠ .awaitClear) (huse : r.state.inUse = true)
    (hxuse : x.state.inUse = true) (hbars : x.state.permits = false) :
    ∃ k ≤ 2, Does k (alterMsgs n old r permitted) u u := by
  have hnot : (r.state == .fault) = false := beq_eq_false_iff_ne.mpr fun hfault => by
    rw [hfault] at huse
    cases huse
  refine altered (by simp [hold, hr]) (fun h => ?_) (floorChanged_inUse hx (by rw [hconfig]) hxuse huse)
  rw [hnot]
  refine landingChanged_bars hx ?_ hbars
  simpa only [Shutter.isLanding, Shutter.landing?, hconfig] using h

/-! ### Raises -/

/-- An admitted raise starts (R54). -/
theorem admitted_raises {r : Shutter} (hr : u.sht.get? n = some r) (hstate : r.state = .waitSupply)
    (hlock : fireLocked u.flr u.fir.condition r = false) (hstill : r.isLanding = true → u.chn.state.moving = false) :
    ∃ k ≤ 3, Does k [.sht (.admitted n)] u
      (u.onSht fun t => t.set n (some { r.resting .raising with raiseTimer := Timer.start r.config.raise })) := by
  set r' : Shutter := { r.resting .raising with raiseTimer := Timer.start r.config.raise }
  set w := u.onSht fun t => t.set n (some r') with hw
  have hr' : w.sht.get? n = some r' := Shutters.get?_set_self hr _
  have hnot : (fireLocked u.flr u.fir.condition r || r.isLanding && u.chn.state.moving) = false := by
    cases hl : r.isLanding
    · simp [hlock]
    · simp [hlock, hstill hl]
  obtain ⟨k, hk, hdoes⟩ := altered (u := w) (n := n) (old := r) (r := r') (permitted := u.sht.permit)
    (by simp [hstate, r', Shutter.resting])
    (fun h => landingChanged_bars hr' h rfl) (floorChanged_inUse hr' rfl rfl rfl)
  refine ⟨1 + k, by omega, sht (fun q => ?_) hdoes⟩
  have hwaits : (r.state != .waitSupply) = false := by simp [hstate]
  simp only [shutterTake, shutterAdmitted, State.during_sht, State.during_flr, State.during_fir, State.during_chn, hr, hwaits,
    hnot, Bool.false_eq_true, if_false]
  exact shutterChange_eq (s := u.during q []) hr _

/-- A shutter asks for a slot and waits for it (R53, R68). -/
theorem asks_holds {s : State} {r : Shutter} (hr : s.sht.get? n = some r) (hclear : r.state ≠ .awaitClear)
    (hduty : r.isLanding = true → r.state.permits = true ∨ (s.chn.state = .halted → s.chn.clearance = []))
    (hnew : ∀ g ∈ s.sup.groups[r.config.group]?, ∀ q ∈ g.queue, q.owner ≠ .shutter n)
    (hholds : s.sup.holds r.config.group = true) :
    ∃ k ≤ 4, Does k ([.sup (.request (.shutter n) .raise r.config.group), .sup (.pass r.config.group)] ++
        alterMsgs n r (r.resting .waitSupply) s.sht.permit)
      (s.onSht fun t => t.set n (some (r.resting .waitSupply)))
      ((s.onSht fun t => t.set n (some (r.resting .waitSupply))).onSup fun u => u.modify r.config.group fun g =>
        { g with queue := g.queue ++ [⟨.shutter n, .raise⟩] }) := by
  set v := s.onSht fun t => t.set n (some (r.resting .waitSupply))
  have hr' : v.sht.get? n = some (r.resting .waitSupply) := Shutters.get?_set_self hr _
  have hask : Does 2 _ v (v.onSup fun p => p.modify r.config.group fun g =>
      { g with queue := g.queue ++ [⟨.shutter n, .raise⟩] }) :=
    request_holds (u := v) (owner := .shutter n) (kind := .raise) hholds hnew
  obtain ⟨k, hk, hreport⟩ := altered (n := n) (old := r) (r := r.resting .waitSupply) (permitted := s.sht.permit)
    (u := v.onSup fun p => p.modify r.config.group fun g => { g with queue := g.queue ++ [⟨.shutter n, .raise⟩] })
    (by simp [hclear, Shutter.resting]) (fun _ => landingChanged_of_set hr hduty rfl) (floorChanged_inUse hr' rfl rfl rfl)
  exact ⟨2 + k, by omega, hask.append hreport⟩

/-- A shutter asks for a slot, and its raise starts at once (R53, R54, R69). -/
theorem asks_admits {s : State} {r : Shutter} (hr : s.sht.get? n = some r) (hclear : r.state ≠ .awaitClear)
    (hlock : fireLocked s.flr s.fir.condition r = false) (hstill : r.isLanding = true → s.chn.state.moving = false)
    (hadmits : s.sup.admits r.config.group = true) (hrefused : s.chn.creepRefused = false) :
    ∃ k ≤ 9, Does k ([.sup (.request (.shutter n) .raise r.config.group), .sup (.pass r.config.group)] ++
        alterMsgs n r (r.resting .waitSupply) s.sht.permit)
      (s.onSht fun t => t.set n (some (r.resting .waitSupply)))
      ((s.onSup fun u => u.withMove r.config.group (.shutter n) .raise).onSht fun t =>
        t.set n (some { r.resting .raising with raiseTimer := Timer.start r.config.raise })) := by
  set v := s.onSht fun t => t.set n (some (r.resting .waitSupply))
  set v' := v.onSup fun u => u.withMove r.config.group (.shutter n) .raise
  set r' : Shutter := { r.resting .raising with raiseTimer := Timer.start r.config.raise }
  set w := (s.onSup fun u => u.withMove r.config.group (.shutter n) .raise).onSht fun t => t.set n (some r')
  have hset : v'.onSht (fun t => t.set n (some r')) = w := by
    simp only [v', v, w, State.onSht, State.onSup, Shutters.set, List.set_set]
  obtain ⟨j, hj, hstarts⟩ := admitted_raises (u := v') (r := r.resting .waitSupply) (Shutters.get?_set_self hr _) rfl hlock
    hstill
  have hstarts' : Does j [admittedMsg ⟨.shutter n, .raise⟩] v' w := hset ▸ hstarts
  have hempty : ∀ g ∈ w.sup.groups[r.config.group]?, g.queue = [] := by
    obtain ⟨g, hg, -, hq, -⟩ := Supply.admits_iff.mp hadmits
    intro g' hg'
    have hg' : (s.sup.groups.modify r.config.group fun g =>
      { g with moves := g.moves ++ [⟨.shutter n, .raise, .running⟩] })[r.config.group]? = some g' := hg'
    rw [modify_eq_set hg, List.getElem?_set_self (List.getElem?_eq_some_iff.mp hg).1] at hg'
    obtain rfl := Option.some.inj hg'
    exact hq
  obtain ⟨k, hk, hask⟩ := request_admits (u := v) hadmits hstarts' (.inr hrefused) hempty
  have hr' : w.sht.get? n = some r' := Shutters.get?_set_self hr _
  obtain ⟨i, hi, hreport⟩ := altered (u := w) (n := n) (old := r) (r := r.resting .waitSupply) (permitted := s.sht.permit)
    (by simp [hclear, Shutter.resting]) (fun h => landingChanged_bars hr' h rfl) (floorChanged_inUse hr' rfl rfl rfl)
  exact ⟨k + i, by omega, hask.append hreport⟩

end Does

end Sys2Proof.Machine
end

section
/-! RAISE SHUTTER (R53). -/

namespace Sys2Proof.Machine

theorem withShutter_present {s : State} {n : Nat} {r : Shutter} (hn : n ≤ 47) (hr : s.sht.get? n = some r)
    (f : Shutter → State × Result) : withShutter n s f = f r := by
  unfold withShutter
  rw [hr, decide_eq_true hn]
  rfl

section
variable {s : State} {n : Nat} {r : Shutter}

theorem shutterRaise_locked (hr : s.sht.get? n = some r) (h : fireLocked s.flr s.fir.condition r = true) :
    shutterRaise n s = declined .fireLock s := by
  simp only [shutterRaise, hr, h, if_true]

theorem shutterRaise_opened (hr : s.sht.get? n = some r) (h : fireLocked s.flr s.fir.condition r = false)
    (hstate : r.state = .opened) : shutterRaise n s = done s := by
  simp only [shutterRaise, hr, h, hstate, Bool.false_eq_true, if_false]

theorem shutterRaise_wrong (hr : s.sht.get? n = some r) (h : fireLocked s.flr s.fir.condition r = false)
    (hstate : r.state = .unseen ∨ r.state = .descending ∨ r.state = .arrested ∨ r.state = .waitSupply ∨ r.state = .raising ∨
      r.state = .fault) : shutterRaise n s = declined .wrongState s := by
  rcases hstate with hst | hst | hst | hst | hst | hst <;>
    simp only [shutterRaise, hr, h, hst, Bool.false_eq_true, if_false]

theorem shutterRaise_warning (hr : s.sht.get? n = some r) (h : fireLocked s.flr s.fir.condition r = false)
    (hstate : r.state = .warning) : shutterRaise n s =
      ((s.onSht fun t => t.set n (some r.held)).post (alterMsgs n r r.held s.sht.permit), .done false []) := by
  simp only [shutterRaise, hr, h, hstate, Bool.false_eq_true, if_false, shutterChange_eq hr, Shutter.goTo_still]
  rfl

theorem shutterRaise_moving (hr : s.sht.get? n = some r) (h : fireLocked s.flr s.fir.condition r = false)
    (hstate : r.state = .closed ∨ r.state = .partOpen) (hlanding : r.isLanding = true)
    (hmoving : s.chn.state.moving = true) : shutterRaise n s = declined .chainMoving s := by
  rcases hstate with hst | hst <;>
    simp only [shutterRaise, hr, h, hst, hlanding, hmoving, Bool.false_eq_true, if_false, Bool.and_self, if_true]

theorem shutterRaise_asks (hr : s.sht.get? n = some r) (hagenda : s.agenda = [])
    (h : fireLocked s.flr s.fir.condition r = false)
    (hstate : r.state = .closed ∨ r.state = .partOpen) (hstill : r.isLanding = true → s.chn.state.moving = false)
    (hroom : s.sup.full (.shutter n) r.config.group = false) : shutterRaise n s =
      ((s.onSht fun t => t.set n (some (r.resting .waitSupply))).post
        ([.sup (.request (.shutter n) .raise r.config.group), .sup (.pass r.config.group)] ++
          alterMsgs n r (r.resting .waitSupply) s.sht.permit), .taken false) := by
  have hgo : (r.isLanding && s.chn.state.moving) = false := by
    cases hl : r.isLanding
    · rfl
    · rw [hstill hl]
      rfl
  have hask := request_post_alterMsgs (s := s.onSht fun t => t.set n (some (r.resting .waitSupply))) hagenda n r
    (r.resting .waitSupply) s.sht.permit (.shutter n) .raise r.config.group
  rcases hstate with hst | hst <;>
  · simp only [shutterRaise, hr, h, hst, hgo, hroom, Bool.false_eq_true, if_false, shutterChange_eq hr]
    exact congrArg (·, Result.taken false) hask

end

/-- Settles O37: by the state of the shutter, and of its supply group. -/
theorem raiseShutter : Obligations.RaiseShutter := by
  intro s tag n hs hn r hr
  have hserve (q : List Request) : serveOrder tag (.raiseShutter n) (s.during q []) = shutterRaise n (s.during q []) :=
    withShutter_present (s := s.during q []) hn hr _
  have hsame {res : Result} (h : ∀ q, shutterRaise n (s.during q []) = (s.during q [], res)) :
      exec (.raiseShutter tag n) s = .next (s.answered tag (.raiseShutter n) res) :=
    exec_unchanged rfl hs (fun hw => absurd hw Bool.false_ne_true) fun q => (hserve q).trans (h q)
  refine ⟨fun hlock => hsame fun q => shutterRaise_locked (s := s.during q []) hr hlock, fun hlock =>
    ⟨fun hst => hsame fun q => shutterRaise_opened (s := s.during q []) hr hlock hst,
      fun hst => hsame fun q => shutterRaise_wrong (s := s.during q []) hr hlock hst, ?_,
      fun hst hl hm => hsame fun q => shutterRaise_moving (s := s.during q []) hr hlock hst hl hm, ?_⟩⟩
  · intro hst hhall hwaits
    obtain ⟨k, hk, hd⟩ := Does.altered_hall (u := s.onSht fun t => t.set n (some r.held)) (n := n) (old := r) (r := r.held)
      (permitted := s.sht.permit) (by simp [hst, r.held_state_ne_awaitClear]) hhall hwaits
    refine exec_of_does (v := s.onSht fun t => t.set n (some r.held)) rfl hs (fun hw => absurd hw Bool.false_ne_true)
      (fun q => (hserve q).trans ?_) hd (hn := by omega)
    exact shutterRaise_warning (s := s.during q []) hr hlock hst
  · intro hst hstill hnew
    have hclear : r.state ≠ .awaitClear := by rcases hst with h | h <;> simp [h]
    have hpermits : r.state.permits = true := by rcases hst with h | h <;> simp [h, ShutterState.permits]
    have horder (hroom : s.sup.full (.shutter n) r.config.group = false) (q : List Request) :=
      (hserve q).trans (shutterRaise_asks (s := s.during q []) hr rfl hlock hst hstill hroom)
    constructor
    · intro hholds
      obtain ⟨g, hg, hroom, -⟩ := Supply.holds_iff.mp hholds
      obtain ⟨k, hk, hd⟩ := Does.asks_holds hr hclear (fun _ => .inl hpermits) hnew hholds
      refine exec_of_does (v := s.onSht fun t => t.set n (some (r.resting .waitSupply))) rfl hs
        (fun hw => absurd hw Bool.false_ne_true) (fun q => ?_) hd (hn := by omega)
      exact horder (Supply.full_eq_false hg hroom) q
    · intro hadmits hrefused
      obtain ⟨g, hg, -, hq, -⟩ := Supply.admits_iff.mp hadmits
      obtain ⟨k, hk, hd⟩ := Does.asks_admits hr hclear hlock hstill hadmits hrefused
      refine exec_of_does (v := s.onSht fun t => t.set n (some (r.resting .waitSupply))) rfl hs
        (fun hw => absurd hw Bool.false_ne_true) (fun q => ?_) hd (hn := by omega)
      exact horder (Supply.full_eq_false hg (by rw [hq]; norm_num)) q

end Sys2Proof.Machine
end

section
/-! The expiries of a shutter's timers (R49 to R54). -/

namespace Sys2Proof.Machine

section
variable {s : State} {n : Nat} {r : Shutter}

/-- An event that changes shutter `n` alone and hands on its change and `ms`. -/
theorem settle_altered {f : State → State} {r' : Shutter} {ms : List Msg} {w : State} {j : Nat} (hs : s.quiet = true)
    (hf : f s = (s.onSht fun t => t.set n (some r')).post (alterMsgs n r r' s.sht.permit ++ ms))
    (hd : ∃ k ≤ 2, Does k (alterMsgs n r r' s.sht.permit) (s.onSht fun t => t.set n (some r'))
      (s.onSht fun t => t.set n (some r')))
    (hms : Does j ms (s.onSht fun t => t.set n (some r')) w) (hroom : w.snd.roomDue = s.snd.roomDue) (hj : j ≤ 100) :
    settle (ownSht f s) = .next w := by
  obtain ⟨k, hk, hd⟩ := hd
  exact settle_event (b := .sht) (v := s.onSht fun t => t.set n (some r')) hs hf (hd.append hms) (hroom := hroom)
    (hn := by omega)

/-- The same with nothing more to hand on. -/
theorem settle_altered_silent {f : State → State} {r' : Shutter} (hs : s.quiet = true)
    (hf : f s = (s.onSht fun t => t.set n (some r')).post (alterMsgs n r r' s.sht.permit))
    (hd : ∃ k ≤ 2, Does k (alterMsgs n r r' s.sht.permit) (s.onSht fun t => t.set n (some r'))
      (s.onSht fun t => t.set n (some r'))) :
    settle (ownSht f s) = .next (s.onSht fun t => t.set n (some r')) :=
  settle_altered hs (hf.trans (by rw [List.append_nil])) hd (.nil _) rfl (by norm_num)

/-- The same with a notice. -/
theorem settle_altered_notice {f : State → State} {r' : Shutter} {b : NoticeBody} (hs : s.quiet = true)
    (hf : f s = ((s.onSht fun t => t.set n (some r')).post (alterMsgs n r r' s.sht.permit)).notify b)
    (hd : ∃ k ≤ 2, Does k (alterMsgs n r r' s.sht.permit) (s.onSht fun t => t.set n (some r'))
      (s.onSht fun t => t.set n (some r'))) :
    settle (ownSht f s) = .next ((s.onSht fun t => t.set n (some r')).noticed b) :=
  settle_altered hs (hf.trans (by simp only [State.notify, State.post, List.append_assoc])) hd (.notice _ _) rfl
    (by norm_num)

/-- A shutter on its way stays on its way: a floor and the chain take it without effect. -/
theorem altered_onTheWay {r' : Shutter} (hr : s.sht.get? n = some r)
    (hold : r.state ≠ .awaitClear) (hbars : r'.state.permits = false) (huse : r'.state.inUse = true) :
    ∃ k ≤ 2, Does k (alterMsgs n r r' s.sht.permit) (s.onSht fun t => t.set n (some r'))
      (s.onSht fun t => t.set n (some r')) := by
  refine Does.altered_inUse (u := s.onSht fun t => t.set n (some r')) (Shutters.get?_set_self hr _) rfl hold (fun h => ?_) huse
    huse hbars
  rw [h] at hbars
  cases hbars

/-! ### Faults -/

theorem shutterFault_held (hr : s.sht.get? n = some r) (hwait : r.state ≠ .waitSupply) (hraise : r.state ≠ .raising)
    (cause : ShutterCause) : shutterFault n cause s =
      ((s.onSht fun t => t.set n (some (r.faulted cause))).post (alterMsgs n r (r.faulted cause) s.sht.permit)).notify
        (.shutterFault n cause r.position r.state) := by
  have hleave : shutterLeaveSupply n r s = s := by
    unfold shutterLeaveSupply
    split
    · exact absurd ‹_› hwait
    · exact absurd ‹_› hraise
    · rfl
  unfold shutterFault
  rw [hr]
  dsimp only
  rw [hleave]
  rfl

theorem shutterFault_raising (hr : s.sht.get? n = some r) (hraise : r.state = .raising) (cause : ShutterCause) :
    shutterFault n cause s = (((s.onSht fun t => t.set n (some (r.faulted cause))).post [.sup (.ended (.shutter n))]).post
      (alterMsgs n r (r.faulted cause) s.sht.permit)).notify (.shutterFault n cause r.position r.state) := by
  have hleave : shutterLeaveSupply n r s = s.post [.sup (.ended (.shutter n))] := by
    unfold shutterLeaveSupply
    rw [hraise]
  unfold shutterFault
  rw [hr]
  dsimp only
  rw [hleave]
  rfl

theorem Shutter.goTo_partOpen (r : Shutter) : r.goTo .partOpen = { r.resting .partOpen with forced := false } := by
  rw [Shutter.goTo_eq]
  simp

end

/-! ### The obstructed descent (R52) -/

section
variable {s : State} {n : Nat} {r : Shutter}

theorem shutterFourth_locked (hr : s.sht.get? n = some r) (hlock : fireLocked s.flr s.fir.condition r = true) :
    shutterFourth n s = ((s.onSht fun t => t.set n (some { r.resumeDescent with edgeIgnored := true })).post
      (alterMsgs n r { r.resumeDescent with edgeIgnored := true } s.sht.permit)).notify (.edgeOverridden n r.arrests) := by
  unfold shutterFourth
  rw [hr]
  exact if_pos hlock

theorem shutterFourth_full (hr : s.sht.get? n = some r) (hlock : fireLocked s.flr s.fir.condition r = false)
    (hfull : s.sup.full (.shutter n) r.config.group = true) : shutterFourth n s =
      ((s.onSht fun t => t.set n (some (r.goTo .partOpen))).post (alterMsgs n r (r.goTo .partOpen) s.sht.permit)).notify
        (.obstructed n r.arrests true) := by
  unfold shutterFourth
  rw [hr]
  exact (if_neg (Bool.eq_false_iff.mp hlock)).trans (if_pos hfull)

theorem shutterFourth_asks (hr : s.sht.get? n = some r) (hagenda : s.agenda = [])
    (hlock : fireLocked s.flr s.fir.condition r = false) (hroom : s.sup.full (.shutter n) r.config.group = false) :
    shutterFourth n s = (s.onSht fun t => t.set n (some (r.resting .waitSupply))).post
      (([.sup (.request (.shutter n) .raise r.config.group), .sup (.pass r.config.group)] ++
        alterMsgs n r (r.resting .waitSupply) s.sht.permit) ++ [.lnk (.notice (.obstructed n r.arrests false))]) := by
  have hask := request_post_alterMsgs (s := s.onSht fun t => t.set n (some (r.resting .waitSupply))) hagenda n r
    (r.resting .waitSupply) s.sht.permit (.shutter n) .raise r.config.group
  unfold shutterFourth
  rw [hr]
  refine (if_neg (Bool.eq_false_iff.mp hlock)).trans ((if_neg (Bool.eq_false_iff.mp hroom)).trans ?_)
  refine (congrArg (State.notify · _) hask).trans ?_
  simp only [State.notify, State.post, List.append_assoc]

end

/-- An expiry that finds its timer running. -/
theorem runs_timer {s : State} {n : Nat} {r : Shutter} (hr : s.sht.get? n = some r) {st : ShutterState} {t : Shutter → Timer}
    (hstate : r.state = st) (hruns : (t r).isRunning = true) :
    ((s.sht.get? n).any fun r => r.state == st && (t r).isRunning) = true := by
  rw [hr]
  simp [hstate, hruns]

section
variable {s : State} {n : Nat} {r : Shutter}

theorem exec_warningTimerExpiry (hs : s.quiet = true) (hr : s.sht.get? n = some r) (hst : r.state = .warning)
    (ht : r.warningTimer.isRunning = true) :
    exec (.warningTimerExpiry n) s = .next (s.onSht fun t => t.set n (some r.descend)) :=
  settle_altered_silent hs
    ((if_pos (runs_timer hr (t := (·.warningTimer)) hst ht)).trans (shutterChange_eq hr _))
    (altered_onTheWay hr (by simp [hst]) rfl rfl)

theorem exec_clearTimerExpiry (hs : s.quiet = true) (hr : s.sht.get? n = some r) (hst : r.state = .arrested)
    (ht : r.clearTimer.isRunning = true) :
    exec (.clearTimerExpiry n) s = .next (s.onSht fun t => t.set n (some r.resumeDescent)) :=
  settle_altered_silent hs
    ((if_pos (runs_timer hr (t := (·.clearTimer)) hst ht)).trans (shutterChange_eq hr _))
    (altered_onTheWay hr (by simp [hst]) rfl rfl)

theorem shutterHoldExpiry_arrested (hr : s.sht.get? n = some r) (hst : r.state = .arrested)
    (ht : r.holdTimer.isRunning = true) : shutterHoldExpiry n s = shutterFourth n s :=
  if_pos (runs_timer hr (t := (·.holdTimer)) hst ht)

theorem exec_holdTimerExpiry_locked (hs : s.quiet = true) (hr : s.sht.get? n = some r) (hst : r.state = .arrested)
    (ht : r.holdTimer.isRunning = true) (hlock : fireLocked s.flr s.fir.condition r = true) :
    exec (.holdTimerExpiry n) s =
      .next ((s.onSht fun t => t.set n (some { r.resumeDescent with edgeIgnored := true })).noticed
        (.edgeOverridden n r.arrests)) :=
  settle_altered_notice hs ((shutterHoldExpiry_arrested hr hst ht).trans (shutterFourth_locked hr hlock))
    (altered_onTheWay hr (by simp [hst]) rfl rfl)

theorem exec_holdTimerExpiry_full (hs : s.quiet = true) (hr : s.sht.get? n = some r) (hst : r.state = .arrested)
    (ht : r.holdTimer.isRunning = true) (hlock : fireLocked s.flr s.fir.condition r = false)
    (hwaits : s.flr.waitsFor r.config.floor = false)
    (hduty : r.isLanding = true → s.chn.state = .halted → s.chn.clearance = [])
    (hfull : s.sup.full (.shutter n) r.config.group = true) : exec (.holdTimerExpiry n) s =
      .next ((s.onSht fun t => t.set n (some (r.goTo .partOpen))).noticed (.obstructed n r.arrests true)) :=
  settle_altered_notice hs ((shutterHoldExpiry_arrested hr hst ht).trans (shutterFourth_full hr hlock hfull))
    (Does.altered (by simp [hst, Shutter.goTo_eq, Shutter.resting])
      (fun _ => Does.landingChanged_of_set (u := s.onSht _) hr (fun h => .inr (hduty h)) rfl)
      (Does.floorChanged_idle (u := s.onSht _) hwaits _ _))

theorem exec_holdTimerExpiry_holds (hs : s.quiet = true) (hr : s.sht.get? n = some r) (hst : r.state = .arrested)
    (ht : r.holdTimer.isRunning = true) (hlock : fireLocked s.flr s.fir.condition r = false)
    (hduty : r.isLanding = true → s.chn.state = .halted → s.chn.clearance = [])
    (hnew : ∀ g ∈ s.sup.groups[r.config.group]?, ∀ q ∈ g.queue, q.owner ≠ .shutter n)
    (hholds : s.sup.holds r.config.group = true) : exec (.holdTimerExpiry n) s =
      .next (((s.onSht fun t => t.set n (some (r.resting .waitSupply))).onSup fun u => u.modify r.config.group fun g =>
        { g with queue := g.queue ++ [⟨.shutter n, .raise⟩] }).noticed (.obstructed n r.arrests false)) := by
  obtain ⟨g, hg, hroom, -⟩ := Supply.holds_iff.mp hholds
  obtain ⟨k, hk, hd⟩ := Does.asks_holds hr (by simp [hst]) (fun h => .inr (hduty h)) hnew hholds
  exact settle_event (b := .sht) hs ((shutterHoldExpiry_arrested hr hst ht).trans
    (shutterFourth_asks hr (s.quiet_iff.mp hs).1 hlock (Supply.full_eq_false hg hroom))) (hd.append (.notice _ _))
    (hn := by omega)

theorem exec_holdTimerExpiry_admits (hs : s.quiet = true) (hr : s.sht.get? n = some r) (hst : r.state = .arrested)
    (ht : r.holdTimer.isRunning = true) (hlock : fireLocked s.flr s.fir.condition r = false)
    (hstill : r.isLanding = true → s.chn.state.moving = false)
    (hadmits : s.sup.admits r.config.group = true) (hrefused : s.chn.creepRefused = false) :
    exec (.holdTimerExpiry n) s =
      .next (((s.onSup fun u => u.withMove r.config.group (.shutter n) .raise).onSht fun t =>
        t.set n (some { r.resting .raising with raiseTimer := Timer.start r.config.raise })).noticed
          (.obstructed n r.arrests false)) := by
  obtain ⟨g, hg, -, hq, -⟩ := Supply.admits_iff.mp hadmits
  obtain ⟨k, hk, hd⟩ := Does.asks_admits hr (by simp [hst]) hlock hstill hadmits hrefused
  exact settle_event (b := .sht) hs ((shutterHoldExpiry_arrested hr hst ht).trans
    (shutterFourth_asks hr (s.quiet_iff.mp hs).1 hlock (Supply.full_eq_false hg (by rw [hq]; norm_num))))
    (hd.append (.notice _ _)) (hn := by omega)

/-- A hall shutter goes to FAULT. -/
theorem altered_faulted (cause : ShutterCause) (hst : r.state ≠ .awaitClear) (hhall : r.isLanding = false)
    (hwaits : s.flr.waitsFor r.config.floor = false) :
    ∃ k ≤ 2, Does k (alterMsgs n r (r.faulted cause) s.sht.permit) (s.onSht fun t => t.set n (some (r.faulted cause)))
      (s.onSht fun t => t.set n (some (r.faulted cause))) :=
  Does.altered_hall (u := s.onSht fun t => t.set n (some (r.faulted cause))) (by simp [hst, Shutter.faulted]) hhall hwaits

theorem exec_descentTimeout (hs : s.quiet = true) (hr : s.sht.get? n = some r) (hst : r.state = .descending)
    (ht : r.descentTimer.isRunning = true) (hhall : r.isLanding = false) (hwaits : s.flr.waitsFor r.config.floor = false) :
    exec (.descentTimeout n) s = .next ((s.onSht fun t => t.set n (some (r.faulted .descentTimeout))).noticed
      (.shutterFault n .descentTimeout r.position r.state)) :=
  settle_altered_notice hs ((if_pos (runs_timer hr (t := (·.descentTimer)) hst ht)).trans
    (shutterFault_held hr (by simp [hst]) (by simp [hst]) _)) (altered_faulted _ (by simp [hst]) hhall hwaits)

theorem exec_raiseTimeout (hs : s.quiet = true) (hr : s.sht.get? n = some r) (hst : r.state = .raising)
    (ht : r.raiseTimer.isRunning = true) (hhall : r.isLanding = false) (hwaits : s.flr.waitsFor r.config.floor = false)
    (hsettles : s.sup.settles = true) :
    exec (.raiseTimeout n) s = .next (((s.onSht fun t => t.set n (some (r.faulted .raiseTimeout))).onSup fun u =>
      u.ended (.shutter n)).noticed (.shutterFault n .raiseTimeout r.position r.state)) := by
  set v := s.onSht fun t => t.set n (some (r.faulted .raiseTimeout))
  have hended : Does 1 _ v (v.onSup fun u => u.ended (.shutter n)) := Does.ended (u := v) hsettles _
  obtain ⟨k, hk, hd⟩ := Does.altered_hall (u := v.onSup fun u => u.ended (.shutter n)) (n := n) (old := r)
    (r := r.faulted .raiseTimeout) (permitted := s.sht.permit) (by simp [hst, Shutter.faulted]) hhall hwaits
  refine settle_event (b := .sht) (f := shutterRaiseTimeout n) (v := v) hs ?_ ((hended.append hd).append (.notice _ _))
    (hn := by omega)
  refine (if_pos (runs_timer hr (t := (·.raiseTimer)) hst ht)).trans ((shutterFault_raising hr hst _).trans ?_)
  simp only [v, State.notify, State.post, List.append_assoc]

end

/-- Settles O38: the warning, clear, hold, descent and raise timers. -/
theorem shutterTimers : Obligations.ShutterTimers := by
  intro s n hs r hr
  refine ⟨exec_warningTimerExpiry hs hr, exec_clearTimerExpiry hs hr, exec_holdTimerExpiry_locked hs hr, ?_, ?_, ?_⟩
  · intro hst ht hlock hwaits hduty
    refine ⟨fun hfull => ?_, fun hnew => ⟨fun hholds => ?_, fun hadmits hrefused hstill => ?_⟩⟩
    · rw [← Shutter.goTo_partOpen]
      exact exec_holdTimerExpiry_full hs hr hst ht hlock hwaits hduty hfull
    · exact exec_holdTimerExpiry_holds hs hr hst ht hlock hduty hnew hholds
    · exact exec_holdTimerExpiry_admits hs hr hst ht hlock hstill hadmits hrefused
  · intro hst ht hhall hwaits
    rw [← hst]
    exact exec_descentTimeout hs hr hst ht hhall hwaits
  · intro hst ht hhall hwaits hsettles
    rw [← hst, supplyEnded_sup hsettles]
    exact exec_raiseTimeout hs hr hst ht hhall hwaits hsettles

end Sys2Proof.Machine
end

section
/-! DROP SHUTTER (R46). -/

namespace Sys2Proof.Machine

/-- A shutter that begins its drop: WARNING, or DESCENDING where its warning time is 0 (R49). -/
def Shutter.falls (r : Shutter) : Shutter :=
  if r.config.warning = 0 then { r.resting .descending with arrests := 0, descentTimer := Timer.start r.config.descent }
  else { r.resting .warning with warningTimer := Timer.start r.config.warning }

/-- A shutter that warns (R49). -/
def Shutter.warns (r : Shutter) : Shutter := { r.resting .warning with warningTimer := Timer.start r.config.warning }

theorem Shutter.falls_of_zero {r : Shutter} (h : r.config.warning = 0) : r.falls = r.warns.descend := if_pos h

theorem Shutter.falls_of_pos {r : Shutter} (h : r.config.warning ≠ 0) : r.falls = r.warns := if_neg h

theorem Shutter.falls_config (r : Shutter) : r.falls.config = r.config := by
  unfold Shutter.falls
  split <;> rfl

theorem Shutter.falls_onTheWay (r : Shutter) : r.falls.state.inUse = true ∧ r.falls.state.permits = false := by
  unfold Shutter.falls
  split <;> exact ⟨rfl, rfl⟩

/-- What the beginning of a drop hands on: one change, or two where the warning time is 0. -/
def warnMsgs (n : Nat) (r : Shutter) (t : Shutters) : List Msg :=
  alterMsgs n r r.warns t.permit ++
    if r.config.warning = 0 then alterMsgs n r.warns r.warns.descend (t.set n (some r.warns)).permit else []

theorem shutterWarn_eq {s : State} {n : Nat} {r : Shutter} (hr : s.sht.get? n = some r) :
    shutterWarn n s = (s.onSht fun t => t.set n (some r.falls)).post (warnMsgs n r s.sht) := by
  set s₁ := (s.onSht fun t => t.set n (some r.warns)).post (alterMsgs n r r.warns s.sht.permit) with hs₁
  have hfirst : shutterChange n (fun r => { r.quiet with state := .warning, warningTimer := Timer.start r.config.warning }) s =
      s₁ := shutterChange_eq hr _
  have hr₁ : s₁.sht.get? n = some r.warns := Shutters.get?_set_self hr _
  have hany : ((s₁.sht.get? n).any fun r => r.config.warning == 0) = decide (r.config.warning = 0) := by
    rw [hr₁]
    simp [Shutter.warns, Shutter.resting, beq_eq_decide]
  unfold shutterWarn
  rw [hfirst]
  dsimp only
  rw [hany]
  by_cases hzero : r.config.warning = 0
  · refine (if_pos (decide_eq_true hzero)).trans ((shutterChange_eq hr₁ _).trans ?_)
    simp only [warnMsgs, if_pos hzero, Shutter.falls_of_zero hzero, hs₁, State.post, State.onSht, Shutters.set, List.set_set,
      List.append_assoc]
  · refine (if_neg (by simpa using hzero)).trans ?_
    simp only [warnMsgs, if_neg hzero, Shutter.falls_of_pos hzero, hs₁, List.append_nil]

theorem Does.warnMsgs {u : State} {n : Nat} {r : Shutter} (hu : u.sht.get? n = some r.falls) (hold : r.state ≠ .awaitClear)
    (t : Shutters) : ∃ k ≤ 4, Does k (warnMsgs n r t) u u := by
  obtain ⟨huse, hbars⟩ := r.falls_onTheWay
  obtain ⟨j, hj, hwarns⟩ := Does.altered_inUse (n := n) (old := r) (r := r.warns) (permitted := t.permit) hu r.falls_config hold
    (by simp [Shutter.warns, Shutter.resting]) rfl huse hbars
  unfold Machine.warnMsgs
  by_cases hzero : r.config.warning = 0
  · obtain ⟨k, hk, hdescends⟩ := Does.altered_inUse (n := n) (old := r.warns) (r := r.warns.descend)
      (permitted := (t.set n (some r.warns)).permit) hu r.falls_config (by simp [Shutter.warns, Shutter.resting])
      (by simp [Shutter.descend]) rfl huse hbars
    rw [if_pos hzero]
    exact ⟨j + k, by omega, hwarns.append hdescends⟩
  · rw [if_neg hzero, List.append_nil]
    exact ⟨j, by omega, hwarns⟩

section
variable {s : State} {n : Nat} {r : Shutter}

/-- A hall shutter, or one whose landing the parked chain stands clear of, begins its drop at once. -/
theorem shutterFall_warns (hr : s.sht.get? n = some r)
    (hclear : ∀ l ∈ r.landing?, s.chn.state = .parked ∧ ∃ p ∈ s.chn.park, l ∈ p.set) : shutterFall n s = shutterWarn n s := by
  unfold shutterFall
  rw [hr]
  cases hl : r.landing? with
  | none => simp [hl]
  | some l =>
    obtain ⟨hparked, p, hp, hmem⟩ := hclear l hl
    have hpark : s.chn.park = some p := hp
    have hclear' : s.chn.parkedClearOf l = true := by simp [Chain.parkedClearOf, hparked, hpark, hmem]
    simp [hl, hclear']

/-- A landing shutter of a chain that does not stand PARKED waits for clearance. -/
theorem shutterFall_waits {l : Nat} (hr : s.sht.get? n = some r) (hl : r.landing? = some l) (hstate : s.chn.state ≠ .parked) :
    shutterFall n s = (s.onSht fun t => t.set n (some (r.resting .awaitClear))).post
      (alterMsgs n r (r.resting .awaitClear) s.sht.permit) := by
  have hclear : s.chn.parkedClearOf l = false := by simp [Chain.parkedClearOf, hstate]
  unfold shutterFall
  rw [hr]
  simp only [Option.bind_some, hl, hclear, Bool.false_eq_true, if_false]
  exact shutterChange_eq hr _

/-! ### The answers -/

theorem shutterDrop_takes (hr : s.sht.get? n = some r)
    (hst : r.state = .awaitClear ∨ r.state = .warning ∨ r.state = .descending ∨ r.state = .arrested) :
    shutterDrop n s = taken s := by
  rcases hst with h | h | h | h <;> simp only [shutterDrop, hr, h]

theorem shutterDrop_wrong (hr : s.sht.get? n = some r) (hst : r.state = .fault ∨ r.state = .unseen) :
    shutterDrop n s = declined .wrongState s := by
  rcases hst with h | h <;> simp only [shutterDrop, hr, h]

theorem shutterDrop_closed (hr : s.sht.get? n = some r) (hst : r.state = .closed) : shutterDrop n s = done s := by
  simp only [shutterDrop, hr, hst]

theorem shutterDrop_held (hr : s.sht.get? n = some r) (hst : r.state = .opened ∨ r.state = .partOpen) :
    shutterDrop n s = taken (shutterFall n s) := by
  rcases hst with h | h <;> simp only [shutterDrop, hr, h]

theorem shutterDrop_raising (hr : s.sht.get? n = some r) (hst : r.state = .raising) :
    shutterDrop n s = taken (shutterFall n (s.post [.sup (.ended (.shutter n))])) := by
  simp only [shutterDrop, hr, hst]

theorem ask_withdraw (hagenda : s.agenda = []) (owner : MoveOwner) :
    s.ask [.withdraw owner] = s.post [.sup (.withdraw owner)] := by
  simp only [State.ask, State.post, hagenda, List.filter_nil, List.nil_append, List.append_nil, List.map_cons, List.map_nil]

theorem shutterDrop_waiting (hr : s.sht.get? n = some r) (hagenda : s.agenda = []) (hst : r.state = .waitSupply)
    (hpos : r.position ≠ .bottom) :
    shutterDrop n s = taken (shutterFall n (s.post [.sup (.withdraw (.shutter n))])) := by
  simp only [shutterDrop, hr, hst, if_neg hpos, ask_withdraw hagenda]

theorem shutterDrop_waiting_bottom (hr : s.sht.get? n = some r) (hagenda : s.agenda = []) (hst : r.state = .waitSupply)
    (hpos : r.position = .bottom) : shutterDrop n s =
      ((s.onSht fun t => t.set n (some (r.resting .closed))).post
        ([.sup (.withdraw (.shutter n))] ++ alterMsgs n r (r.resting .closed) s.sht.permit), .done false []) := by
  simp only [shutterDrop, hr, hst, if_pos hpos, ask_withdraw hagenda]
  refine congrArg (·, Result.done false []) ((shutterChange_eq (s := s.post _) hr _).trans ?_)
  rw [Shutter.goTo_closed]
  simp only [State.post, State.onSht, List.append_assoc]

end

theorem setUnion_singleton (a : List Nat) (l : Nat) :
    setUnion a [l] = (List.range 16).filter fun k => a.contains k || k == l := by
  simp [setUnion, beq_eq_decide]

/-- A landing joins the clearance set of a chain that takes no stop request (R10, R11). -/
theorem Does.join {u : State} {l : Nat} (hnew : u.chn.clearance.contains l = false) (hwaits : u.sht.waiting l = true)
    (hstate : u.chn.state = .tripped ∨ u.chn.state = .inspectionIdle) (hfire : u.peaceful = true) :
    Does (1 + 1) [.chn (.join l)] u (u.onChn fun c => { c with clearance := setUnion c.clearance [l] }) :=
  .chn (f := fun c => { c with clearance := setUnion c.clearance [l] }) (ms := [.fir .chainChanged]) (fun q => by
    have hjoins : ¬ (u.chn.clearance.contains l || !u.sht.waiting l) = true := by
      rw [hwaits, hnew]
      exact Bool.false_ne_true
    refine (if_neg hjoins).trans ?_
    unfold chainStop
    rcases hstate with h | h <;> simp only [State.post_chn, State.onChn_chn, State.during_chn, h] <;> rfl)
    (.chainChanged (u := u.onChn _) hfire)

section
variable {s : State} {n tag : Nat} {r : Shutter} {pre : List Msg} {f : Supply → Supply}

/-- The drop of a shutter that gives its place in the supply unit up as `pre` says, and warns or descends. -/
theorem exec_dropShutter_falls (hs : s.ready = true) (hn : n ≤ 47) (hr : s.sht.get? n = some r) (hst : r.state ≠ .awaitClear)
    (hdrop : ∀ q, shutterDrop n (s.during q []) = taken (shutterFall n ((s.during q []).post pre)))
    (hpre : ∀ v : State, v.sup = s.sup → v.chn = s.chn → ∃ k ≤ 2, Does k pre v (v.onSup f))
    (hclear : ∀ l ∈ r.landing?, s.chn.state = .parked ∧ ∃ p ∈ s.chn.park, l ∈ p.set) :
    exec (.dropShutter tag n) s =
      .next (((s.onSht fun t => t.set n (some r.falls)).onSup f).answered tag (.dropShutter n) (.taken false)) := by
  obtain ⟨j, hj, hgives⟩ := hpre (s.onSht fun t => t.set n (some r.falls)) rfl rfl
  obtain ⟨k, hk, hwarns⟩ := Does.warnMsgs (u := (s.onSht fun t => t.set n (some r.falls)).onSup f)
    (Shutters.get?_set_self hr _) hst s.sht
  refine exec_of_does (v := s.onSht fun t => t.set n (some r.falls)) rfl hs (fun hw => absurd hw Bool.false_ne_true)
    (fun q => ?_) (hgives.append hwarns) (hn := by omega)
  have hfalls : shutterFall n ((s.during q []).post pre) =
      (s.onSht fun t => t.set n (some r.falls)).during q (pre ++ warnMsgs n r s.sht) :=
    (shutterFall_warns (s := (s.during q []).post pre) hr hclear).trans
      (shutterWarn_eq (s := (s.during q []).post pre) hr)
  refine (withShutter_present (s := s.during q []) hn hr _).trans ((hdrop q).trans ?_)
  exact congrArg (·, Result.taken false) hfalls

/-- The drop of a landing shutter whose chain cannot move to clear it: it waits, and its landing joins the clearance set. -/
theorem exec_dropShutter_waits (hs : s.ready = true) (hn : n ≤ 47) (hr : s.sht.get? n = some r) (hst : r.state ≠ .awaitClear)
    (hdrop : ∀ q, shutterDrop n (s.during q []) = taken (shutterFall n ((s.during q []).post pre)))
    (hpre : ∀ v : State, v.sup = s.sup → v.chn = s.chn → ∃ k ≤ 2, Does k pre v (v.onSup f))
    {l : Nat} (hl : r.landing? = some l) (hstate : s.chn.state = .tripped ∨ s.chn.state = .inspectionIdle)
    (hfire : s.peaceful = true) (hnew : s.chn.clearance.contains l = false) :
    exec (.dropShutter tag n) s =
      .next ((((s.onSht fun t => t.set n (some (r.resting .awaitClear))).onSup f).onChn fun c =>
        { c with clearance := setUnion c.clearance [l] }).answered tag (.dropShutter n) (.taken false)) := by
  set v := s.onSht fun t => t.set n (some (r.resting .awaitClear))
  have hr' : v.sht.get? n = some (r.resting .awaitClear) := Shutters.get?_set_self hr _
  obtain ⟨j, hj, hgives⟩ := hpre v rfl rfl
  have hwaiting : v.sht.waiting l = true :=
    List.any_eq_true.mpr ⟨_, List.mem_of_getElem? (present?_eq_some.mp hr'), by
      simpa [Shutter.landing?, Shutter.resting] using hl⟩
  have hjoin := Does.join (u := v.onSup f) hnew hwaiting hstate hfire
  set w := (v.onSup f).onChn fun c => { c with clearance := setUnion c.clearance [l] }
  have hchain : Does 1 [.chn (.shutterChanged s.sht.permit false)] w w :=
    .landingChanged (fun h => by cases h) fun _ _ hhalted => by
      have hhalted : s.chn.state = .halted := hhalted
      rcases hstate with h | h <;> rw [h] at hhalted <;> cases hhalted
  have hfloor : Does 1 [.flr (.shutterChanged r.config.floor n r.state .awaitClear)] w w :=
    .floorChanged_inUse (u := w) hr' rfl rfl rfl
  refine exec_of_does (v := v) rfl hs (fun hw => absurd hw Bool.false_ne_true) (fun q => ?_)
    (hgives.append (hjoin.cons (hchain.cons hfloor))) (hn := by omega)
  have hmsgs : alterMsgs n r (r.resting .awaitClear) s.sht.permit =
      [.chn (.join l), .chn (.shutterChanged s.sht.permit false),
        .flr (.shutterChanged r.config.floor n r.state .awaitClear)] := by
    have hl' : (r.resting .awaitClear).landing? = some l := hl
    have hstate' : (r.resting .awaitClear).state = .awaitClear := rfl
    have hconfig : (r.resting .awaitClear).config = r.config := rfl
    simp [alterMsgs, Shutter.isLanding, hl', hst, hstate', hconfig]
  have hfalls : shutterFall n ((s.during q []).post pre) = v.during q
      (pre ++ alterMsgs n r (r.resting .awaitClear) s.sht.permit) :=
    shutterFall_waits (s := (s.during q []).post pre) hr hl (by rcases hstate with h | h <;> simp [h])
  refine (withShutter_present (s := s.during q []) hn hr _).trans ((hdrop q).trans ?_)
  rw [← hmsgs]
  exact congrArg (·, Result.taken false) hfalls

end

/-- What a shutter does with its place in the supply unit as it drops: it has none, gives its request up, or ends its move. -/
theorem gives_nothing {s : State} : ∀ v : State, v.sup = s.sup → v.chn = s.chn → ∃ k ≤ 2, Does k [] v (v.onSup id) :=
  fun v _ _ => ⟨0, by norm_num, .nil v⟩

theorem gives_request {s : State} {owner : MoveOwner} {g : Nat}
    (h : (!s.chn.creepRefused && s.sup.waitsOnlyIn owner g) = true) : ∀ v : State, v.sup = s.sup → v.chn = s.chn →
    ∃ k ≤ 2, Does k [.sup (.withdraw owner)] v (v.onSup fun p => p.withdrawn owner g) := by
  intro v hsup hchn
  obtain ⟨hrefused, hwaits⟩ := Bool.and_eq_true_iff.mp h
  exact Does.withdraw (by rw [hsup, hwaits]) (.inr (by rw [hchn]; simpa using hrefused))

theorem ends_move {s : State} {owner : MoveOwner} (h : s.sup.settles = true) : ∀ v : State, v.sup = s.sup → v.chn = s.chn →
    ∃ k ≤ 2, Does k [.sup (.ended owner)] v (v.onSup fun p => p.ended owner) :=
  fun v hsup _ => ⟨1, by norm_num, Does.ended (by rw [hsup, h]) owner⟩

/-- Settles O35: by the state of the shutter, and of the chain at its landing. -/
theorem dropShutter : Obligations.DropShutter := by
  intro s tag n hs
  have hsame {res : Result} (h : ∀ q, orderDropShutter n (s.during q []) = (s.during q [], res)) :
      exec (.dropShutter tag n) s = .next (s.answered tag (.dropShutter n) res) :=
    exec_unchanged rfl hs (fun hw => absurd hw Bool.false_ne_true) h
  refine ⟨fun hn => hsame fun q => if_pos (by simpa using hn), fun hn hr => hsame fun q => ?_, fun hn r hr => ?_⟩
  · simp only [orderDropShutter, withShutter, State.during_sht, hr, hn, decide_true, Bool.not_true, Bool.false_eq_true,
      if_false]
    rfl
  have hpresent (q : List Request) : orderDropShutter n (s.during q []) = shutterDrop n (s.during q []) :=
    withShutter_present (s := s.during q []) hn hr _
  have hstays {res : Result} (h : ∀ q, shutterDrop n (s.during q []) = (s.during q [], res)) :
      exec (.dropShutter tag n) s = .next (s.answered tag (.dropShutter n) res) :=
    hsame fun q => (hpresent q).trans (h q)
  refine ⟨fun hst => hstays fun q => shutterDrop_wrong (s := s.during q []) hr hst,
    fun hst => hstays fun q => shutterDrop_closed (s := s.during q []) hr hst,
    fun hst => hstays fun q => shutterDrop_takes (s := s.during q []) hr hst, ?_⟩
  have hheld (hst : r.state = .opened ∨ r.state = .partOpen) :
      r.state ≠ .awaitClear ∧ ∀ q, shutterDrop n (s.during q []) = taken (shutterFall n ((s.during q []).post [])) :=
    ⟨by rcases hst with h | h <;> simp [h], fun q => by
      rw [State.post_nil]
      exact shutterDrop_held (s := s.during q []) hr hst⟩
  have hwaiting (hst : r.state = .waitSupply) (hpos : r.position ≠ .bottom) :
      r.state ≠ .awaitClear ∧ ∀ q, shutterDrop n (s.during q []) =
        taken (shutterFall n ((s.during q []).post [.sup (.withdraw (.shutter n))])) :=
    ⟨by simp [hst], fun q => shutterDrop_waiting (s := s.during q []) hr rfl hst hpos⟩
  have hraising (hst : r.state = .raising) :
      r.state ≠ .awaitClear ∧ ∀ q, shutterDrop n (s.during q []) =
        taken (shutterFall n ((s.during q []).post [.sup (.ended (.shutter n))])) :=
    ⟨by simp [hst], fun q => shutterDrop_raising (s := s.during q []) hr hst⟩
  intro falls answer ended withdrawn queued
  have hended (hsettles : s.sup.settles = true) (x : Shutter) :
      ended x = (s.onSht fun t => t.set n (some x)).onSup fun p => p.ended (.shutter n) := by
    simp only [ended, supplyEnded_sup hsettles]
    rfl
  refine ⟨fun hst hqueued hpos hfloor => ?_, fun hclear => ⟨fun hst => ?_, fun hst hqueued hpos => ?_,
    fun hst hsettles => ?_⟩, ?_⟩
  · set v := s.onSht fun t => t.set n (some (r.resting .closed))
    obtain ⟨j, hj, hgives⟩ := gives_request hqueued v rfl rfl
    obtain ⟨k, hk, hreport⟩ := Does.altered (u := v.onSup fun p => p.withdrawn (.shutter n) r.config.group) (n := n)
      (old := r) (r := r.resting .closed) (permitted := s.sht.permit) (by simp [hst, Shutter.resting])
      (fun _ => Does.landingChanged_of_set hr (fun _ => .inl (by rw [hst]; rfl)) rfl)
      (Does.floorChanged_idle (u := v.onSup _) hfloor _ _)
    refine exec_of_does (v := v) rfl hs (fun hw => absurd hw Bool.false_ne_true) (fun q => ?_) (hgives.append hreport)
      (hn := by omega)
    exact (hpresent q).trans (shutterDrop_waiting_bottom (s := s.during q []) hr rfl hst hpos)
  · exact exec_dropShutter_falls hs hn hr (hheld hst).1 (hheld hst).2 gives_nothing hclear
  · exact exec_dropShutter_falls hs hn hr (hwaiting hst hpos).1 (hwaiting hst hpos).2 (gives_request hqueued) hclear
  · refine Eq.trans ?_ (congrArg answer (hended hsettles falls)).symm
    exact exec_dropShutter_falls hs hn hr (hraising hst).1 (hraising hst).2 (ends_move hsettles) hclear
  · intro l hl hstate hcondition hhold hnew joined
    have hfire : s.peaceful = true := s.peaceful_iff.mpr ⟨hcondition, hhold⟩
    have hjoined (t : State) : joined t = t.onChn fun c => { c with clearance := setUnion c.clearance [l] } :=
      State.onChn_congr (by simp only [setUnion_singleton])
    rw [hjoined, hjoined, hjoined]
    exact ⟨fun hst => exec_dropShutter_waits hs hn hr (hheld hst).1 (hheld hst).2 gives_nothing hl hstate hfire hnew,
      fun hst hqueued hpos => exec_dropShutter_waits hs hn hr (hwaiting hst hpos).1 (hwaiting hst hpos).2
        (gives_request hqueued) hl hstate hfire hnew,
      fun hst hsettles => (exec_dropShutter_waits hs hn hr (hraising hst).1 (hraising hst).2 (ends_move hsettles) hl hstate
        hfire hnew).trans (by rw [hended hsettles])⟩

end Sys2Proof.Machine
end

section
/-! FORCE DROP and CLEAR SHUTTER FAULT (R48, R61). -/

namespace Sys2Proof.Machine

theorem Shutters.waiting_iff (t : Shutters) (l : Nat) : t.waiting l = true ↔
    ∃ k < t.table.length, ∃ q ∈ t.get? k, q.landing? = some l ∧ q.state = .awaitClear := by
  simp only [Shutters.waiting, List.any_eq_true, Option.any_eq_true, Bool.and_eq_true, beq_iff_eq]
  constructor
  · rintro ⟨o, ho, q, rfl, hq⟩
    obtain ⟨k, hk⟩ := List.mem_iff_getElem?.mp ho
    exact ⟨k, (List.getElem?_eq_some_iff.mp hk).1, q, present?_eq_some.mpr hk, hq⟩
  · rintro ⟨k, -, q, hq, hstate⟩
    exact ⟨some q, List.mem_of_getElem? (present?_eq_some.mp hq), q, rfl, hstate⟩

/-- A landing waits when another shutter than one that has just left AWAIT_CLEAR does. -/
theorem Shutters.waiting_set_iff {t : Shutters} {n : Nat} {x : Shutter} (hn : n < t.table.length)
    (hx : x.state ≠ .awaitClear) (l : Nat) : (t.set n (some x)).waiting l = true ↔
    ∃ k < t.table.length, k ≠ n ∧ ∃ q ∈ t.get? k, q.landing? = some l ∧ q.state = .awaitClear := by
  rw [Shutters.waiting_iff]
  have hlength : (t.set n (some x)).table.length = t.table.length := List.length_set ..
  rw [hlength]
  constructor
  · rintro ⟨k, hk, q, hq, hl, hstate⟩
    have hne : k ≠ n := by
      rintro rfl
      have hself : (t.set k (some x)).get? k = some x := present?_eq_some.mpr (List.getElem?_set_self hn)
      rw [hself] at hq
      obtain rfl := Option.some.inj hq
      exact hx hstate
    exact ⟨k, hk, hne, q, by rwa [Shutters.get?_set_ne hne.symm] at hq, hl, hstate⟩
  · rintro ⟨k, hk, hne, q, hq, hl, hstate⟩
    exact ⟨k, hk, q, by rwa [Shutters.get?_set_ne hne.symm], hl, hstate⟩

/-- A landing leaves the clearance set with the last of its shutters (R10). -/
theorem Does.leave {u : State} (hfire : u.peaceful = true) (l : Nat) : ∃ k ≤ 2, Does k [.chn (.leave l)] u
    (u.onChn fun c => { c with clearance := if u.sht.waiting l = true then c.clearance else setMinus c.clearance [l] }) := by
  by_cases hwaits : u.sht.waiting l = true
  · refine ⟨1, by norm_num, ?_⟩
    have hsame : (u.onChn fun c => { c with clearance :=
        (if u.sht.waiting l = true then c.clearance else setMinus c.clearance [l]) }) = u := by
      simp only [if_pos hwaits]
      rfl
    rw [hsame]
    exact .chn_same fun q => if_pos hwaits
  · refine ⟨1 + 1, le_rfl, .chn (ms := [.fir .chainChanged]) (fun q => ?_) (.chainChanged (u := u.onChn _) hfire)⟩
    simp only [if_neg hwaits]
    exact if_neg hwaits

/-- What a landing shutter that leaves AWAIT_CLEAR hands on. -/
theorem alterMsgs_leave {n l : Nat} {old r : Shutter} {permitted : Bool} (hl : old.landing? = some l)
    (hold : old.state = .awaitClear) (hlanding : r.isLanding = true) {st : ShutterState} (hr : r.state = st)
    (hst : st ≠ .awaitClear := by decide) : alterMsgs n old r permitted =
      [.chn (.leave l), .chn (.shutterChanged permitted (st == .fault)),
        .flr (.shutterChanged r.config.floor n .awaitClear st)] := by
  simp [alterMsgs, hl, hold, hlanding, hr, hst, hst.symm]

section
variable {s : State} {n : Nat} {r : Shutter}

theorem orderForceDrop_wrong (hn : n ≤ 47) (hr : s.sht.get? n = some r) (h : r.isLanding = false ∨ r.state ≠ .awaitClear) :
    orderForceDrop n s = declined .wrongState s := by
  refine (withShutter_present hn hr _).trans (if_pos ?_)
  rcases h with h | h <;> simp [h]

theorem orderForceDrop_moving (hn : n ≤ 47) (hr : s.sht.get? n = some r) (hlanding : r.isLanding = true)
    (hst : r.state = .awaitClear) (hmoves : s.chn.stationary = false) : orderForceDrop n s = declined .chainMoving s := by
  refine (withShutter_present hn hr _).trans ?_
  simp only [hlanding, hst, hmoves, Bool.not_true, Bool.false_or, bne_self_eq_false, Bool.false_eq_true, if_false,
    Bool.not_false, if_true]

theorem orderForceDrop_drops (hn : n ≤ 47) (hr : s.sht.get? n = some r) (hlanding : r.isLanding = true)
    (hst : r.state = .awaitClear) (hmoves : s.chn.stationary = true) :
    orderForceDrop n s = taken (shutterWarn n (s.onSht fun t => t.set n (some { r with forced := true }))) := by
  refine (withShutter_present hn hr _).trans ?_
  simp only [hlanding, hst, hmoves, Bool.not_true, Bool.false_or, bne_self_eq_false, Bool.false_eq_true, if_false]

theorem exec_forceDrop (hs : s.ready = true) (hn : n ≤ 47) (hr : s.sht.get? n = some r) {l : Nat} (hl : r.landing? = some l)
    (hst : r.state = .awaitClear) (hmoves : s.chn.stationary = true) (hfire : s.peaceful = true)
    (hwarning : r.config.warning ≠ 0) (tag : Nat) :
    exec (.forceDrop tag n) s = .next (((s.onSht fun t => t.set n (some
      { r.resting .warning with forced := true, warningTimer := Timer.start r.config.warning })).onChn fun c =>
      { c with clearance :=
          if (s.sht.set n (some { r.resting .warning with
            forced := true, warningTimer := Timer.start r.config.warning })).waiting l = true
          then c.clearance else setMinus c.clearance [l] }).answered tag (.forceDrop n) (.taken false)) := by
  set x : Shutter := { r.resting .warning with forced := true, warningTimer := Timer.start r.config.warning }
  set v := s.onSht fun t => t.set n (some x) with hv
  set w := v.onChn fun c =>
    { c with clearance := if v.sht.waiting l = true then c.clearance else setMinus c.clearance [l] }
  have hx : w.sht.get? n = some x := Shutters.get?_set_self hr _
  have hxl : x.isLanding = true := show r.isLanding = true by simp [Shutter.isLanding, hl]
  obtain ⟨k, hk, hleaves⟩ := Does.leave (u := v) hfire l
  have hchain : Does 1 [.chn (.shutterChanged (s.sht.set n (some { r with forced := true })).permit false)] w w :=
    .landingChanged_bars hx hxl rfl
  have hfloor : Does 1 [.flr (.shutterChanged r.config.floor n .awaitClear .warning)] w w :=
    .floorChanged_inUse hx rfl rfl rfl
  have hmsgs (t : Shutters) : warnMsgs n { r with forced := true } t =
      [.chn (.leave l), .chn (.shutterChanged t.permit false), .flr (.shutterChanged r.config.floor n .awaitClear .warning)] := by
    rw [warnMsgs, if_neg hwarning, List.append_nil]
    exact alterMsgs_leave (old := { r with forced := true }) hl hst hxl (st := .warning) rfl
  refine exec_of_does (v := v) rfl hs (fun hw => absurd hw Bool.false_ne_true) (fun q => ?_)
    (hleaves.cons (hchain.cons hfloor)) (hn := by omega)
  refine (orderForceDrop_drops (s := s.during q []) hn hr (by simp [Shutter.isLanding, hl]) hst hmoves).trans ?_
  have hforced : ((s.during q []).onSht fun t => t.set n (some { r with forced := true })).sht.get? n =
      some { r with forced := true } := Shutters.get?_set_self hr _
  refine congrArg (·, Result.taken false) ((shutterWarn_eq hforced).trans ?_)
  rw [hmsgs, Shutter.falls_of_pos (r := { r with forced := true }) hwarning]
  simp only [hv, State.onSht, Shutters.set, List.set_set]
  rfl

/-! ### CLEAR SHUTTER FAULT -/

/-- The record after its fault is cleared. -/
def Shutter.cleared (r : Shutter) : Shutter :=
  { r.held with cause := none, observed := none, arrests := 0, faultCoil := false }

theorem orderClearShutterFault_wrong (hn : n ≤ 47) (hr : s.sht.get? n = some r)
    (h : r.state ≠ .fault ∨ s.flp.isPresent r.config.node = false ∨ r.position = .both ∨ r.melted = true) :
    orderClearShutterFault n s = declined .wrongState s := by
  refine (withShutter_present hn hr _).trans (if_pos ?_)
  rcases h with h | h | h | h <;> simp [h]

theorem orderClearShutterFault_clears (hn : n ≤ 47) (hr : s.sht.get? n = some r) (hst : r.state = .fault)
    (hnode : s.flp.isPresent r.config.node = true) (hpos : r.position ≠ .both) (hlink : r.melted = false)
    (hlock : fireLocked s.flr s.fir.condition r = false) : orderClearShutterFault n s =
      ((s.onSht fun t => t.set n (some r.cleared)).post
        (alterMsgs n r r.cleared s.sht.permit ++ [.lnk (.notice (.faultCleared n r.held.state))]), .done false []) := by
  set clear : Shutter := { r with cause := none, observed := none, arrests := 0, faultCoil := false }
  have hgo : clear.goTo clear.stillState = r.cleared := clear.goTo_still
  have hstill : clear.stillState = r.held.state := r.held_state.symm
  set v := ((s.onSht fun t => t.set n (some r.cleared)).post (alterMsgs n r r.cleared s.sht.permit)).notify
    (.faultCleared n r.held.state) with hv
  have hfire : shutterFireDrop n v = v := by
    have hr' : v.sht.get? n = some r.cleared := Shutters.get?_set_self hr _
    unfold shutterFireDrop
    rw [hr']
    refine if_neg fun h => ?_
    rw [show fireLocked v.flr v.fir.condition r.cleared = false from hlock, Bool.and_false] at h
    cases h
  refine (withShutter_present hn hr _).trans ((if_neg ?_).trans ?_)
  · simp [hst, hnode, hpos, hlink]
  · dsimp only
    rw [hgo, hstill]
    refine congrArg (·, Result.done false []) (hfire.trans ?_)
    simp only [hv, State.notify, State.post, List.append_assoc]

theorem exec_clearShutterFault (hs : s.ready = true) (hn : n ≤ 47) (hr : s.sht.get? n = some r) (hst : r.state = .fault)
    (hnode : s.flp.isPresent r.config.node = true) (hpos : r.position ≠ .both) (hlink : r.melted = false)
    (hhall : r.isLanding = false) (hlock : fireLocked s.flr s.fir.condition r = false)
    (hfloor : s.flr.waitsFor r.config.floor = false) (tag : Nat) :
    exec (.clearShutterFault tag n) s = .next (((s.onSht fun t => t.set n (some r.cleared)).noticed
      (.faultCleared n r.held.state)).answered tag (.clearShutterFault n) (.done false [])) := by
  obtain ⟨k, hk, hd⟩ := Does.altered_hall (u := s.onSht fun t => t.set n (some r.cleared)) (n := n) (old := r)
    (r := r.cleared) (permitted := s.sht.permit)
    (iff_of_false (by simp [hst]) (show r.held.state ≠ .awaitClear from r.held_state_ne_awaitClear)) hhall hfloor
  refine exec_of_does (v := s.onSht fun t => t.set n (some r.cleared)) rfl hs (fun hw => absurd hw Bool.false_ne_true)
    (fun q => ?_) (hd.append (.notice _ _)) (hn := by omega)
  exact orderClearShutterFault_clears (s := s.during q []) hn hr hst hnode hpos hlink hlock

end

/-- Settles O36: the declined forms, and the drop and the clearing. -/
theorem forceDropAndClearFault : Obligations.ForceDropAndClearFault := by
  constructor
  · intro s tag n hs hn r hr
    have hsame {res : Result} (h : ∀ q, orderForceDrop n (s.during q []) = (s.during q [], res)) :
        exec (.forceDrop tag n) s = .next (s.answered tag (.forceDrop n) res) :=
      exec_unchanged rfl hs (fun hw => absurd hw Bool.false_ne_true) h
    refine ⟨fun h => hsame fun q => orderForceDrop_wrong (s := s.during q []) hn hr h, fun l hl hst => ⟨fun hmoves =>
      hsame fun q => orderForceDrop_moving (s := s.during q []) hn hr (Option.isSome_iff_exists.mpr ⟨l, hl⟩) hst hmoves, ?_⟩⟩
    intro hmoves hfire hwarning
    refine (exec_forceDrop hs hn hr hl hst hmoves hfire hwarning tag).trans ?_
    have hlt : n < s.sht.table.length := (List.getElem?_eq_some_iff.mp (present?_eq_some.mp hr)).1
    have hminus (a : List Nat) : setMinus a [l] = a.filter (· ≠ l) := by simp [setMinus]
    simp only [Shutters.waiting_set_iff hlt (x := { r.resting .warning with
      forced := true, warningTimer := Timer.start r.config.warning }) (by simp [Shutter.resting]) l, hminus]
  · intro s tag n hs hn r hr
    refine ⟨fun h => exec_unchanged rfl hs (fun hw => absurd hw Bool.false_ne_true)
      fun q => orderClearShutterFault_wrong (s := s.during q []) hn hr h, ?_⟩
    intro hst hnode hpos hlink hhall hfire hfloor
    exact exec_clearShutterFault hs hn hr hst hnode hpos hlink hhall (by simp [fireLocked, hfire, hhall]) hfloor tag

end Sys2Proof.Machine
end

section
/-! What a hall shutter makes of an image (R43, R45, R50, R51, R54, R57, R58). -/

namespace Sys2Proof.Machine

/-- The messages of a shutter's changed inputs, position, edge and link (R43). -/
def inputMsgs (n : Nat) (o i : ShutterInputs) : List Msg :=
  (if o.position = i.position then [] else [.sht (.position n o.position)]) ++
    (if o.edge = i.edge then [] else [.sht (.edge n)]) ++ if o.link = i.link then [] else [.sht (.link n)]

/-- The edge matters to a descent alone (R50, R51). -/
def ShutterState.heedsEdge : ShutterState → Bool
  | .descending | .arrested => true
  | _ => false

namespace Does

variable {u v w : State} {n k : Nat} {r x x' : Shutter} {o i : ShutterInputs}

/-- A shutter's event that changes its record and hands on the change and `ms`. -/
theorem shutter_alters {m : ShutterMsg} {ms : List Msg} {permitted : Bool}
    (h : ∀ q, shutterTake m (v.during q []) =
      ((v.during q []).onSht fun t => t.set n (some x')).post (alterMsgs n x x' permitted ++ ms))
    (hd : ∃ k ≤ 2, Does k (alterMsgs n x x' permitted) (v.onSht fun t => t.set n (some x'))
      (v.onSht fun t => t.set n (some x')))
    (hms : Does k ms (v.onSht fun t => t.set n (some x')) w) : ∃ j ≤ 3 + k, Does j [.sht m] v w := by
  obtain ⟨j, hj, hd⟩ := hd
  exact ⟨1 + (j + k), by omega, .sht h (hd.append hms)⟩

/-- A shutter that neither descends nor is arrested takes its edge without effect. -/
theorem edge_ignored (hx : u.sht.get? n = some x) (h : x.state.heedsEdge = false) (o i : ShutterInputs) :
    ∃ k ≤ 1, Does k (if o.edge = i.edge then [] else [.sht (.edge n)]) u u := by
  by_cases hsame : o.edge = i.edge
  · exact ⟨0, by norm_num, by rw [if_pos hsame]; exact .nil u⟩
  · refine ⟨1, le_rfl, ?_⟩
    rw [if_neg hsame]
    refine .sht_same fun q => ?_
    simp only [shutterTake, shutterEdge, State.during_sht, hx]
    split
    · rename_i hst
      rw [hst] at h
      cases h
    · rename_i hst
      rw [hst] at h
      cases h
    · rfl

/-- Changed inputs are kept, and their changes taken in order (R43). -/
theorem inputs (hr : u.sht.get? n = some r) (ho : r.inputs = some o)
    (hd : Does k (inputMsgs n o i) (u.onSht fun t => t.set n (some { r with inputs := some i })) w) :
    Does (1 + k) [.sht (.inputs n i)] u w :=
  .sht (fun q => by
    simp only [shutterTake, shutterInputs, shutterRead, State.during_sht, hr, ho]
    rfl) hd

/-- A position alone, and an edge that does not matter afterwards. -/
theorem inputs_position (hr : u.sht.get? n = some r) (ho : r.inputs = some o) (hpos : i.position ≠ o.position)
    (hlink : i.link = o.link)
    (hd : ∃ j ≤ 9, Does j [.sht (.position n o.position)] (u.onSht fun t => t.set n (some { r with inputs := some i })) w)
    (hx : w.sht.get? n = some x) (hedge : x.state.heedsEdge = false) : ∃ j ≤ 11, Does j [.sht (.inputs n i)] u w := by
  obtain ⟨j, hj, hd⟩ := hd
  obtain ⟨j', hj', hignored⟩ := edge_ignored (u := w) hx hedge o i
  refine ⟨1 + (j + j'), by omega, inputs hr ho ?_⟩
  rw [inputMsgs, if_neg (Ne.symm hpos), if_pos hlink.symm, List.append_nil]
  exact hd.append hignored

/-! ### Positions -/

theorem position_drops (hx : v.sht.get? n = some x) (hst : x.state = .opened)
    (hpos : x.position = .between ∨ x.position = .bottom) (hhall : x.isLanding = false)
    (hfloor : v.flr.waitsFor x.config.floor = false) : ∃ j ≤ 9, Does j [.sht (.position n .top)] v
      ((v.onSht fun t => t.set n (some (x.faulted .uncommandedDrop))).noticed
        (.shutterFault n .uncommandedDrop x.position .opened)) := by
  obtain ⟨j, hj, hd⟩ := shutter_alters (m := .position n .top) (v := v) (x' := x.faulted .uncommandedDrop)
    (ms := [.lnk (.notice (.shutterFault n .uncommandedDrop x.position .opened))]) (permitted := v.sht.permit) (fun q => by
      have hmoved : shutterMoved n .top (v.during q []) = shutterFault n .uncommandedDrop (v.during q []) := by
        simp only [shutterMoved, State.during_sht, hx, hst]
        rcases hpos with h | h <;> simp [h, downward]
      refine hmoved.trans ((shutterFault_held (s := v.during q []) hx (by simp [hst]) (by simp [hst]) _).trans ?_)
      rw [hst]
      simp only [State.notify, State.post, List.append_assoc]
      rfl) (altered_faulted _ (by simp [hst]) hhall hfloor) (.notice _ _)
  exact ⟨j, by omega, hd⟩

theorem position_closes {old : Position} (hx : v.sht.get? n = some x) (hst : x.state = .descending)
    (hpos : x.position = .bottom) (hhall : x.isLanding = false) (hfloor : v.flr.waitsFor x.config.floor = false) :
    ∃ j ≤ 9, Does j [.sht (.position n old)] v
      ((v.onSht fun t => t.set n (some (x.resting .closed))).noticed (.shutterClosed n x.arrests x.forced)) := by
  have hclosed : x.goTo .closed = x.resting .closed := x.goTo_closed
  obtain ⟨j, hj, hd⟩ := shutter_alters (m := .position n old) (v := v) (x' := x.resting .closed)
    (ms := [.lnk (.notice (.shutterClosed n x.arrests x.forced))]) (permitted := v.sht.permit) (fun q => by
      have hmoved : shutterMoved n old (v.during q []) = shutterClose n x (v.during q []) := by
        simp only [shutterMoved, State.during_sht, hx, hst]
        simp [hpos]
      refine hmoved.trans ?_
      unfold shutterClose
      rw [hclosed]
      rfl) (altered_hall (u := v.onSht fun t => t.set n (some (x.resting .closed))) (by simp [hst, Shutter.resting]) hhall hfloor)
      (.notice _ _)
  exact ⟨j, by omega, hd⟩

theorem position_opens {old : Position} (hx : v.sht.get? n = some x) (hst : x.state = .raising)
    (hpos : x.position = .top) (hhall : x.isLanding = false) (hfloor : v.flr.waitsFor x.config.floor = false)
    (hsettles : v.sup.settles = true) : ∃ j ≤ 9, Does j [.sht (.position n old)] v
      (((v.onSht fun t => t.set n (some { x.resting .opened with forced := false })).onSup fun p =>
        p.ended (.shutter n)).noticed (.shutterOpen n)) := by
  set x' : Shutter := { x.resting .opened with forced := false }
  set v₁ := v.onSht fun t => t.set n (some x')
  have hopened : x.goTo .opened = x' := by
    rw [Shutter.goTo_eq]
    simp [x']
  have hended : Does 1 _ v₁ (v₁.onSup fun p => p.ended (.shutter n)) := ended (u := v₁) hsettles _
  obtain ⟨j, hj, hd⟩ := altered_hall (u := v₁.onSup fun p => p.ended (.shutter n)) (n := n) (old := x) (r := x')
    (permitted := v.sht.permit) (by simp [hst, x', Shutter.resting]) hhall hfloor
  refine ⟨1 + (1 + j + 1), by omega, .sht (f := fun t => t.set n (some x'))
    (ms := [.sup (.ended (.shutter n))] ++ alterMsgs n x x' v.sht.permit ++ [.lnk (.notice (.shutterOpen n))]) (fun q => ?_)
    ((hended.append hd).append (.notice _ _))⟩
  have hmoved : shutterMoved n old (v.during q []) = shutterOpened n x (v.during q []) := by
    simp only [shutterMoved, State.during_sht, hx, hst]
    simp [hpos]
  refine hmoved.trans ?_
  unfold shutterOpened
  rw [hopened]
  rfl

/-- In FAULT the observed position follows (R60). -/
theorem position_observed {old : Position} (hx : v.sht.get? n = some x) (hst : x.state = .fault)
    (hhall : x.isLanding = false) (hfloor : v.flr.waitsFor x.config.floor = false) : ∃ j ≤ 9, Does j [.sht (.position n old)] v
      (v.onSht fun t => t.set n (some { x with observed := some x.position })) := by
  obtain ⟨j, hj, hd⟩ := shutter_alters (m := .position n old) (v := v) (x' := { x with observed := some x.position })
    (ms := []) (permitted := v.sht.permit) (fun q => by
      simp only [shutterTake, shutterMoved, State.during_sht, hx, hst]
      rw [List.append_nil]
      rfl) (altered_hall (u := v.onSht fun t => t.set n (some { x with observed := some x.position })) (by simp [hst]) hhall
        hfloor) (.nil _)
  exact ⟨j, by omega, hd⟩

/-! ### Edge and link -/

theorem edge_arrests (hx : v.sht.get? n = some x) (hst : x.state = .descending) (hedge : x.edge = true)
    (hheeds : x.edgeIgnored = false) (hcount : x.arrests < 3) : ∃ j ≤ 9, Does j [.sht (.edge n)] v
      ((v.onSht fun t => t.set n (some x.arrest)).noticed (.shutterArrested n (x.arrests + 1))) := by
  obtain ⟨j, hj, hd⟩ := shutter_alters (m := .edge n) (v := v) (x' := x.arrest)
    (ms := [.lnk (.notice (.shutterArrested n (x.arrests + 1)))]) (permitted := v.sht.permit) (fun q => by
      simp only [shutterTake, shutterEdge, State.during_sht, hx, hst, hedge, hheeds, Bool.not_true, Bool.or_self,
        Bool.false_eq_true, if_false, if_pos hcount]
      rfl) (altered_onTheWay hx (by simp [hst]) rfl rfl) (.notice _ _)
  exact ⟨j, by omega, hd⟩

theorem edge_clears (hx : v.sht.get? n = some x) (hst : x.state = .arrested) (hedge : x.edge = false) :
    ∃ j ≤ 9, Does j [.sht (.edge n)] v (v.onSht fun t => t.set n (some { x with clearTimer := Timer.start 2 })) := by
  obtain ⟨j, hj, hd⟩ := shutter_alters (m := .edge n) (v := v) (x' := { x with clearTimer := Timer.start 2 })
    (ms := []) (permitted := v.sht.permit) (fun q => by
      simp only [shutterTake, shutterEdge, State.during_sht, hx, hst, hedge, Bool.false_eq_true, if_false]
      rw [List.append_nil]
      rfl) (altered_onTheWay hx (by simp [hst]) (by simp [hst, ShutterState.permits]) (by simp [hst, ShutterState.inUse]))
        (.nil _)
  exact ⟨j, by omega, hd⟩

theorem link_notices (hx : v.sht.get? n = some x) (hmelted : x.melted = true)
    (hst : x.state = .closed ∨ x.state = .descending ∨ x.state = .arrested ∨ x.state = .fault) :
    ∃ j ≤ 9, Does j [.sht (.link n)] v (v.noticed (.linkMelted n x.state)) := by
  refine ⟨1 + 1, by norm_num, .sht (f := id) (ms := [.lnk (.notice (.linkMelted n x.state))]) (fun q => ?_) (.notice v _)⟩
  rcases hst with h | h | h | h <;>
  · simp only [shutterTake, shutterLink, State.during_sht, hx, hmelted, h, Bool.not_true, Bool.false_eq_true, if_false]
    rfl

theorem link_faults (hx : v.sht.get? n = some x) (hmelted : x.melted = true)
    (hst : x.state = .opened ∨ x.state = .partOpen) (hhall : x.isLanding = false)
    (hfloor : v.flr.waitsFor x.config.floor = false) : ∃ j ≤ 9, Does j [.sht (.link n)] v
      ((v.onSht fun t => t.set n (some (x.faulted .linkMelted))).noticed
        (.shutterFault n .linkMelted x.position x.state)) := by
  have hclear : x.state ≠ .awaitClear ∧ x.state ≠ .waitSupply ∧ x.state ≠ .raising := by rcases hst with h | h <;> simp [h]
  obtain ⟨hawait, hwait, hraise⟩ := hclear
  obtain ⟨j, hj, hd⟩ := shutter_alters (m := .link n) (v := v) (x' := x.faulted .linkMelted)
    (ms := [.lnk (.notice (.shutterFault n .linkMelted x.position x.state))]) (permitted := v.sht.permit) (fun q => by
      have hlink : shutterLink n (v.during q []) = shutterFault n .linkMelted (v.during q []) := by
        rcases hst with h | h <;>
          simp only [shutterLink, State.during_sht, hx, hmelted, h, Bool.not_true, Bool.false_eq_true, if_false]
      refine hlink.trans ((shutterFault_held (s := v.during q []) hx hwait hraise _).trans ?_)
      simp only [State.notify, State.post, List.append_assoc]
      rfl) (altered_faulted _ hawait hhall hfloor) (.notice _ _)
  exact ⟨j, by omega, hd⟩

end Does

/-! ### The first image of an UNSEEN shutter (R45) -/

section
variable {u : State} {n : Nat} {r : Shutter} {i : ShutterInputs}

/-- The record placed by its first image. -/
def Shutter.placed (r : Shutter) : Shutter := { r.held with arrests := 0, forced := false }

theorem shutterPlace_placed {s : State} (hr : s.sht.get? n = some r) (hpos : r.position ≠ .both) (hlink : r.melted = false)
    (hlock : fireLocked s.flr s.fir.condition r = false) : shutterPlace n s =
      (s.onSht fun t => t.set n (some r.placed)).post
        (alterMsgs n r r.placed s.sht.permit ++ [.lnk (.notice (.shutterSeen n r.held.state))]) := by
  set fresh : Shutter := { r.quiet with arrests := 0, forced := false }
  have hgo : fresh.goTo fresh.stillState = r.placed := fresh.goTo_still
  have hstill : r.stillState = r.held.state := r.held_state.symm
  set v := ((s.onSht fun t => t.set n (some r.placed)).post (alterMsgs n r r.placed s.sht.permit)).notify
    (.shutterSeen n r.held.state) with hv
  have hr' : v.sht.get? n = some r.placed := Shutters.get?_set_self hr _
  have hmelt : shutterLink n v = v := by
    have hwhole : r.placed.melted = false := hlink
    simp only [shutterLink, hr', hwhole, Bool.not_false, if_true]
  have hfire : shutterFireDrop n v = v := by
    simp only [shutterFireDrop, hr']
    refine if_neg fun h => ?_
    rw [show fireLocked v.flr v.fir.condition r.placed = false from hlock, Bool.and_false] at h
    cases h
  unfold shutterPlace
  rw [hr]
  simp only [if_neg hpos]
  have hplaced : (shutterAlter n r (fresh.goTo fresh.stillState) s).notify (.shutterSeen n r.stillState) = v := by
    rw [hgo, hstill, shutterAlter_eq]
  refine (congrArg (fun w => shutterFireDrop n (shutterLink n w)) hplaced).trans ?_
  rw [hmelt, hfire]
  simp only [hv, State.notify, State.post, List.append_assoc]

theorem Does.found_unseen (hr : u.sht.get? n = some r) (hst : r.state = .unseen) (hpos : i.position ≠ .both)
    (hlink : i.link = true) (hhall : r.isLanding = false) (hfire : u.flr.isIn r.config.floor .fire = false)
    (hfloor : u.flr.waitsFor r.config.floor = false) : ∃ j ≤ 9, Does j [.sht (.found n i)] u
      ((u.onSht fun t => t.set n (some ({ r with inputs := some i } : Shutter).placed)).noticed
        (.shutterSeen n ({ r with inputs := some i } : Shutter).held.state)) := by
  set x : Shutter := { r with inputs := some i }
  obtain ⟨k, hk, hd⟩ := Does.altered_hall (u := u.onSht fun t => t.set n (some x.placed)) (n := n) (old := x) (r := x.placed)
    (permitted := (u.sht.set n (some x)).permit)
    (iff_of_false (by simp [x, hst]) (show x.held.state ≠ .awaitClear from x.held_state_ne_awaitClear)) hhall hfloor
  refine ⟨1 + (k + 1), by omega, .sht (fun q => ?_) (hd.append (.notice _ _))⟩
  have hread : shutterFound n i (u.during q []) = shutterPlace n ((u.during q []).onSht fun t => t.set n (some x)) := by
    simp only [shutterFound, shutterRead, State.during_sht, hr, hst, x]
  have hx : ((u.during q []).onSht fun t => t.set n (some x)).sht.get? n = some x := Shutters.get?_set_self hr _
  refine hread.trans ((shutterPlace_placed hx hpos
    (by simp [x, Shutter.melted, hlink]) (Bool.or_eq_false_iff.mpr ⟨hfire, by rw [show x.isLanding = false from hhall]; rfl⟩)).trans ?_)
  simp only [State.onSht, Shutters.set, List.set_set]
  rfl

/-- Changed inputs of an UNSEEN shutter are kept alone. -/
theorem Does.inputs_unseen (hr : u.sht.get? n = some r) (hst : r.state = .unseen) (hlink : i.link = true) :
    ∃ j ≤ 9, Does j [.sht (.inputs n i)] u (u.onSht fun t => t.set n (some { r with inputs := some i })) := by
  set v := u.onSht fun t => t.set n (some { r with inputs := some i })
  have hr' : v.sht.get? n = some { r with inputs := some i } := Shutters.get?_set_self hr _
  cases ho : r.inputs with
  | none =>
    exact ⟨1 + 0, by norm_num, .sht (fun q => by
      simp only [shutterTake, shutterInputs, shutterRead, State.during_sht, hr, ho]
      exact (State.post_nil _).symm) (.nil v)⟩
  | some o =>
    have hone {p : Prop} [Decidable p] {m : Msg} (h : Does 1 [m] v v) : ∃ k ≤ 1, Does k (if p then [] else [m]) v v := by
      by_cases hp : p
      · exact ⟨0, by norm_num, by rw [if_pos hp]; exact .nil v⟩
      · exact ⟨1, le_rfl, by rw [if_neg hp]; exact h⟩
    obtain ⟨a, ha, hposition⟩ := hone (p := o.position = i.position) (m := .sht (.position n o.position))
      (Does.sht_same fun q => by simp only [shutterTake, shutterMoved, State.during_sht, hr', hst])
    obtain ⟨b, hb, hedge⟩ := Does.edge_ignored (u := v) hr' (by simp [hst, ShutterState.heedsEdge]) o i
    obtain ⟨c, hc, hwhole⟩ := hone (p := o.link = i.link) (m := .sht (.link n))
      (Does.sht_same fun q => by
        simp only [shutterTake, shutterLink, State.during_sht, hr', Shutter.melted, Option.map_some, Option.getD_some, hlink,
          Bool.not_true, Bool.not_false, if_true])
    exact ⟨1 + (a + b + c), by omega, Does.inputs hr ho ((hposition.append hedge).append hwhole)⟩

end

/-! ### The reply -/

section
variable {s w : State} {address in0 in1 : Byte} {node : Node} {old : Image} {r : Shutter} {k : Nat}

/-- A good reply of a PRESENT shutter node that hands `ms` on. -/
theorem exec_pollReply_changes (hs : s.quiet = true) (hpolled : s.flp.polled = some address.toNat)
    (hnode : s.flp.node? address.toNat = some node) (hpresent : node.state = .present) {ms : List Msg}
    (hms : changeMsgs s address.toNat node ⟨in0, in1⟩ = ms)
    (hd : ∃ j ≤ 20, Does j ms (s.imaged address.toNat node ⟨in0, in1⟩) w) (hroom : w.snd.roomDue = s.snd.roomDue := by rfl) :
    exec (.pollReply address in0 in1 ⟨crc8 [address, in0, in1], true⟩) s = .next w := by
  obtain ⟨j, hj, hd⟩ := hd
  have hreply := loopReply_good (in0 := in0) (in1 := in1) hpolled rfl hnode
  rw [if_pos hpresent, hms] at hreply
  exact settle_event (b := .flp) hs hreply hd (hroom := hroom) (hn := by omega)

theorem changeMsgs_shutter (hkind : node.kind = .shutter) (hat : s.sht.at? address.toNat 0 = some k)
    (hat' : s.sht.at? address.toNat 1 = none) (hold : node.image = some old) (hr : s.sht.get? k = some r) :
    changeMsgs s address.toNat node ⟨in0, in1⟩ =
      (if inputsOf old.byte0 = inputsOf in0 then [] else [.sht (.inputs k (inputsOf in0))]) ++
        if r.state = .unseen then [.sht (.found k (inputsOf in0))] else [] := by
  unfold changeMsgs
  rw [hkind]
  simp only [shutterChangeMsgs, shutterPlaceMsgs, hat, hat', hold, Image.part, if_true, Option.map_some, Option.some.injEq,
    Option.toList_some, Option.toList_none, List.map_cons, List.map_nil, List.filter_nil, List.append_nil, ite_self]
  by_cases hst : r.state = .unseen <;> simp [hr, hst]

end

/-- Settles O53: a change of position, edge or link by the shutter's state, and the first image. -/
theorem shutterInputs_holds : Obligations.ShutterInputs := by
  intro s address in0 in1 k hs a hpolled node hnode hpresent hkind hat hat' old hold r hr hhall hfloor o i r' seen reply
  set u := s.imaged a node ⟨in0, in1⟩ with hu
  have hseen (q : Shutter) : u.onSht (fun t => t.set k (some q)) = seen q := by
    simp only [hu, seen, State.imaged, ← hpresent]
    rfl
  have hset (q : Shutter) : (u.onSht fun t => t.set k (some r')).onSht (fun t => t.set k (some q)) = seen q := by
    rw [← hseen]
    simp only [State.onSht, Shutters.set, List.set_set]
  have hmsgs := changeMsgs_shutter (in0 := in0) (in1 := in1) hkind hat hat' hold hr
  set v := u.onSht fun t => t.set k (some r') with hv
  have hr' : v.sht.get? k = some r' := Shutters.get?_set_self (t := s.sht) hr _
  refine ⟨fun hinputs => ?_, fun hst hedge hpos hlink hfire => ?_⟩
  · have hreply {w : State} (hroom : w.snd.roomDue = s.snd.roomDue) (hst : r.state ≠ .unseen) (hne : o ≠ i)
        (hd : ∃ j ≤ 11, Does j [.sht (.inputs k i)] u w) : reply = .next w := by
      rw [if_neg hne, if_neg hst, List.append_nil] at hmsgs
      obtain ⟨j, hj, hd⟩ := hd
      exact exec_pollReply_changes hs hpolled hnode hpresent hmsgs ⟨j, by omega, hd⟩ hroom
    have hedge_only {w : State} (hpos : i.position = o.position) (hlink : i.link = o.link) (hedge : i.edge ≠ o.edge)
        (hd : ∃ j ≤ 9, Does j [.sht (.edge k)] v w) : ∃ j ≤ 11, Does j [.sht (.inputs k i)] u w := by
      obtain ⟨j, hj, hd⟩ := hd
      refine ⟨1 + j, by omega, Does.inputs hr hinputs ?_⟩
      rw [inputMsgs, if_pos hpos.symm, if_neg (Ne.symm hedge), if_pos hlink.symm]
      exact hd
    have hlink_only {w : State} (hpos : i.position = o.position) (hedge : i.edge = o.edge) (hlink : i.link ≠ o.link)
        (hd : ∃ j ≤ 9, Does j [.sht (.link k)] v w) : ∃ j ≤ 11, Does j [.sht (.inputs k i)] u w := by
      obtain ⟨j, hj, hd⟩ := hd
      refine ⟨1 + j, by omega, Does.inputs hr hinputs ?_⟩
      rw [inputMsgs, if_pos hpos.symm, if_pos hedge.symm, if_neg (Ne.symm hlink)]
      exact hd
    have hposition {w : State} {q : Shutter} (hroom : w.snd.roomDue = s.snd.roomDue) (hst : r.state ≠ .unseen)
        (hpos : i.position ≠ o.position) (hlink : i.link = o.link)
        (hd : ∃ j ≤ 9, Does j [.sht (.position k o.position)] v w) (hq : w.sht.get? k = some q)
        (hheeds : q.state.heedsEdge = false) : reply = .next w :=
      hreply hroom hst (ne_of_apply_ne ShutterInputs.position hpos.symm)
        (Does.inputs_position hr hinputs hpos hlink hd hq hheeds)
    have hkept (q : Shutter) : (v.onSht fun t => t.set k (some q)).sht.get? k = some q := Shutters.get?_set_self hr' _
    refine ⟨fun hst ho hi hlink => ?_, fun hst ho hi hlink => ?_, fun hst hpos hlink ho hi hheeds hcount => ?_,
      fun hst hpos hlink ho hi => ?_, fun hst ho hi hlink hsettles => ?_, fun hpos hedge ho hi => ⟨fun hst => ?_,
      fun hst => ?_⟩, fun hst hpos hlink => ?_⟩
    · rw [← hset]
      refine hposition rfl (by simp [hst]) (by rcases hi with h | h <;> simp [h, ho]) hlink ?_ (hkept _) rfl
      rw [ho]
      exact Does.position_drops hr' hst hi hhall hfloor
    · rw [← hset]
      exact hposition rfl (by simp [hst]) (by rw [hi]; exact ho.symm) hlink
        (Does.position_closes hr' hst hi hhall hfloor) (hkept _) rfl
    · have harrest : r'.arrest = { r' with
          state := .arrested, arrests := r.arrests + 1, descentTimer := r.descentTimer.freeze
          holdTimer := .running 1200, clearTimer := .stopped } := by
        simp only [Shutter.arrest, show r'.edge = true from hi, show r'.edgeIgnored = false from hheeds, if_true]
        rfl
      rw [← harrest, ← hset]
      exact hreply rfl (by simp [hst]) (ne_of_apply_ne ShutterInputs.edge (by simp [ho, hi])) (hedge_only hpos hlink
        (by simp [ho, hi]) (Does.edge_arrests hr' hst hi hheeds hcount))
    · rw [← hset]
      exact hreply rfl (by simp [hst]) (ne_of_apply_ne ShutterInputs.edge (by simp [ho, hi])) (hedge_only hpos hlink
        (by simp [ho, hi]) (Does.edge_clears hr' hst hi))
    · rw [supplyEnded_sup hsettles]
      have hw := hposition (w := ((v.onSht fun t => t.set k (some { r'.resting .opened with forced := false })).onSup fun p =>
        p.ended (.shutter k)).noticed (.shutterOpen k)) (q := { r'.resting .opened with forced := false }) rfl (by simp [hst])
        (by rcases ho with h | h <;> simp [h, hi]) hlink
        (Does.position_opens hr' hst hi hhall hfloor hsettles) (hkept _) rfl
      refine hw.trans ?_
      rw [hset]
      rfl
    · rw [← hseen]
      exact hreply rfl (by rcases hst with h | h | h | h <;> simp [h]) (ne_of_apply_ne ShutterInputs.link (by simp [ho, hi]))
        (hlink_only hpos hedge (by simp [ho, hi]) (Does.link_notices (x := r') hr' (by simp [r', Shutter.melted, hi]) hst))
    · rw [← hset]
      exact hreply rfl (by rcases hst with h | h <;> simp [h]) (ne_of_apply_ne ShutterInputs.link (by simp [ho, hi]))
        (hlink_only hpos hedge (by simp [ho, hi]) (Does.link_faults hr' (by simp [r', Shutter.melted, hi]) hst hhall hfloor))
    · rw [← hset]
      exact hposition rfl (by simp [hst]) hpos hlink (Does.position_observed hr' hst hhall hfloor) (hkept _)
        (by simp [r', hst, ShutterState.heedsEdge])
  · intro st
    have hplaced : r'.placed = { r'.resting st with arrests := 0, forced := false } := rfl
    rw [← hplaced]
    rw [if_pos hst] at hmsgs
    by_cases hsame : o = i
    · rw [if_pos hsame, List.nil_append] at hmsgs
      obtain ⟨j, hj, hfound⟩ := Does.found_unseen (u := u) (i := i) hr hst hpos hlink hhall hfire hfloor
      rw [← hseen]
      exact exec_pollReply_changes hs hpolled hnode hpresent hmsgs ⟨j, by omega, hfound⟩
    · rw [if_neg hsame] at hmsgs
      obtain ⟨j, hj, hread⟩ := Does.inputs_unseen (u := u) (i := i) hr hst hlink
      obtain ⟨j', hj', hfound⟩ := Does.found_unseen (u := v) (i := i) hr' hst hpos hlink hhall hfire hfloor
      rw [← hset]
      exact exec_pollReply_changes hs hpolled hnode hpresent hmsgs ⟨j + j', by omega, hread.append hfound⟩

end Sys2Proof.Machine
end

section
/-! A mains dip, its end, the restart after it, and the end of a settle time (R70, R72, R73). -/

namespace Sys2Proof.Machine

/-! ### The raises a dip pauses (R55, R72) -/

/-- A running raise paused. -/
def Shutter.dipped (r : Shutter) : Shutter :=
  if r.state = .raising ∧ r.paused = false then { r with paused := true, raiseTimer := r.raiseTimer.freeze } else r

theorem Shutter.dipped_dipped (r : Shutter) : r.dipped.dipped = r.dipped := by
  by_cases h : r.state = .raising ∧ r.paused = false
  · simp [Shutter.dipped, h]
  · simp only [Shutter.dipped, if_neg h]

/-- The raises of the owners paused. -/
def Shutters.dipped (t : Shutters) (owners : List MoveOwner) : Shutters :=
  { table := t.table.mapIdx fun n o => if MoveOwner.shutter n ∈ owners then o.map Shutter.dipped else o }

theorem Shutters.dipped_getElem? (t : Shutters) (owners : List MoveOwner) (k : Nat) : (t.dipped owners).table[k]? =
    (t.table[k]?).map fun o => if MoveOwner.shutter k ∈ owners then o.map Shutter.dipped else o :=
  List.getElem?_mapIdx ..

theorem Shutters.ext_getElem? {t v : Shutters} (h : ∀ k : Nat, t.table[k]? = v.table[k]?) : t = v :=
  congrArg Shutters.mk (List.ext_getElem? h)

theorem Shutters.dipped_nil (t : Shutters) : t.dipped [] = t :=
  Shutters.ext_getElem? fun k => by simp [Shutters.dipped_getElem?]

theorem Shutters.dipped_chain (t : Shutters) (owners : List MoveOwner) : t.dipped (.chain :: owners) = t.dipped owners :=
  Shutters.ext_getElem? fun k => by simp [Shutters.dipped_getElem?]

/-- Of the raises to pause the first is paused first; a second pause of one does nothing. -/
theorem Shutters.dipped_cons (t : Shutters) (n : Nat) (owners : List MoveOwner) :
    t.dipped (.shutter n :: owners) = (t.dipped [.shutter n]).dipped owners := by
  refine Shutters.ext_getElem? fun k => ?_
  simp only [Shutters.dipped_getElem?, Option.map_map]
  refine congrArg (Option.map · _) (funext fun o => ?_)
  by_cases hk : k = n
  · subst hk
    cases o <;> simp [Shutter.dipped_dipped]
  · simp [hk]

theorem Shutters.dipped_one {t : Shutters} {n : Nat} {r : Shutter} (h : t.get? n = some r) :
    t.dipped [.shutter n] = t.set n (some r.dipped) :=
  Shutters.ext_getElem? fun k => by
    have hn := present?_eq_some.mp h
    by_cases hk : k = n
    · subst hk
      rw [Shutters.dipped_getElem?, hn, Shutters.set, List.getElem?_set_self (List.getElem?_eq_some_iff.mp hn).1]
      simp
    · simp [Shutters.dipped_getElem?, Shutters.set, hk, List.getElem?_set_ne (Ne.symm hk)]

theorem Shutters.dipped_absent {t : Shutters} {n : Nat} (h : t.get? n = none) : t.dipped [.shutter n] = t :=
  Shutters.ext_getElem? fun k => by
    by_cases hk : k = n
    · subst hk
      cases ho : t.table[k]? with
      | none => simp [Shutters.dipped_getElem?, ho]
      | some o =>
        obtain rfl : o = none := by simpa [Shutters.get?, present?, ho] using h
        simp [Shutters.dipped_getElem?, ho]
    · simp [Shutters.dipped_getElem?, hk]

theorem alterMsgs_same {n : Nat} {old r : Shutter} {permitted : Bool} (hstate : r.state = old.state)
    (hobserved : r.observed = old.observed) : alterMsgs n old r permitted = [] := by
  simp [alterMsgs, hstate, hobserved]

/-- A change that nobody is told of. -/
theorem shutterChange_same {s : State} {n : Nat} {r r' : Shutter} {f : Shutter → Shutter} (hr : s.sht.get? n = some r)
    (hf : f r = r') (hstate : r'.state = r.state := by rfl) (hobserved : r'.observed = r.observed := by rfl) :
    shutterChange n f s = s.onSht fun t => t.set n (some r') := by
  rw [shutterChange_eq hr, hf, alterMsgs_same hstate hobserved, State.post_nil]

theorem shutterPaused_eq {s : State} (n : Nat) : shutterPaused n s = s.onSht fun t => t.dipped [.shutter n] := by
  cases hr : s.sht.get? n with
  | none =>
    refine Eq.trans ?_ (State.onSht_congr (f := id) (Shutters.dipped_absent hr).symm)
    simp only [shutterPaused, shutterChange, hr]
    rfl
  | some r =>
    have hpause : (if r.state = .raising && !r.paused then { r with paused := true, raiseTimer := r.raiseTimer.freeze } else r) =
        r.dipped := by simp [Shutter.dipped]
    have hkept : r.dipped.state = r.state ∧ r.dipped.observed = r.observed := by
      unfold Shutter.dipped
      split <;> exact ⟨rfl, rfl⟩
    have hpaused : shutterPaused n s = s.onSht fun t => t.set n (some r.dipped) :=
      shutterChange_same hr hpause hkept.1 hkept.2
    exact hpaused.trans (State.onSht_congr (f := fun t => t.set n _)
      (g := fun t => t.dipped [.shutter n]) (Shutters.dipped_one hr).symm)

/-- Every raise of the owners is paused. -/
theorem Does.paused (owners : List MoveOwner) (u : State) :
    ∃ k ≤ owners.length, Does k (owners.flatMap pausedMsg) u (u.onSht fun t => t.dipped owners) := by
  induction owners generalizing u with
  | nil =>
    refine ⟨0, le_rfl, ?_⟩
    rw [State.onSht_congr (g := id) u.sht.dipped_nil]
    exact .nil u
  | cons owner rest ih =>
    cases owner with
    | chain =>
      obtain ⟨k, hk, hd⟩ := ih u
      rw [State.onSht_congr (g := fun t => t.dipped rest) (u.sht.dipped_chain rest)]
      exact ⟨k, hk.trans (Nat.le_succ _), hd⟩
    | shutter n =>
      obtain ⟨k, hk, hd⟩ := ih (u.onSht fun t => t.dipped [.shutter n])
      have hall : ((u.onSht fun t => t.dipped [.shutter n]).onSht fun t => t.dipped rest) =
          u.onSht fun t => t.dipped (.shutter n :: rest) :=
        State.onSht_congr (s := u) (f := fun t => (t.dipped [.shutter n]).dipped rest)
          (g := fun t => t.dipped (.shutter n :: rest)) (u.sht.dipped_cons n rest).symm
      have hone : Does 1 [.sht (.paused n)] u (u.onSht fun t => t.dipped [.shutter n]) :=
        .sht (m := .paused n) (ms := []) (fun q => (shutterPaused_eq (s := u.during q []) n).trans (State.post_nil _).symm)
          (.nil _)
      exact ⟨1 + k, by rw [List.length_cons]; omega, hone.cons (hall ▸ hd)⟩

/-! ### The restart (R55, R73) -/

theorem Does.restarted {u : State} {n : Nat} {r : Shutter} (hr : u.sht.get? n = some r) (hst : r.state = .raising)
    (hpaused : r.paused = true) : Does 1 [.sht (.restarted n)] u
      (u.onSht fun t => t.set n (some { r with paused := false, raiseTimer := r.raiseTimer.resume })) :=
  .sht (ms := []) (fun q => by
    have hruns : (r.state = .raising && r.paused) = true := by simp [hst, hpaused]
    have hrestarted : shutterRestarted n (u.during q []) = (u.during q []).onSht fun t =>
        t.set n (some { r with paused := false, raiseTimer := r.raiseTimer.resume }) := shutterChange_same hr (if_pos hruns)
    exact hrestarted.trans (State.post_nil _).symm) (.nil _)

/-! ### The end of a settle time (R70) -/

theorem dropSettled_append {owner : MoveOwner} {before after : List Move} {kind : MoveKind} {left : Nat}
    (h : ∀ m ∈ before, m.owner ≠ owner) :
    dropSettled owner (before ++ ⟨owner, kind, .settling left⟩ :: after) = before ++ after := by
  induction before with
  | nil => simp [dropSettled, Move.settles, Move.active]
  | cons m rest ih =>
    have hm : (m.owner == owner) = false := beq_eq_false_iff_ne.mpr (h m (List.mem_cons_self ..))
    simp only [List.cons_append, dropSettled, hm, Bool.false_and, Bool.false_eq_true, if_false]
    rw [ih fun x hx => h x (List.mem_cons_of_mem _ hx)]

theorem supplySettleExpiry_settled {s : State} {g : Nat} {r : Group} {owner : MoveOwner} {before after : List Move}
    {kind : MoveKind} {left : Nat} (hr : s.sup.groups[g]? = some r)
    (hmoves : r.moves = before ++ ⟨owner, kind, .settling left⟩ :: after) (h : ∀ m ∈ before, m.owner ≠ owner) :
    supplySettleExpiry g owner s =
      (s.onSup fun u => { u with groups := u.groups.set g { r with moves := before ++ after } }).post [.sup (.pass g)] := by
  have hany : ((s.sup.group? g).any fun r => r.moves.any fun m => m.owner == owner && m.settles) = true := by
    simp [Supply.group?, hr, hmoves, Move.settles, Move.active]
  refine (if_pos hany).trans (congrArg (State.post · _) (State.onSup_congr ?_))
  simp only [Supply.modify, modify_eq_set hr, hmoves, dropSettled_append h]

/-! ### The events -/

section
variable {s : State}

theorem toPause_dip (u : Supply) (dip : Bool) : ({ u with dip := dip } : Supply).toPause = u.toPause := rfl

theorem Move.running_iff (m : Move) : m.running = true ↔ m.kind = .raise ∧ m.phase = .running := by
  simp [Move.running]

/-- The supply unit as the dip begins. -/
def Supply.dipped (u : Supply) : Supply :=
  { u with
    mode := .dipped, restartTimer := .stopped, dip := true
    groups := u.groups.map fun g => { g with moves := g.moves.map fun m =>
      if m.kind = .raise ∧ m.phase = .running then { m with phase := .paused } else m } }

theorem supplyDipped_begins (h : s.sup.mode ≠ .dipped) : supplyDipped s =
    (s.onSup Supply.dipped).post
      (s.sup.toPause.flatMap pausedMsg ++ [.lnk (.notice (.supplyDip s.sup.toPause.length))]) := by
  unfold supplyDipped
  refine (if_neg h).trans ?_
  simp only [State.onSup, toPause_dip, Supply.dipped, Move.running_iff]

theorem exec_mainsDipAsserted (hs : s.quiet = true) (horder : s.sup.order.length ≤ 32) (h : s.sup.mode ≠ .dipped) :
    exec .mainsDipAsserted s = .next (((s.onSup Supply.dipped).onSht fun t => t.dipped s.sup.toPause).noticed
      (.supplyDip s.sup.toPause.length)) := by
  obtain ⟨k, hk, hd⟩ := Does.paused s.sup.toPause (s.onSup Supply.dipped)
  have hlength : s.sup.toPause.length ≤ s.sup.order.length := List.length_filter_le ..
  exact settle_event (b := .sup) hs (supplyDipped_begins h) (hd.append (.notice _ _)) (hn := by omega)

theorem supplyRestart_runs {u : Supply} (hmode : u.mode = .restoring) (ht : u.restartTimer.isRunning = true) :
    ¬ (!(u.mode = .restoring && u.restartTimer.isRunning)) = true := by
  simp [hmode, ht]

/-- The supply unit as the owner's paused raise runs again. -/
def Supply.restarted (u : Supply) (owner : MoveOwner) : Supply :=
  { u with
    restartTimer := .running 10
    groups := u.groups.map fun g => { g with moves := g.moves.map fun m =>
      if m.owner = owner ∧ m.phase = .paused then { m with phase := .running } else m } }

theorem exec_restartTimerExpiry_next (hs : s.quiet = true) (hmode : s.sup.mode = .restoring)
    (ht : s.sup.restartTimer.isRunning = true) {n : Nat} (holdest : s.sup.oldestPaused = some (.shutter n)) {r : Shutter}
    (hr : s.sht.get? n = some r) (hst : r.state = .raising) (hpaused : r.paused = true) :
    exec .restartTimerExpiry s = .next ((s.onSup fun u => u.restarted (.shutter n)).onSht fun t =>
      t.set n (some { r with paused := false, raiseTimer := r.raiseTimer.resume })) := by
  refine settle_event (b := .sup) (f := supplyRestartExpiry) hs ?_
    (Does.restarted (u := s.onSup fun u => u.restarted (.shutter n)) hr hst hpaused)
  refine (if_neg (supplyRestart_runs hmode ht)).trans ?_
  rw [holdest]
  simp only [Bool.and_eq_true, beq_iff_eq]
  rfl

/-- The restart timer that finds no paused raise makes the supply STEADY and runs every group's pass. -/
theorem supplyRestartExpiry_steady (hmode : s.sup.mode = .restoring) (ht : s.sup.restartTimer.isRunning = true)
    (holdest : s.sup.oldestPaused = none) : supplyRestartExpiry s =
      (s.onSup fun u => { u with mode := .steady, restartTimer := .stopped }).post
        ([.lnk (.notice .supplyRestored)] ++ (List.range s.sup.groups.length).map fun g => .sup (.pass g)) := by
  refine (if_neg (supplyRestart_runs hmode ht)).trans ?_
  rw [holdest]
  rfl

/-- The passes of groups whose queues are empty. -/
theorem Does.passes {u : State} {gs : List Nat} (h : ∀ g ∈ gs, ∀ r ∈ u.sup.groups[g]?, r.queue = []) :
    Does gs.length (gs.map fun g => .sup (.pass g)) u u := by
  have hall := Does.all_same (u := u) (ms := gs.map fun g => .sup (.pass g)) fun m hm => by
    obtain ⟨g, hg, rfl⟩ := List.mem_map.mp hm
    exact .pass_waits fun r hr => .inl (h g hg r hr)
  rwa [List.length_map] at hall

end

/-- Settles O39: the dip, its end, the restart and the settle time. -/
theorem mainsDip : Obligations.MainsDip := by
  refine ⟨⟨fun s hs horder h => (exec_mainsDipAsserted hs horder h).trans ?_, fun s hs h => ⟨?_, ?_⟩, fun s hs h => ?_⟩,
    fun s hs hmode ht => ⟨fun n holdest r hr hst hpaused => ?_, fun holdest hgroups hqueues => ?_⟩,
    fun s g owner before after left kind hs r hr hqueue hmoves hbefore => ?_⟩
  · have hnot (p : Prop) [Decidable p] (r : Shutter) : (if p then r.dipped else r) =
        if r.state = .raising ∧ r.paused = false ∧ p then { r with paused := true, raiseTimer := r.raiseTimer.freeze }
        else r := by
      by_cases hp : p <;> simp [hp, Shutter.dipped]
    have hdipped : s.sht.dipped s.sup.toPause = { table := s.sht.table.mapIdx fun n o => o.map fun r =>
        if r.state = .raising ∧ r.paused = false ∧ MoveOwner.shutter n ∈ s.sup.toPause then
          { r with paused := true, raiseTimer := r.raiseTimer.freeze }
        else r } := by
      refine congrArg Shutters.mk (congrArg (List.mapIdx · _) (funext fun n => funext fun o => ?_))
      simp only [← hnot]
      by_cases hn : MoveOwner.shutter n ∈ s.sup.toPause <;> simp [hn]
    exact congrArg (fun t => Host.Outcome.next (((s.onSup Supply.dipped).onSht fun _ => t).noticed _)) hdipped
  · exact settle_event_silent (b := .sup) hs (if_pos h)
  · exact settle_event_silent (b := .sup) hs (if_pos h)
  · exact settle_event_silent (b := .sup) hs (if_neg h)
  · exact exec_restartTimerExpiry_next hs hmode ht holdest hr hst hpaused
  · refine settle_event (b := .sup) hs (supplyRestartExpiry_steady hmode ht holdest)
      ((Does.notice _ _).append (Does.passes fun g _ r hr => hqueues r (List.mem_of_getElem? hr))) (hn := ?_)
    rw [List.length_range, hgroups]
    norm_num
  · refine settle_event (b := .sup) hs (supplySettleExpiry_settled hr hmoves hbefore) (Does.pass_waits fun r' hr' => .inl ?_)
    have hr' : (s.sup.groups.set g { r with moves := before ++ after })[g]? = some r' := hr'
    rw [List.getElem?_set_self (List.getElem?_eq_some_iff.mp hr).1] at hr'
    obtain rfl := Option.some.inj hr'
    exact hqueue

end Sys2Proof.Machine
end

section
/-! SUPPORT. The chain's changes of state, its requests, and what they hand on (chapter 1). -/

namespace Sys2Proof.Machine

/-! ### Events between the messages of a turn -/

theorem State.during_self {s : State} (h : s.agenda = []) : s.during s.lnk.requests [] = s := by
  unfold State.during
  rw [← h]

/-- An event whose block changes its own record to that of `v` and hands on `ms`, whatever requests wait. -/
theorem settle_event_during {b : Block} {f : State → State} {s v w : State} {n : Nat} {ms : List Msg} (hs : s.quiet = true)
    (hf : ∀ q, f (s.during q []) = v.during q ms) (h : Does n ms v w)
    (hown : b.own (fun _ => v.post ms) s = v.post ms := by rfl) (hagenda : v.agenda = s.agenda := by rfl)
    (hlnk : v.lnk = s.lnk := by rfl)
    (hroom : w.snd.roomDue = s.snd.roomDue := by rfl) (hn : n < 1000000000 := by norm_num) :
    settle (b.own f s) = .next w := by
  obtain ⟨ha, -⟩ := s.quiet_iff.mp hs
  have hpost : v.during s.lnk.requests ms = v.post ms := by
    have hv : v.during s.lnk.requests [] = v := by
      rw [← hlnk]
      exact State.during_self (hagenda.trans ha)
    rw [show v.during s.lnk.requests ms = (v.during s.lnk.requests []).post ms from rfl, hv]
  refine settle_event hs ((?_ : f s = _).trans hpost) h hown hagenda hroom hn
  rw [← hf, State.during_self ha]

/-! ### States -/

/-- The chain's record as it enters a state (R5, R6, R15). -/
def Chain.enter (c : Chain) (st : ChainState) : Chain :=
  { c.into st with
    stallRun := if st = .running then 0 else c.stallRun
    creepCount := if st == .parked || st == .starting || st == .homing || st == .inspectionIdle then 0 else c.creepCount }

/-- The reports of a change of state (R6, R168). -/
def enterMsgs (st : ChainState) : List Msg := [.prg (.chainState st), .fir .chainChanged]

/-- The report of a park record that is cleared (R47). -/
def unparkMsgs (c : Chain) : List Msg := if c.park.isSome then [.sht .parkChanged] else []

section
variable (u : State) (q : List Request) (ms : List Msg)

theorem chainEnter_during (st : ChainState) : chainEnter st (u.during q ms) =
    (u.onChn fun c => c.enter st).during q (ms ++ enterMsgs st) := rfl

theorem chainHalt_during : chainHalt (u.during q ms) =
    (u.onChn fun c => { c.into .halted with rest := c.x }).during q (ms ++ enterMsgs .halted) := rfl

theorem chainBrake_during : chainBrake (u.during q ms) =
    (u.onChn fun c => { c.into .braking with plan := none }).during q
      (ms ++ [.sup (.ended .chain)] ++ enterMsgs .braking) := rfl

theorem chainPark_during (set : List Nat) : chainPark set (u.during q ms) =
    (u.onChn fun c =>
      { c.into .parked with park := some ⟨set, c.x⟩, rest := c.x, plan := none, creepCount := 0 }).during q
      (ms ++ enterMsgs .parked ++ [.lnk (.notice (.chainParked set u.chn.x)), .sht .parkChanged]) := rfl

theorem chainUnpark_during : chainUnpark (u.during q ms) =
    (u.onChn fun c => { c with park := none }).during q (ms ++ unparkMsgs u.chn) := by
  unfold chainUnpark unparkMsgs
  cases hpark : u.chn.park with
  | none =>
    have hsame : (u.onChn fun c => { c with park := none }) = u :=
      State.onChn_congr (g := id) (by simp [← hpark])
    simp [hpark, hsame]
  | some p => simp [hpark]

theorem chainWithdraw_none (h : u.chn.request = none) : chainWithdraw (u.during q ms) = u.during q ms := by
  simp [chainWithdraw, h]

theorem chainWithdraw_some (h : u.chn.request ≠ none) : chainWithdraw (u.during q []) =
    (u.onChn fun c => { c with request := none, creepSet := [] }).during q [.sup (.withdraw .chain)] := by
  have hsome : u.chn.request.isSome = true := Option.isSome_iff_ne_none.mpr h
  simp [chainWithdraw, hsome]

theorem chainUnpark_enter_during (st : ChainState) : chainEnter st (chainUnpark (u.during q ms)) =
    (u.onChn fun c => { c.enter st with park := none }).during q (ms ++ unparkMsgs u.chn ++ enterMsgs st) := by
  rw [chainUnpark_during, chainEnter_during]
  rfl

theorem chainAsk_during (r : ChainRequest) (hroom : u.sup.full .chain u.chn.group = false) :
    chainAsk r (u.during q []) = (u.onChn fun c => { c with request := some r }).during q
      [.sup (.request .chain (.chain r.kind) u.chn.group), .sup (.pass u.chn.group)] := by
  simp [chainAsk, hroom, State.request]

end

/-- The clearance duty with nothing to take up (R14). -/
theorem chainDutyAlone_none {s : State}
    (h : s.chn.state = .halted → s.chn.known = true → s.chn.request = none → s.chn.clearance = []) : chainDutyAlone s = s := by
  refine if_neg fun hduty => ?_
  simp only [Bool.and_eq_true, decide_eq_true_eq, Option.isNone_iff_eq_none, Bool.not_eq_true',
    List.isEmpty_eq_false_iff] at hduty
  obtain ⟨⟨⟨hhalted, hknown⟩, hnone⟩, hsome⟩ := hduty
  exact hsome (h hhalted hknown hnone)

/-! ### What the other blocks make of it -/

theorem State.alone_iff (s : State) : s.alone = true ↔
    s.idleProgramme = true ∧ s.peaceful = true ∧ s.sup.settles = true := by
  simp only [State.alone, Bool.and_eq_true, and_assoc]

theorem Supply.withoutChain_iff (u : Supply) : u.withoutChain = true ↔
    ∀ r ∈ u.groups, ∀ q ∈ r.queue, q.owner ≠ .chain := by
  simp [Supply.withoutChain]

namespace Does

variable {u w : State} {n : Nat}

theorem enterMsgs (hprogramme : u.idleProgramme = true) (hfire : u.peaceful = true) (st : ChainState) :
    Does 2 (enterMsgs st) u u := entered hprogramme hfire st

theorem unparkMsgs (h : u.chn.state ≠ .parked) (c : Chain) : ∃ k ≤ 1, Does k (unparkMsgs c) u u := by
  unfold Machine.unparkMsgs
  split
  · exact ⟨1, le_rfl, parkChanged_unparked h⟩
  · exact ⟨0, by norm_num, .nil u⟩

/-- No shutter waits for clearance, so a new park record releases none (R47). -/
theorem parkChanged_unawaited (h : ∀ k r, u.sht.get? k = some r → r.state ≠ .awaitClear) : Does 1 [.sht .parkChanged] u u :=
  sht_same fun q => by
    have hnone : presentWhere u.sht.table (fun r =>
        r.state == .awaitClear && r.landing?.any u.chn.parkedClearOf) = [] :=
      presentWhere_eq_nil fun k r hr => by simp [h k r hr]
    unfold shutterTake shutterParkChanged
    simp only [State.during_sht, State.during_chn, hnone]
    rfl

/-- A request of the chain that must wait stands at the head of its queue (R68). -/
theorem chain_holds {g : Nat} {kind : ChainMove} (h : u.sup.holds g = true) (hnew : u.sup.withoutChain = true) :
    Does 2 [.sup (.request .chain (.chain kind) g), .sup (.pass g)] u (u.onSup fun p => p.chainQueued g kind) :=
  request_holds (owner := .chain) (kind := .chain kind) h fun r hr =>
    (Supply.withoutChain_iff _).mp hnew r (List.mem_of_getElem? hr)

/-- A request of the chain admitted at once. -/
theorem chain_admits {g : Nat} {kind : ChainMove} (h : u.sup.admits g = true)
    (hd : Does n [.chn (.admitted kind)] (u.onSup fun p => p.withMove g .chain (.chain kind)) w)
    (hsup : w.sup = u.sup.withMove g .chain (.chain kind)) :
    ∃ k ≤ n + 4, Does k [.sup (.request .chain (.chain kind) g), .sup (.pass g)] u w := by
  refine request_admits h hd (.inl rfl) fun r hr => ?_
  obtain ⟨x, hx, -, hq, -⟩ := Supply.admits_iff.mp h
  rw [hsup, Supply.withMove, modify_eq_set hx, List.getElem?_set_self (List.getElem?_eq_some_iff.mp hx).1] at hr
  obtain rfl := Option.some.inj hr
  exact hq

/-! ### Admitted moves (R8, R9, R19) -/

/-- A park record cleared and a state entered, in a part where nobody makes anything of it. -/
theorem unpark_enter {st : ChainState} (hstate : u.chn.state = st) (hst : st ≠ .parked)
    (hprogramme : u.idleProgramme = true) (hfire : u.peaceful = true) (c : Chain) :
    ∃ k ≤ 3, Does k (Machine.unparkMsgs c ++ Machine.enterMsgs st) u u := by
  obtain ⟨k, hk, hunpark⟩ := unparkMsgs (u := u) (by rw [hstate]; exact hst) c
  exact ⟨k + 2, by omega, hunpark.append (enterMsgs hprogramme hfire st)⟩

theorem admitted_start (hpermission : startPermission u.chn u.sht u.fir.condition = true)
    (hprogramme : u.idleProgramme = true) (hfire : u.peaceful = true) :
    ∃ k ≤ 4, Does k [.chn (.admitted .start)] u (u.onChn fun c => { c.into .starting with
      request := none, park := none, creepCount := 0, runupTimer := Timer.start c.config.times.runup }) := by
  obtain ⟨k, hk, hd⟩ := unpark_enter (u := u.onChn fun c => { c.into .starting with
    request := none, park := none, creepCount := 0, runupTimer := Timer.start c.config.times.runup })
    (st := .starting) rfl (by decide) hprogramme hfire u.chn
  refine ⟨1 + k, by omega, chn (fun q => (if_pos hpermission).trans ?_) hd⟩
  have hgo := chainUnpark_enter_during (u.onChn fun c => { c with request := none }) q [] .starting
  exact congrArg (State.onChn · fun c => { c with runupTimer := Timer.start c.config.times.runup }) hgo

theorem admitted_home (hpermission : runPermission u.chn u.sht = true)
    (hprogramme : u.idleProgramme = true) (hfire : u.peaceful = true) :
    ∃ k ≤ 4, Does k [.chn (.admitted .home)] u (u.onChn fun c => { c.into .homing with
      request := none, park := none, creepCount := 0, homingTimer := Timer.start c.config.times.homing }) := by
  obtain ⟨k, hk, hd⟩ := unpark_enter (u := u.onChn fun c => { c.into .homing with
    request := none, park := none, creepCount := 0, homingTimer := Timer.start c.config.times.homing })
    (st := .homing) rfl (by decide) hprogramme hfire u.chn
  refine ⟨1 + k, by omega, chn (fun q => (if_pos hpermission).trans ?_) hd⟩
  have hgo := chainUnpark_enter_during (u.onChn fun c => { c with request := none }) q [] .homing
  exact congrArg (State.onChn · fun c => { c with homingTimer := Timer.start c.config.times.homing }) hgo

end Does

end Sys2Proof.Machine
end

section
/-! RUN CHAIN and HOME CHAIN (R1, R9, R19). -/

namespace Sys2Proof.Machine

section
variable {s : State}

/-! The five orders to a chain not configured (R1). -/

theorem orderRunChain_notConfigured (h : s.chn.config.configured = false) : orderRunChain s = declined .notConfigured s :=
  if_pos (by rw [h]; rfl)

theorem orderStopChain_notConfigured (h : s.chn.config.configured = false) (mask : Nat) :
    orderStopChain mask s = declined .notConfigured s := if_pos (by rw [h]; rfl)

theorem orderHaltChain_notConfigured (h : s.chn.config.configured = false) : orderHaltChain s = declined .notConfigured s :=
  if_pos (by rw [h]; rfl)

theorem orderHomeChain_notConfigured (h : s.chn.config.configured = false) : orderHomeChain s = declined .notConfigured s :=
  if_pos (by rw [h]; rfl)

theorem orderResetChainTrip_notConfigured (h : s.chn.config.configured = false) :
    orderResetChainTrip s = declined .notConfigured s := if_pos (by rw [h]; rfl)

theorem startPermission_of {c : Chain} {t : Shutters} {f : FireCondition} (hsafety : c.safetyClosed = true)
    (hstate : c.state ≠ .tripped) (hpermit : t.permit = true) (hclearance : c.clearance = []) (hfire : f = .normal) :
    startPermission c t f = true := by
  simp [startPermission, runPermission, hsafety, hstate, hpermit, hclearance, hfire]

theorem orderRunChain_asks (hconfigured : s.chn.config.configured = true) (hfire : s.fir.condition = .normal)
    (hstate : s.chn.state = .halted ∨ s.chn.state = .parked) (hrequest : s.chn.request = none)
    (hpermission : startPermission s.chn s.sht s.fir.condition = true) (hroom : s.sup.full .chain s.chn.group = false) :
    orderRunChain s = taken (chainAsk .start s) := by
  have hrest : (s.chn.state = .halted || s.chn.state = .parked) = true := by simpa using hstate
  simp [orderRunChain, hconfigured, hfire, hrest, hrequest, hfire ▸ hpermission, hroom]

theorem orderHomeChain_asks (hconfigured : s.chn.config.configured = true) (hstate : s.chn.state = .halted)
    (hrequest : s.chn.request = none) (hroom : s.sup.full .chain s.chn.group = false) :
    orderHomeChain s = taken (chainAsk .home s) := by
  simp [orderHomeChain, hconfigured, hstate, hrequest, hroom]

/-- An order that asks for a move, whose request waits. -/
theorem exec_asks_holds {c : Instr} {tag : Nat} {o : Order} {r : ChainRequest} (hc : c.order? = some (tag, o))
    (hs : s.ready = true) (ho : o.configures = false) (hfirst : o.answersFirst = false) (howner : o.owner = .chn)
    (horder : ∀ q, serveOrder tag o (s.during q []) = taken (chainAsk r (s.during q [])))
    (hnew : s.sup.withoutChain = true) (hholds : s.sup.holds s.chn.group = true) :
    exec c s = .next ({ s with
      chn := { s.chn with request := some r }
      sup := s.sup.chainQueued s.chn.group r.kind }.answered tag o (.taken false)) := by
  obtain ⟨g, hg, hroom, -⟩ := Supply.holds_iff.mp hholds
  refine exec_of_does (v := s.onChn fun c => { c with request := some r })
    (ms := [.sup (.request .chain (.chain r.kind) s.chn.group), .sup (.pass s.chn.group)]) hc hs
    (fun hw => absurd (hw.symm.trans ho) (by decide)) (fun q => ?_)
    (Does.chain_holds (u := s.onChn _) hholds hnew) hfirst (hown := fun q => by rw [howner]; rfl)
  rw [horder, chainAsk_during _ _ _ (Supply.full_eq_false hg hroom)]
  rfl

/-- An order that asks for a move, admitted at once as `hd` says. -/
theorem exec_asks_admits {c : Instr} {tag n : Nat} {o : Order} {r : ChainRequest} {w : State}
    (hc : c.order? = some (tag, o)) (hs : s.ready = true) (ho : o.configures = false) (hfirst : o.answersFirst = false)
    (howner : o.owner = .chn) (horder : ∀ q, serveOrder tag o (s.during q []) = taken (chainAsk r (s.during q [])))
    (hadmits : s.sup.admits s.chn.group = true)
    (hd : Does n [.chn (.admitted r.kind)] ((s.onChn fun c => { c with request := some r }).onSup fun p =>
      p.withMove s.chn.group .chain (.chain r.kind)) w)
    (hsup : w.sup = s.sup.withMove s.chn.group .chain (.chain r.kind)) (hn : n ≤ 100) (hroom : w.snd.roomDue = s.snd.roomDue) :
    exec c s = .next (w.answered tag o (.taken false)) := by
  obtain ⟨g, hg, -, hq, -⟩ := Supply.admits_iff.mp hadmits
  obtain ⟨k, hk, hasks⟩ := Does.chain_admits (u := s.onChn fun c => { c with request := some r }) hadmits hd hsup
  refine exec_of_does (v := s.onChn fun c => { c with request := some r })
    (ms := [.sup (.request .chain (.chain r.kind) s.chn.group), .sup (.pass s.chn.group)]) hc hs
    (fun hw => absurd (hw.symm.trans ho) (by decide)) (fun q => ?_) hasks hfirst (hown := fun q => by rw [howner]; rfl)
    (hroom := hroom) (hn := by omega)
  rw [horder, chainAsk_during _ _ _ (Supply.full_eq_false hg (by rw [hq]; norm_num))]
  rfl

end

/-- Settles O24: the unconfigured chain, and the two orders queued and admitted. -/
theorem runAndHomeChain : Obligations.RunAndHomeChain := by
  refine ⟨fun s tag mask hs hnot => ?_, fun s tag hs hconfigured hfire hstate hrequest hsafety hpermit hclearance hnew => ?_,
    fun s tag hs hconfigured hstate hrequest hnew => ?_⟩
  · have hsame {c : Instr} {o : Order} (hc : c.order? = some (tag, o)) (ho : o.configures = false)
        (hfirst : o.answersFirst = false)
        (hown : ∀ q, o.owner.own (fun _ => s.during q []) (s.during q []) = s.during q [])
        (h : ∀ q, serveOrder tag o (s.during q []) = declined .notConfigured (s.during q [])) :
        exec c s = .next (s.answered tag o (.declined .notConfigured [])) :=
      exec_unchanged hc hs (fun hw => absurd (hw.symm.trans ho) (by decide)) h hfirst hown
    exact ⟨hsame rfl rfl rfl (fun _ => rfl) fun q => orderRunChain_notConfigured (s := s.during q []) hnot,
      hsame rfl rfl rfl (fun _ => rfl) fun q => orderStopChain_notConfigured (s := s.during q []) hnot mask,
      hsame rfl rfl rfl (fun _ => rfl) fun q => orderHaltChain_notConfigured (s := s.during q []) hnot,
      hsame rfl rfl rfl (fun _ => rfl) fun q => orderHomeChain_notConfigured (s := s.during q []) hnot,
      hsame rfl rfl rfl (fun _ => rfl) fun q => orderResetChainTrip_notConfigured (s := s.during q []) hnot⟩
  · have hpermission : startPermission s.chn s.sht s.fir.condition = true :=
      startPermission_of hsafety (by rcases hstate with h | h <;> simp [h]) hpermit hclearance hfire
    have horder (hroom : s.sup.full .chain s.chn.group = false) (q : List Request) :
        serveOrder tag .runChain (s.during q []) = taken (chainAsk .start (s.during q [])) :=
      orderRunChain_asks (s := s.during q []) hconfigured hfire hstate hrequest hpermission hroom
    refine ⟨fun hholds => ?_, fun hadmits halone => ?_⟩
    · obtain ⟨g, hg, hroom, -⟩ := Supply.holds_iff.mp hholds
      exact exec_asks_holds rfl hs rfl rfl rfl (horder (Supply.full_eq_false hg hroom)) hnew hholds
    · obtain ⟨g, hg, -, hq, -⟩ := Supply.admits_iff.mp hadmits
      obtain ⟨hprogramme, hpeace, -⟩ := s.alone_iff.mp halone
      obtain ⟨k, hk, hstarts⟩ := Does.admitted_start (u := (s.onChn fun c => { c with request := some .start }).onSup fun p =>
        p.withMove s.chn.group .chain (.chain .start)) hpermission hprogramme hpeace
      refine (exec_asks_admits rfl hs rfl rfl rfl (horder (Supply.full_eq_false hg (by rw [hq]; norm_num))) hadmits hstarts rfl
        (by omega) rfl).trans ?_
      simp only [State.onChn, State.onSup, Chain.into, hrequest]
  · have horder (hroom : s.sup.full .chain s.chn.group = false) (q : List Request) :
        serveOrder tag .homeChain (s.during q []) = taken (chainAsk .home (s.during q [])) :=
      orderHomeChain_asks (s := s.during q []) hconfigured hstate hrequest hroom
    refine ⟨fun hholds => ?_, fun hadmits halone hsafety hpermit => ?_⟩
    · obtain ⟨g, hg, hroom, -⟩ := Supply.holds_iff.mp hholds
      exact exec_asks_holds rfl hs rfl rfl rfl (horder (Supply.full_eq_false hg hroom)) hnew hholds
    · obtain ⟨g, hg, -, hq, -⟩ := Supply.admits_iff.mp hadmits
      obtain ⟨hprogramme, hpeace, -⟩ := s.alone_iff.mp halone
      have hpermission : runPermission s.chn s.sht = true := by simp [runPermission, hsafety, hstate, hpermit]
      obtain ⟨k, hk, hstarts⟩ := Does.admitted_home (u := (s.onChn fun c => { c with request := some .home }).onSup fun p =>
        p.withMove s.chn.group .chain (.chain .home)) hpermission hprogramme hpeace
      refine (exec_asks_admits rfl hs rfl rfl rfl (horder (Supply.full_eq_false hg (by rw [hq]; norm_num))) hadmits hstarts rfl
        (by omega) rfl).trans ?_
      simp only [State.onChn, State.onSup, Chain.into, hrequest]

end Sys2Proof.Machine
end

section
/-! STOP CHAIN, HALT CHAIN and RESET CHAIN TRIP (R11, R12, R18, R23). -/

namespace Sys2Proof.Machine

theorem setUnion_maskSet (mask : Nat) (b : List Nat) :
    setUnion (maskSet 16 mask) b = (List.range 16).filter fun k => mask.testBit k || b.contains k :=
  List.filter_congr fun k hk => by
    have hmask : (maskSet 16 mask).contains k = mask.testBit k := by
      rw [Bool.eq_iff_iff, List.contains_iff_mem, maskSet, List.mem_filter]
      exact ⟨fun h => h.2, fun h => ⟨hk, h⟩⟩
    rw [hmask]

theorem mem_allLandings {c : ChainConfig} {k : Nat} : k ∈ c.allLandings ↔ (c.landings[k]?).join ≠ none := by
  unfold ChainConfig.allLandings
  rw [mem_presentWhere, Option.ne_none_iff_exists']
  simp only [present?, and_true]

/-- A brake: the move ends, and nobody makes anything of the change of state (R12, R18). -/
theorem Does.brakes {u : State} (h : u.alone = true) :
    Does 3 ([.sup (.ended .chain)] ++ Machine.enterMsgs .braking) u (u.onSup fun p => p.ended .chain) := by
  obtain ⟨hprogramme, hfire, hsettles⟩ := u.alone_iff.mp h
  exact (ended hsettles .chain).append (enterMsgs (u := u.onSup _) hprogramme hfire .braking)

section
variable {s : State} {mask : Nat}

theorem Chain.startHomeInspect_none {c : Chain} (h : c.request = none) : c.startHomeInspect = false := by
  simp [Chain.startHomeInspect, h]

theorem orderStopChain_configured (hconfigured : s.chn.config.configured = true)
    (hlandings : ∀ k < 16, mask.testBit k = true → (s.chn.config.landings[k]?).join ≠ none) :
    orderStopChain mask s = chainStopOrder (maskSet 16 mask) s := by
  have hnone : setMinus (maskSet 16 mask) s.chn.config.allLandings = [] := by
    refine List.filter_eq_nil_iff.mpr fun k hk => ?_
    obtain ⟨hlt, hbit⟩ := List.mem_filter.mp hk
    have hmem := mem_allLandings.mpr (hlandings k (List.mem_range.mp hlt) hbit)
    simpa using hmem
  simp [orderStopChain, hconfigured, hnone]

/-- A stop order with nothing to stand clear of. -/
theorem chainStopOrder_empty {landings : List Nat} (h : setUnion landings s.chn.clearance = []) :
    chainStopOrder landings s = chainStopEmpty s := by
  simp [chainStopOrder, h]

/-- A stop order that is taken, no START, HOME or INSPECT request being pending. -/
theorem chainStopOrder_takes {landings : List Nat} {t : State} {r : Result} (h : setUnion landings s.chn.clearance ≠ [])
    (hrequest : s.chn.startHomeInspect = false) (hstop : chainStop (setUnion landings s.chn.clearance) s = (t, r))
    (hr : ∀ reason d, r ≠ .declined reason d) : chainStopOrder landings s = (t, r) := by
  have hnot : (setUnion landings s.chn.clearance).isEmpty = false := by simpa [List.isEmpty_iff] using h
  unfold chainStopOrder
  simp only [hnot, hrequest, Bool.false_eq_true, if_false, hstop]
  split
  · rename_i reason d heq
    exact absurd (Prod.mk.inj heq).2 (hr reason d)
  · rfl

theorem exec_stopChain_brakes (hs : s.ready = true) (hconfigured : s.chn.config.configured = true)
    (hstate : s.chn.state = .running) (halone : s.alone = true)
    (hlandings : ∀ k < 16, mask.testBit k = true → (s.chn.config.landings[k]?).join ≠ none)
    (hset : setUnion (maskSet 16 mask) s.chn.clearance = []) (tag : Nat) :
    exec (.stopChain tag mask) s = .next (((s.onChn fun c => { c.into .braking with plan := none }).onSup fun p =>
      p.ended .chain).answered tag (.stopChain mask) (.taken false)) := by
  refine exec_of_does (v := s.onChn fun c => { c.into .braking with plan := none }) rfl hs
    (fun hw => absurd hw Bool.false_ne_true) (fun q => ?_) (Does.brakes (u := s.onChn _) halone)
  refine (orderStopChain_configured (s := s.during q []) hconfigured hlandings).trans
    ((chainStopOrder_empty (s := s.during q []) hset).trans ?_)
  simp only [chainStopEmpty, State.during_chn, hstate]
  rfl

theorem exec_stopChain_plans (hs : s.ready = true) (hconfigured : s.chn.config.configured = true)
    (hstate : s.chn.state = .running) (hknown : s.chn.known = true) (hrequest : s.chn.request = none) (halone : s.alone = true)
    (hlandings : ∀ k < 16, mask.testBit k = true → (s.chn.config.landings[k]?).join ≠ none)
    (hset : setUnion (maskSet 16 mask) s.chn.clearance ≠ []) (tag : Nat) :
    exec (.stopChain tag mask) s = .next ((s.onChn fun c => { c.into .stopping with
      plan := some (makePlan c.config s.clr.table (setUnion (maskSet 16 mask) s.chn.clearance) c.x
        c.stopping) }).answered tag (.stopChain mask) (.taken false)) := by
  obtain ⟨hprogramme, hfire, -⟩ := s.alone_iff.mp halone
  refine exec_of_does (v := s.onChn fun c => { c.into .stopping with
      plan := some (makePlan c.config s.clr.table (setUnion (maskSet 16 mask) s.chn.clearance) c.x c.stopping) })
    (ms := enterMsgs .stopping) rfl hs (fun hw => absurd hw Bool.false_ne_true) (fun q => ?_)
    (Does.enterMsgs (u := s.onChn _) hprogramme hfire .stopping)
  refine (orderStopChain_configured (s := s.during q []) hconfigured hlandings).trans
    (chainStopOrder_takes (s := s.during q []) hset (Chain.startHomeInspect_none hrequest) ?_ (by simp))
  simp only [chainStop, State.during_chn, hstate, hknown, if_true]
  rfl

theorem exec_haltChain_brakes (hs : s.ready = true) (hconfigured : s.chn.config.configured = true)
    (hmoving : s.chn.state.moving = true) (hbraking : s.chn.state ≠ .braking) (halone : s.alone = true) (tag : Nat) :
    exec (.haltChain tag) s = .next (((s.onChn fun c => { c.into .braking with plan := none }).onSup fun p =>
      p.ended .chain).answered tag .haltChain (.done false [])) := by
  refine exec_of_does (v := s.onChn fun c => { c.into .braking with plan := none }) rfl hs
    (fun hw => absurd hw Bool.false_ne_true) (fun q => ?_) (Does.brakes (u := s.onChn _) halone)
  have horder : orderHaltChain (s.during q []) = done (chainBrake (s.during q [])) := by
    unfold orderHaltChain
    simp only [State.during_chn, hconfigured, Bool.not_true, Bool.false_eq_true, if_false]
    cases hst : s.chn.state <;> simp_all [ChainState.moving]
  exact horder

theorem orderHaltChain_rests (hconfigured : s.chn.config.configured = true) (hrequest : s.chn.request = none)
    (hstate : s.chn.state = .tripped ∨ s.chn.state = .inspectionIdle ∨ s.chn.state = .halted ∨ s.chn.state = .parked ∨
      s.chn.state = .braking) : orderHaltChain s = done s := by
  have hsame : chainWithdraw s = s := if_neg (by simp [hrequest])
  unfold orderHaltChain
  rcases hstate with h | h | h | h | h <;> simp [hconfigured, h, hsame]

theorem orderStopChain_rests (hconfigured : s.chn.config.configured = true) (hrequest : s.chn.request = none)
    (hclearance : s.chn.clearance = [])
    (hstate : s.chn.state = .halted ∨ s.chn.state = .parked ∨ s.chn.state = .braking) : orderStopChain 0 s = done s := by
  have hset : setUnion (maskSet 16 0) s.chn.clearance = [] := by simp [setUnion_maskSet, hclearance]
  refine (orderStopChain_configured hconfigured (by simp)).trans ((chainStopOrder_empty hset).trans ?_)
  unfold chainStopEmpty
  rcases hstate with h | h | h <;> simp [h, Chain.startHomeInspect_none hrequest]

end

/-- Settles O25: the stop out of RUNNING, the emergency stop, and the chain at rest. -/
theorem stopAndHaltChain : Obligations.StopAndHaltChain := by
  refine ⟨fun s tag mask hs hconfigured hstate hknown hrequest halone hlandings => ?_,
    fun s tag hs hconfigured hmoving hbraking halone => ?_, fun s tag hs hconfigured hrequest => ⟨fun hstate => ?_,
    fun hstate hclearance => ?_⟩⟩
  · obtain ⟨-, -, hsettles⟩ := s.alone_iff.mp halone
    intro set
    have hset : setUnion (maskSet 16 mask) s.chn.clearance = set := setUnion_maskSet ..
    by_cases hempty : set = []
    · rw [if_pos hempty, supplyEnded_sup hsettles]
      exact exec_stopChain_brakes hs hconfigured hstate halone hlandings (hset.trans hempty) tag
    · rw [if_neg hempty, ← hset]
      exact exec_stopChain_plans hs hconfigured hstate hknown hrequest halone hlandings (hset ▸ hempty) tag
  · obtain ⟨-, -, hsettles⟩ := s.alone_iff.mp halone
    rw [supplyEnded_sup hsettles]
    exact exec_haltChain_brakes hs hconfigured hmoving hbraking halone tag
  · exact exec_unchanged rfl hs (fun hw => absurd hw Bool.false_ne_true)
      fun q => orderHaltChain_rests (s := s.during q []) hconfigured hrequest hstate
  · exact exec_unchanged rfl hs (fun hw => absurd hw Bool.false_ne_true)
      fun q => orderStopChain_rests (s := s.during q []) hconfigured hrequest hclearance hstate

/-! ### RESET CHAIN TRIP (R23) -/

theorem Shutters.landingFault_iff (t : Shutters) : t.landingFault = true ↔
    ∃ k < t.table.length, ∃ r ∈ t.get? k, r.isLanding = true ∧ r.state = .fault := by
  simp only [Shutters.landingFault, List.any_eq_true, Option.any_eq_true, Bool.and_eq_true, beq_iff_eq]
  constructor
  · rintro ⟨o, ho, r, rfl, hr⟩
    obtain ⟨k, hk⟩ := List.mem_iff_getElem?.mp ho
    exact ⟨k, (List.getElem?_eq_some_iff.mp hk).1, r, present?_eq_some.mpr hk, hr⟩
  · rintro ⟨k, -, r, hr, hstate⟩
    exact ⟨some r, List.mem_of_getElem? (present?_eq_some.mp hr), r, rfl, hstate⟩

section
variable {s : State}

theorem orderResetChainTrip_wrong (hconfigured : s.chn.config.configured = true)
    (h : s.chn.state ≠ .tripped ∨ s.chn.lastWindow ≠ some 0 ∨ s.chn.safetyClosed = false ∨ s.sht.landingFault = true) :
    orderResetChainTrip s = declined .wrongState s := by
  refine (if_neg (by simp [hconfigured])).trans (if_pos ?_)
  rcases h with h | h | h | h <;> simp [h, Chain.still]

theorem exec_resetChainTrip (hs : s.ready = true) (hconfigured : s.chn.config.configured = true)
    (hstate : s.chn.state = .tripped) (hstill : s.chn.lastWindow = some 0) (hsafety : s.chn.safetyClosed = true)
    (hfault : s.sht.landingFault = false) (hkey : s.chn.keyOn = false) (hclearance : s.chn.clearance = [])
    (halone : s.alone = true) (tag : Nat) : exec (.resetChainTrip tag) s = .next
      (((s.onChn fun c => { c.into .halted with trip := none, park := none, creepCount := 0, rest := c.x }).noticed
        .tripCleared).answered tag .resetChainTrip (.done false [])) := by
  obtain ⟨hprogramme, hfire, -⟩ := s.alone_iff.mp halone
  set v := s.onChn fun c => { c.into .halted with trip := none, park := none, creepCount := 0, rest := c.x }
  obtain ⟨k, hk, hunpark⟩ := Does.unparkMsgs (u := v) (by simp [v, Chain.into]) s.chn
  have hreports := Does.enterMsgs (u := v.noticed .tripCleared) hprogramme hfire .halted
  refine exec_of_does (v := v) rfl hs (fun hw => absurd hw Bool.false_ne_true) (fun q => ?_)
    ((hunpark.append (.notice v .tripCleared)).append hreports) (hn := by omega)
  have horder : orderResetChainTrip (s.during q []) = done (chainDutyAlone (chainHalt ((chainUnpark
      ((s.onChn fun c => { c with trip := none, creepCount := 0 }).during q [])).notify .tripCleared))) := by
    refine (if_neg (by simp [hconfigured])).trans ((if_neg ?_).trans ?_)
    · simp [hstate, hstill, hsafety, hfault, Chain.still]
    · rw [chainUnpark_during]
      simp only [State.during_onChn, chainUnpark_during, State.during_notify, State.during_chn, State.onChn_chn, hkey,
        Bool.false_eq_true, if_false]
  refine horder.trans (congrArg (·, Result.done false []) ?_)
  rw [chainUnpark_during, State.during_notify, chainHalt_during]
  exact chainDutyAlone_none fun _ _ _ => hclearance

end

/-- Settles O26: the declined forms, and the reset with the key off. -/
theorem resetChainTrip : Obligations.ResetChainTrip := by
  intro s tag hs hconfigured
  refine ⟨fun h => ?_, fun hstate hstill hsafety hfault hkey hclearance halone =>
    exec_resetChainTrip hs hconfigured hstate hstill hsafety hfault hkey hclearance halone tag⟩
  rw [← Shutters.landingFault_iff] at h
  exact exec_unchanged rfl hs (fun hw => absurd hw Bool.false_ne_true)
    fun q => orderResetChainTrip_wrong (s := s.during q []) hconfigured h

end Sys2Proof.Machine
end

section
/-! Encoder counts, index marks and car tags (R2 to R4, R13, R15, R17, R38). -/

namespace Sys2Proof.Machine

/-! ### Counts -/

/-- The chain's record after one encoder count. -/
def Chain.counted (c : Chain) (forward : Bool) : Chain :=
  { c.count forward with
    windowCount := c.windowCount + 1, lastForward := forward, plan := c.plan.map fun p => p.count forward }

theorem Chain.counted_eq {c : Chain} (h : 0 < c.config.loopLength) (forward : Bool) : c.counted forward =
    { c with
      x := if forward then (c.x + 1) % c.config.loopLength else (c.x + (c.config.loopLength - 1)) % c.config.loopLength
      windowCount := c.windowCount + 1
      lastForward := forward
      plan := c.plan.map fun p =>
        { p with
          advance := p.advance + (if forward then 1 else -1)
          braked := p.braked || decide ((p.brakeAt : Int) ≤ p.advance + (if forward then 1 else -1)) } } := by
  have hplan : (fun p : StopPlan => p.count forward) = fun p =>
      { p with
        advance := p.advance + (if forward then 1 else -1)
        braked := p.braked || decide ((p.brakeAt : Int) ≤ p.advance + (if forward then 1 else -1)) } := by
    cases forward <;> rfl
  simp only [Chain.counted, Chain.count, if_neg h.ne', hplan]

/-- What a count does besides the count itself. -/
theorem chainCount_during (u : State) (q : List Request) (forward : Bool)
    (h : u.chn.state = .creeping → u.chn.braked = (u.chn.counted forward).braked) :
    chainCount forward (u.during q []) =
      if (u.chn.counted forward).state = .halted || (u.chn.counted forward).state = .parked then
        chainDrift ((u.onChn fun c => c.counted forward).during q [])
      else (u.onChn fun c => c.counted forward).during q [] := by
  have hnot : ¬ ((u.chn.counted forward).state = .creeping && !u.chn.braked && (u.chn.counted forward).braked) = true := by
    rw [Bool.and_eq_true, Bool.and_eq_true, decide_eq_true_eq]
    rintro ⟨⟨hst, hbefore⟩, hafter⟩
    have hst' : u.chn.state = .creeping := by
      simpa [Chain.counted, Chain.count, apply_ite Chain.state] using hst
    rw [h hst', hafter] at hbefore
    cases hbefore
  unfold chainCount
  exact congrArg (fun t : State => if t.chn.state = .halted || t.chn.state = .parked then chainDrift t else t) (if_neg hnot)

theorem chainDrift_near {s : State} (hnear : s.chn.config.configured = true →
    circDist s.chn.config.loopLength s.chn.x s.chn.rest ≤ s.chn.config.times.drift) :
    chainDrift s = if s.chn.config.configured = true ∧ s.chn.state = .parked then chainParkLost s else s := by
  unfold chainDrift
  by_cases hc : s.chn.config.configured = true
  · have hle := hnear hc
    rw [if_neg (by simp [hc]), if_neg (Nat.not_lt.mpr hle)]
    simp [hc]
  · rw [if_pos (by simpa using hc), if_neg fun h => hc h.1]

theorem chainParkLost_clear {s : State} {p : ParkRecord} (hpark : s.chn.park = some p)
    (h : foulingLandings s.chn.config s.chn.x p.set = []) : chainParkLost s = s := by
  simp [chainParkLost, hpark, h]

/-- A chain that fouls a landing of its park record, none waiting for clearance. -/
theorem chainParkLost_fouls {u : State} {p : ParkRecord} (hpark : u.chn.park = some p)
    (h : foulingLandings u.chn.config u.chn.x p.set ≠ []) (hclearance : u.chn.clearance = []) (q : List Request) :
    chainParkLost (u.during q []) = (u.onChn fun c => { c.into .halted with park := none }).during q
      ((unparkMsgs u.chn ++ enterMsgs .halted) ++
        [.lnk (.notice (.parkLost u.chn.x (foulingLandings u.chn.config u.chn.x p.set)))]) := by
  have hnot : ¬ (foulingLandings u.chn.config u.chn.x p.set).isEmpty = true := by simpa [List.isEmpty_iff] using h
  unfold chainParkLost
  simp only [State.during_chn, hpark, Option.map_some, Option.getD_some, if_neg hnot]
  rw [chainUnpark_enter_during, State.during_notify]
  exact chainDutyAlone_none fun _ _ _ => hclearance

/-- What the other blocks make of a park that is lost. -/
theorem Does.parkLost {u : State} (hstate : u.chn.state = .halted) (halone : u.alone = true) (c : Chain) (b : NoticeBody) :
    ∃ k ≤ 4, Does k ((Machine.unparkMsgs c ++ Machine.enterMsgs .halted) ++ [.lnk (.notice b)]) u (u.noticed b) := by
  obtain ⟨hprogramme, hfire, -⟩ := u.alone_iff.mp halone
  obtain ⟨k, hk, hd⟩ := unpark_enter hstate (by decide) hprogramme hfire c
  exact ⟨k + 1, by omega, hd.append (.notice u b)⟩

section
variable {s : State} {forward : Bool}

theorem Chain.counted_state (c : Chain) (forward : Bool) : (c.counted forward).state = c.state := by
  simp [Chain.counted, Chain.count, apply_ite Chain.state]

theorem exec_encoderCount (hs : s.quiet = true)
    (hcreep : s.chn.state = .creeping → s.chn.braked = (s.chn.counted forward).braked)
    (hrest : s.chn.state = .halted ∨ s.chn.state = .parked → ∀ q,
      chainDrift ((s.onChn fun c => c.counted forward).during q []) = (s.onChn fun c => c.counted forward).during q []) :
    exec (.encoderCount forward) s = .next (s.onChn fun c => c.counted forward) := by
  refine settle_event_during (b := .chn) (ms := []) hs (fun q => ?_) (.nil _)
  refine (chainCount_during s q forward hcreep).trans ?_
  rw [Chain.counted_state]
  split
  · rename_i hrests
    exact hrest (by simpa using hrests) q
  · rfl

theorem exec_encoderCount_brakes (hs : s.quiet = true) (hstate : s.chn.state = .creeping) (hbefore : s.chn.braked = false)
    (hafter : (s.chn.counted forward).braked = true) (hsettles : s.sup.settles = true) :
    exec (.encoderCount forward) s = .next ((s.onChn fun c => { c.counted forward with homingTimer := .stopped }).onSup
      fun p => p.ended .chain) := by
  refine settle_event_during (b := .chn) (v := s.onChn fun c => { c.counted forward with homingTimer := .stopped })
    (ms := [.sup (.ended .chain)]) hs (fun q => ?_) (.ended (u := s.onChn _) hsettles .chain)
  have hst := (s.chn.counted_state forward).trans hstate
  have hbrakes : ((s.chn.counted forward).state = .creeping && !s.chn.braked && (s.chn.counted forward).braked) = true := by
    simp [hst, hbefore, hafter]
  refine (congrArg (fun t : State => if t.chn.state = .halted || t.chn.state = .parked then chainDrift t else t)
    (if_pos hbrakes)).trans (if_neg ?_)
  have hcreeps : (s.chn.counted forward).state = .creeping := hst
  change ¬ ((s.chn.counted forward).state = .halted || (s.chn.counted forward).state = .parked) = true
  simp [hcreeps]

theorem exec_encoderCount_parkLost (hs : s.quiet = true) (hstate : s.chn.state = .parked) {p : ParkRecord}
    (hpark : (s.chn.counted forward).park = some p) (hconfigured : (s.chn.counted forward).config.configured = true)
    (hnear : circDist (s.chn.counted forward).config.loopLength (s.chn.counted forward).x (s.chn.counted forward).rest ≤
      (s.chn.counted forward).config.times.drift)
    (hfouls : foulingLandings (s.chn.counted forward).config (s.chn.counted forward).x p.set ≠ [])
    (hclearance : (s.chn.counted forward).clearance = []) (halone : s.alone = true) :
    exec (.encoderCount forward) s = .next
      ({ s with chn := { (s.chn.counted forward).into .halted with park := none } }.noticed
        (.parkLost (s.chn.counted forward).x
          (foulingLandings (s.chn.counted forward).config (s.chn.counted forward).x p.set))) := by
  set v := s.onChn fun c => c.counted forward
  have hst : v.chn.state = .parked := (s.chn.counted_state forward).trans hstate
  obtain ⟨k, hk, hd⟩ := Does.parkLost (u := v.onChn fun c => { c.into .halted with park := none }) rfl halone v.chn
    (.parkLost v.chn.x (foulingLandings v.chn.config v.chn.x p.set))
  refine settle_event_during (b := .chn) hs (fun q => ?_) hd (hn := by omega)
  refine (chainCount_during s q forward fun h => by rw [hstate] at h; cases h).trans ((if_pos ?_).trans
    ((chainDrift_near (s := v.during q []) fun _ => hnear).trans ((if_pos ⟨hconfigured, hst⟩).trans
      (chainParkLost_fouls (u := v) hpark hfouls hclearance q))))
  rw [s.chn.counted_state, hstate]
  rfl

end

/-- Settles O27: the count itself, the creep's brake point, and the park record in PARKED. -/
theorem encoderCount : Obligations.EncoderCount := by
  intro s forward hs hloop l counted near
  have hcounted : s.chn.counted forward = counted := Chain.counted_eq hloop forward
  refine ⟨fun hparked hcreep hnear => ?_, fun hstate hbefore hafter hsettles => ?_,
    fun hstate hconfigured hnear p hp => ⟨fun hclear => ?_, fun hfouls hclearance halone => ?_⟩⟩
  · rw [← hcounted]
    refine exec_encoderCount hs (hcounted ▸ hcreep) fun hrest q => ?_
    have hhalted : s.chn.state = .halted := hrest.resolve_right hparked
    have hstate' : (s.chn.counted forward).state ≠ .parked := by simp [Chain.counted_state, hhalted]
    refine (chainDrift_near (s := (s.onChn fun c => c.counted forward).during q []) ?_).trans (if_neg fun h => hstate' h.2)
    change (s.chn.counted forward).config.configured = true → circDist (s.chn.counted forward).config.loopLength
      (s.chn.counted forward).x (s.chn.counted forward).rest ≤ (s.chn.counted forward).config.times.drift
    rw [hcounted]
    exact hnear hhalted
  · rw [← hcounted, supplyEnded_sup hsettles]
    exact exec_encoderCount_brakes hs hstate hbefore (hcounted ▸ hafter) hsettles
  · rw [← hcounted]
    refine exec_encoderCount hs (fun h => by rw [hstate] at h; cases h) fun _ q => ?_
    refine (chainDrift_near (s := (s.onChn fun c => c.counted forward).during q []) ?_).trans ((if_pos ⟨?_, ?_⟩).trans
      (chainParkLost_clear (p := p) ?_ ?_))
    all_goals simp only [State.during_chn, State.onChn_chn, hcounted]
    · exact fun _ => hnear
    · exact hp
    · exact hclear
    · exact hconfigured
    · exact hstate
  · have hlost := exec_encoderCount_parkLost (forward := forward) (p := p) hs hstate
    rw [hcounted] at hlost
    exact hlost hp hconfigured hnear hfouls hclearance halone

end Sys2Proof.Machine
end

section
/-! Index marks and car tags (R2 to R4, R17, R19, R38). -/

namespace Sys2Proof.Machine

/-- The chain's record after an index correction. -/
def Chain.corrected (c : Chain) : Chain :=
  { c with
    x := 0
    rest := circMinus c.config.loopLength c.rest c.x
    plan := c.plan.map fun p =>
      { p with x0 := circMinus c.config.loopLength p.x0 c.x, target := circMinus c.config.loopLength p.target c.x } }

section
variable {s : State}

theorem chainIndex_corrects (u : State) (q : List Request) (hstate : u.chn.state ≠ .homing) (hknown : u.chn.known = true)
    (hnear : circDist u.chn.config.loopLength u.chn.x 0 ≤ (u.chn.config.geometry.map (·.indexTolerance)).getD 0) :
    chainIndex (u.during q []) =
      if u.chn.state = .parked then chainParkLost ((u.onChn Chain.corrected).during q [])
      else (u.onChn Chain.corrected).during q [] :=
  (if_neg hstate).trans ((if_neg (by simp [hknown])).trans (if_pos hnear))

theorem exec_indexMark_homed (hs : s.quiet = true) (hstate : s.chn.state = .homing) (halone : s.alone = true) :
    exec .indexMark s = .next (((s.onChn fun c => { c.into .braking with
      x := 0, known := true, lastCar := none, plan := none }).onSup fun p => p.ended .chain).noticed .chainHomed) := by
  set v := s.onChn fun c => { c.into .braking with x := 0, known := true, lastCar := none, plan := none }
  obtain ⟨-, hfire, -⟩ := s.alone_iff.mp halone
  have hbrakes := Does.brakes (u := v) halone
  have hchanged := Does.chainChanged (u := v.onSup fun p => p.ended .chain) hfire
  exact settle_event_during (b := .chn) (f := chainIndex) (v := v)
    (ms := ([.sup (.ended .chain)] ++ enterMsgs .braking) ++ ([.fir .chainChanged] ++ [.lnk (.notice .chainHomed)])) hs
    (fun q => (if_pos (show (s.during q []).chn.state = .homing from hstate)).trans rfl) (hbrakes.append (hchanged.append (.notice _ _)))

end

/-- Settles O28: the correction alone, and the park record tested again. -/
theorem indexCorrectionKeepsPlan : Obligations.IndexCorrectionKeepsPlan := by
  intro s hs hknown hnear l corrected
  refine ⟨fun hhoming hparked => ?_, fun hstate p hp => ⟨fun hclear => ?_, fun hfouls hclearance halone => ?_⟩⟩
  · exact settle_event_during (b := .chn) (v := s.onChn Chain.corrected) (ms := []) hs
      (fun q => (chainIndex_corrects s q hhoming hknown hnear).trans (if_neg hparked)) (.nil _)
  · exact settle_event_during (b := .chn) (v := s.onChn Chain.corrected) (ms := []) hs
      (fun q => (chainIndex_corrects s q (by simp [hstate]) hknown hnear).trans ((if_pos hstate).trans
        (chainParkLost_clear (s := (s.onChn Chain.corrected).during q []) hp hclear))) (.nil _)
  · set v := s.onChn Chain.corrected
    obtain ⟨k, hk, hd⟩ := Does.parkLost (u := v.onChn fun c => { c.into .halted with park := none }) rfl halone v.chn
      (.parkLost v.chn.x (foulingLandings v.chn.config v.chn.x p.set))
    exact settle_event_during (b := .chn) hs (fun q => (chainIndex_corrects s q (by simp [hstate]) hknown hnear).trans
      ((if_pos hstate).trans (chainParkLost_fouls (u := v) hp hfouls hclearance q))) hd (hn := by omega)

/-! ### Car tags (R4) -/

theorem foldl_min_le (l : List Nat) (b : Nat) : l.foldl min b ≤ b := by
  induction l generalizing b with
  | nil => exact le_rfl
  | cons x l ih => exact (ih (min b x)).trans (Nat.min_le_left ..)

theorem foldl_min_le_mem {l : List Nat} {x : Nat} (h : x ∈ l) (b : Nat) : l.foldl min b ≤ x := by
  induction l generalizing b with
  | nil => cases h
  | cons y l ih =>
    rcases List.mem_cons.mp h with rfl | h
    · exact (foldl_min_le l (min b x)).trans (Nat.min_le_right ..)
    · exact ih h (min b y)

theorem le_foldl_min {l : List Nat} {b m : Nat} (hb : m ≤ b) (h : ∀ x ∈ l, m ≤ x) : m ≤ l.foldl min b := by
  induction l generalizing b with
  | nil => exact hb
  | cons y l ih =>
    exact ih (Nat.le_min.mpr ⟨hb, h y (List.mem_cons_self ..)⟩) fun x hx => h x (List.mem_cons_of_mem _ hx)

theorem circDist_lt {m : Nat} (h : 0 < m) (a b : Nat) : circDist m a b < m :=
  (Nat.min_le_left ..).trans_lt (Nat.mod_lt _ h)

/-- The one car nearest the tag reader is the only one, if any, that the reader is at. -/
theorem Chain.nearest_sub {c : Chain} {g : GeometryFields} {k : Nat} (hk : k < g.cars)
    (h : ∀ j < g.cars, j ≠ k → circDist (g.cars * g.pitch) (c.x + k * g.pitch) g.tagReader <
      circDist (g.cars * g.pitch) (c.x + j * g.pitch) g.tagReader) : ∀ j ∈ c.nearest g, j = k := by
  intro j hj
  obtain ⟨hlt, hleast⟩ := List.mem_filter.mp hj
  by_contra hne
  have hnear := h j (List.mem_range.mp hlt) hne
  have hle := foldl_min_le_mem (List.mem_map_of_mem (f := fun k =>
    circDist (g.cars * g.pitch) (c.x + k * g.pitch) g.tagReader) (List.mem_range.mpr hk)) (g.cars * g.pitch)
  exact absurd ((beq_iff_eq.mp hleast).trans_le hle) (Nat.not_le.mpr hnear)

theorem Chain.mem_nearest {c : Chain} {g : GeometryFields} {k : Nat} (hk : k < g.cars) (hloop : 0 < g.cars * g.pitch)
    (h : ∀ j < g.cars, j ≠ k → circDist (g.cars * g.pitch) (c.x + k * g.pitch) g.tagReader <
      circDist (g.cars * g.pitch) (c.x + j * g.pitch) g.tagReader) : k ∈ c.nearest g := by
  refine List.mem_filter.mpr ⟨List.mem_range.mpr hk, beq_iff_eq.mpr (Nat.le_antisymm (le_foldl_min ?_ ?_) ?_)⟩
  · exact (circDist_lt hloop _ _).le
  · intro x hx
    obtain ⟨j, hj, rfl⟩ := List.mem_map.mp hx
    by_cases hjk : j = k
    · rw [hjk]
    · exact (h j (List.mem_range.mp hj) hjk).le
  · exact foldl_min_le_mem (List.mem_map_of_mem (List.mem_range.mpr hk)) _

theorem eq_nil_or_singleton {l : List Nat} {k : Nat} (hnodup : l.Nodup) (h : ∀ j ∈ l, j = k) : l = [] ∨ l = [k] := by
  match l with
  | [] => exact .inl rfl
  | [a] => exact .inr (by rw [h a (List.mem_singleton_self a)])
  | a :: b :: l =>
    have hab : a = b := (h a (by simp)).trans (h b (by simp)).symm
    simp [hab] at hnodup

theorem Chain.nearest_eq {c : Chain} {g : GeometryFields} {k : Nat} (hk : k < g.cars)
    (h : ∀ j < g.cars, j ≠ k → circDist (g.cars * g.pitch) (c.x + k * g.pitch) g.tagReader <
      circDist (g.cars * g.pitch) (c.x + j * g.pitch) g.tagReader) :
    c.nearest g = [k] ∨ (c.nearest g = [] ∧ k = 0) := by
  have hnodup : (c.nearest g).Nodup := List.nodup_range.filter _
  rcases eq_nil_or_singleton hnodup (Chain.nearest_sub hk h) with hnil | hone
  · refine .inr ⟨hnil, ?_⟩
    by_contra hne
    rcases Nat.eq_zero_or_pos (g.cars * g.pitch) with hzero | hloop
    · have hpitch : g.pitch = 0 := (Nat.mul_eq_zero.mp hzero).resolve_left (by omega)
      have hless := h 0 (by omega) (Ne.symm hne)
      simp [hpitch] at hless
    · have hmem := Chain.mem_nearest hk hloop h
      rw [hnil] at hmem
      cases hmem
  · exact .inl hone

section
variable {s : State} {carTag : Tag2} {g : GeometryFields}

/-- The strobe with a sill at the reader records the one car nearest it (R4). -/
theorem chainTag_first (hknown : s.chn.known = true) (hg : s.chn.config.geometry = some g)
    (hnear : circDist g.pitch s.chn.x g.tagReader ≤ g.tagTolerance) (hlast : s.chn.lastCar = none) {k : Nat} (hk : k < g.cars)
    (h : ∀ j < g.cars, j ≠ k → circDist (g.cars * g.pitch) (s.chn.x + k * g.pitch) g.tagReader <
      circDist (g.cars * g.pitch) (s.chn.x + j * g.pitch) g.tagReader) :
    chainTag carTag s = s.onChn fun c => { c with lastCar := some k } := by
  have hcar : s.chn.carAtReader g = k ∧ ¬ 1 < (s.chn.nearest g).length := by
    rcases Chain.nearest_eq hk h with hone | ⟨hnil, rfl⟩
    · simp [Chain.carAtReader, hone]
    · simp [Chain.carAtReader, hnil]
  obtain ⟨hreader, htie⟩ := hcar
  simp only [chainTag, hknown, hg, if_neg (Nat.not_lt.mpr hnear), hlast]
  exact State.onChn_congr (by simp [hreader, htie])

/-- A strobe of the expected car (R4). -/
theorem chainTag_expected (hknown : s.chn.known = true) (hg : s.chn.config.geometry = some g)
    (hnear : circDist g.pitch s.chn.x g.tagReader ≤ g.tagTolerance) {last : Nat} (hlast : s.chn.lastCar = some last)
    (hcar : expectedCar g.cars last s.chn.lastForward % 4 = carTag.toNat) :
    chainTag carTag s = s.onChn fun c => { c with lastCar := some (expectedCar g.cars last s.chn.lastForward) } := by
  simp only [chainTag, hknown, hg, if_neg (Nat.not_lt.mpr hnear), hlast, if_pos hcar]

end

/-- Settles O29: the index mark of a homing run, and the car at the tag reader. -/
theorem indexAndTagReader : Obligations.IndexAndTagReader := by
  refine ⟨⟨fun s hs hstate halone => ?_, fun s hs hstate hknown => ?_⟩, fun s carTag hs hknown g hg hnear => ⟨?_, ?_⟩,
    fun s carTag hs hknown => ?_⟩
  · obtain ⟨-, -, hsettles⟩ := s.alone_iff.mp halone
    rw [supplyEnded_sup hsettles]
    exact exec_indexMark_homed hs hstate halone
  · exact settle_event_same .chn hs ((if_neg hstate).trans (if_pos (by simp [hknown])))
  · intro last hlast car hcar
    exact settle_event_silent (b := .chn) hs (chainTag_expected hknown hg hnear hlast hcar)
  · intro hlast k hk h
    exact settle_event_silent (b := .chn) hs (chainTag_first hknown hg hnear hlast hk h)
  · refine settle_event_same .chn hs ?_
    simp only [chainTag, hknown]

end Sys2Proof.Machine
end

section
/-! The end of a window (R5, R9, R13, R15, R18). -/

namespace Sys2Proof.Machine

/-- The chain's record as a window ends. -/
def Chain.windowed (c : Chain) : Chain := { c with lastWindow := some c.windowCount, windowCount := 0 }

theorem chainWindow_during (u : State) (q : List Request)
    (h : u.chn.config.configured = true → u.chn.windowCount ≤ u.chn.config.times.overspeedLimit) :
    chainWindow (u.during q []) = chainJudge u.chn.windowCount ((u.onChn Chain.windowed).during q []) := by
  refine if_neg fun hover => ?_
  obtain ⟨hconfigured, hlt⟩ := Bool.and_eq_true_iff.mp hover
  exact absurd (of_decide_eq_true hlt) (Nat.not_lt.mpr (h hconfigured))

section
variable {s : State}

/-- A window that ends within the overspeed limit, and what its state makes of it. -/
theorem exec_windowEnd {v w : State} {ms : List Msg} {n : Nat} (hs : s.quiet = true)
    (hspeed : s.chn.config.configured = true → s.chn.windowCount ≤ s.chn.config.times.overspeedLimit)
    (hjudge : ∀ q, chainJudge s.chn.windowCount ((s.onChn Chain.windowed).during q []) = v.during q ms) (hd : Does n ms v w)
    (hown : Block.chn.own (fun _ => v.post ms) s = v.post ms := by rfl) (hagenda : v.agenda = s.agenda := by rfl)
    (hlnk : v.lnk = s.lnk := by rfl) (hroom : w.snd.roomDue = s.snd.roomDue := by rfl) (hn : n < 1000000000 := by norm_num) :
    exec .windowEnd s = .next w :=
  settle_event_during (b := .chn) hs (fun q => (chainWindow_during s q hspeed).trans (hjudge q)) hd hown hagenda hlnk hroom hn

theorem exec_windowEnd_silent {v : State} (hs : s.quiet = true)
    (hspeed : s.chn.config.configured = true → s.chn.windowCount ≤ s.chn.config.times.overspeedLimit)
    (hjudge : ∀ q, chainJudge s.chn.windowCount ((s.onChn Chain.windowed).during q []) = v.during q [])
    (hown : Block.chn.own (fun _ => v.post []) s = v.post [] := by rfl) (hagenda : v.agenda = s.agenda := by rfl)
    (hlnk : v.lnk = s.lnk := by rfl) (hroom : v.snd.roomDue = s.snd.roomDue := by rfl) : exec .windowEnd s = .next v :=
  exec_windowEnd hs hspeed hjudge (.nil v) hown hagenda hlnk hroom

variable {u : State} {q : List Request} {n : Nat}

theorem chainJudge_notes (h : u.chn.state.moving = false ∨ u.chn.state = .homing ∨ u.chn.state = .inspectionRun) :
    chainJudge n (u.during q []) = u.during q [] := by
  unfold chainJudge
  rcases h with h | h | h
  · cases hst : u.chn.state <;> simp_all [ChainState.moving]
  · simp [h]
  · simp [h]

theorem chainJudge_runs (h : u.chn.state = .running) (hn : u.chn.config.times.stallLimit ≤ n) :
    chainJudge n (u.during q []) = (u.onChn fun c => { c with stallRun := 0 }).during q [] := by
  simp [chainJudge, h, hn]

theorem chainJudge_slows (h : u.chn.state = .running) (hn : n < u.chn.config.times.stallLimit) (hrun : u.chn.stallRun < 2) :
    chainJudge n (u.during q []) = (u.onChn fun c => { c with stallRun := c.stallRun + 1 }).during q [] := by
  have hthree : u.chn.stallRun + 1 < 3 := by omega
  simp [chainJudge, h, hn, hthree]

theorem chainJudge_starting (h : u.chn.state = .starting) (hn : n < u.chn.config.times.stallLimit) :
    chainJudge n (u.during q []) = u.during q [] := by
  simp only [chainJudge, State.during_chn, h]
  exact if_neg (Nat.not_le.mpr hn)

theorem chainJudge_started (h : u.chn.state = .starting) (hn : u.chn.config.times.stallLimit ≤ n) :
    chainJudge n (u.during q []) = (u.onChn fun c => { c.into .running with stallRun := 0 }).during q
      (([.sup (.ended .chain)] ++ enterMsgs .running) ++ [.lnk (.notice (.chainRunning u.chn.position?))]) := by
  simp only [chainJudge, State.during_chn, h]
  exact (if_pos hn).trans rfl

theorem chainJudge_rests (h : u.chn.state = .braking) (hkey : u.chn.keyOn = false) (hclearance : u.chn.clearance = []) :
    chainJudge 0 (u.during q []) = (u.onChn fun c => { c.into .halted with rest := c.x }).during q
      (enterMsgs .halted ++ [.lnk (.notice (.chainHalted u.chn.position? u.chn.known))]) := by
  simp only [chainJudge, State.during_chn, h, if_true, chainAtRest, hkey, Bool.false_eq_true, if_false]
  exact chainDutyAlone_none fun _ _ _ => hclearance

theorem chainJudge_stops {p : StopPlan} (h : u.chn.state = .stopping ∨ u.chn.state = .creeping) (hplan : u.chn.plan = some p)
    (hbraked : p.braked = true) : chainJudge 0 (u.during q []) = chainAccept (u.during q []) := by
  have hb : u.chn.braked = true := by simp [Chain.braked, hplan, hbraked]
  rcases h with h | h <;> simp [chainJudge, h, hb]

theorem chainAccept_parks {p : StopPlan} (hplan : u.chn.plan = some p)
    (haccepts : accepts u.chn.config u.chn.x (setUnion p.set p.late) = true) :
    chainAccept (u.during q []) = (u.onChn fun c => { c.into .parked with
      park := some ⟨setUnion p.set p.late, c.x⟩, rest := c.x, plan := none, creepCount := 0 }).during q
      (enterMsgs .parked ++ [.lnk (.notice (.chainParked (setUnion p.set p.late) u.chn.x)), .sht .parkChanged]) := by
  have hjudged : u.chn.judged = setUnion p.set p.late := by simp [Chain.judged, hplan]
  unfold chainAccept
  simp only [State.during_chn, hjudged, haccepts, if_true]
  rfl

end

/-- What the other blocks make of a chain that parks, where no shutter waits for it. -/
theorem Does.parks {u : State} (halone : u.alone = true) (hwait : ∀ k r, u.sht.get? k = some r → r.state ≠ .awaitClear)
    (b : NoticeBody) : Does 4 (Machine.enterMsgs .parked ++ [.lnk (.notice b), .sht .parkChanged]) u (u.noticed b) := by
  obtain ⟨hprogramme, hfire, -⟩ := u.alone_iff.mp halone
  exact (enterMsgs hprogramme hfire .parked).append ((Does.notice u b).cons (parkChanged_unawaited (u := u.noticed b) hwait))

theorem noneWaits {t : Shutters} (h : ∀ k < t.table.length, ∀ r ∈ t.get? k, r.state ≠ .awaitClear) :
    ∀ k r, t.get? k = some r → r.state ≠ .awaitClear :=
  fun k r hr => h k (List.getElem?_eq_some_iff.mp (present?_eq_some.mp hr)).1 r hr

/-- Settles O30: by the state of the chain, a zero window or not. -/
theorem windowEnd : Obligations.WindowEnd := by
  intro s hs hspeed n t noted
  refine ⟨fun hst => ?_, fun hst hn => ?_, fun hst hn hrun => ?_, fun hst hn => ?_, fun hst hn halone => ?_,
    fun hst hn hkey hclearance halone => ?_, fun hst hn halone p hp hbraked hwait => ?_⟩
  · exact exec_windowEnd_silent (v := s.onChn Chain.windowed) hs hspeed fun q => chainJudge_notes (u := s.onChn _) hst
  · exact exec_windowEnd_silent hs hspeed fun q => chainJudge_runs (u := s.onChn _) hst hn
  · exact exec_windowEnd_silent hs hspeed fun q => chainJudge_slows (u := s.onChn _) hst hn hrun
  · exact exec_windowEnd_silent (v := s.onChn Chain.windowed) hs hspeed fun q => chainJudge_starting (u := s.onChn _) hst hn
  · obtain ⟨hprogramme, hfire, hsettles⟩ := s.alone_iff.mp halone
    rw [supplyEnded_sup hsettles]
    set v := (s.onChn Chain.windowed).onChn fun c => { c.into .running with stallRun := 0 }
    have hended := Does.ended (u := v) hsettles .chain
    have hreports := Does.enterMsgs (u := v.onSup fun p => p.ended .chain) hprogramme hfire .running
    exact exec_windowEnd (v := v) hs hspeed (fun q => chainJudge_started (u := s.onChn Chain.windowed) hst hn)
      ((hended.append hreports).append (.notice _ _))
  · obtain ⟨hprogramme, hfire, -⟩ := s.alone_iff.mp halone
    set v := (s.onChn Chain.windowed).onChn fun c => { c.into .halted with rest := c.x }
    have hreports := Does.enterMsgs (u := v) hprogramme hfire .halted
    refine exec_windowEnd (v := v) hs hspeed (fun q => ?_) (hreports.append (.notice _ _))
    rw [show s.chn.windowCount = 0 from hn]
    exact chainJudge_rests (u := s.onChn Chain.windowed) hst hkey hclearance
  · intro set haccepts
    set v := (s.onChn Chain.windowed).onChn fun c =>
      { c.into .parked with park := some ⟨set, c.x⟩, rest := c.x, plan := none, creepCount := 0 }
    have hparks := Does.parks (u := v) halone (noneWaits hwait) (.chainParked set s.chn.x)
    refine exec_windowEnd (v := v) hs hspeed (fun q => ?_) hparks
    rw [show s.chn.windowCount = 0 from hn]
    exact (chainJudge_stops (u := s.onChn Chain.windowed) (.inl hst) hp hbraked).trans
      (chainAccept_parks (u := s.onChn Chain.windowed) hp haccepts)

end Sys2Proof.Machine
end

section
/-! Stops that miss, creeps, and their admission (R13 to R15, R39). -/

namespace Sys2Proof.Machine

theorem accepts_eq_false {c : ChainConfig} {x : Nat} {set : List Nat} : accepts c x set = false ↔
    foulingLandings c x set ≠ [] := by
  rw [accepts, List.isEmpty_eq_false_iff]

theorem accepts_eq_true {c : ChainConfig} {x : Nat} {set : List Nat} : accepts c x set = true ↔
    foulingLandings c x set = [] := List.isEmpty_iff

section
variable {u : State} {q : List Request}

/-- A request for a creep that joins its queue; the notices sent so far go before it (R14, R68). -/
theorem chainAskCreep_during (set : List Nat) (ms : List Msg) (hrequest : u.chn.request = none)
    (hroom : u.sup.full .chain u.chn.group = false) : chainAskCreep set (u.during q ms) =
      (u.onChn fun c => { c with request := some .creep, creepSet := set, creepRefused := false }).during q
        (ms.filter Msg.isAhead ++ [.sup (.request .chain (.chain .creep) u.chn.group), .sup (.pass u.chn.group)] ++
          ms.filter fun m => !m.isAhead) := by
  simp [chainAskCreep, chainWithdraw_none, hrequest, hroom, State.request]

theorem chainAskCreep_full (set : List Nat) (ms : List Msg) (hrequest : u.chn.request = none)
    (hfull : u.sup.full .chain u.chn.group = true) : chainAskCreep set (u.during q ms) =
      (u.onChn fun c => { c with creepRefused := true }).during q (ms ++ [.lnk (.notice (.moveRefused .creep))]) := by
  simp [chainAskCreep, chainWithdraw_none, hrequest, hfull]

/-- The chain's record as it rests where it came to a halt. -/
def Chain.rested (c : Chain) : Chain := { c.into .halted with plan := none, rest := c.x }

/-- The notice of a missed stop. -/
def Chain.missNotice (c : Chain) (set : List Nat) : NoticeBody :=
  .parkMissed c.x (foulingLandings c.config c.x set) c.creepCount

theorem chainMissed_during (set : List Nat) : chainMissed set (u.during q []) =
    chainAskCreep set ((u.onChn Chain.rested).during q (enterMsgs .halted ++ [.lnk (.notice (u.chn.missNotice set))])) := by
  unfold chainMissed
  dsimp only
  rw [State.during_onChn, chainHalt_during, State.during_notify]
  rfl

theorem chainMissed_asks (set : List Nat) (hrequest : u.chn.request = none) (hroom : u.sup.full .chain u.chn.group = false) :
    chainMissed set (u.during q []) =
      (u.onChn fun c => { c.rested with request := some .creep, creepSet := set, creepRefused := false }).during q
        ([.lnk (.notice (u.chn.missNotice set))] ++
          [.sup (.request .chain (.chain .creep) u.chn.group), .sup (.pass u.chn.group)] ++ enterMsgs .halted) := by
  rw [chainMissed_during, chainAskCreep_during (u := u.onChn Chain.rested) set _ hrequest hroom]
  rfl

theorem chainMissed_full (set : List Nat) (hrequest : u.chn.request = none) (hfull : u.sup.full .chain u.chn.group = true) :
    chainMissed set (u.during q []) = (u.onChn fun c => { c.rested with creepRefused := true }).during q
      (enterMsgs .halted ++ [.lnk (.notice (u.chn.missNotice set))] ++ [.lnk (.notice (.moveRefused .creep))]) := by
  rw [chainMissed_during, chainAskCreep_full (u := u.onChn Chain.rested) set _ hrequest hfull]
  rfl

/-- The chain's record as a stop misses: a creep that misses is the first. -/
def Chain.missing (c : Chain) : Chain := { c with creepCount := if c.state = .creeping then 1 else c.creepCount }

theorem chainAccept_misses {p : StopPlan} (hplan : u.chn.plan = some p)
    (hfouls : foulingLandings u.chn.config u.chn.x (setUnion p.set p.late) ≠ [])
    (hstate : u.chn.state = .stopping ∨ (u.chn.state = .creeping ∧ u.chn.creepCount = 0)) :
    chainAccept (u.during q []) = chainMissed (setUnion p.set p.late) ((u.onChn Chain.missing).during q []) := by
  have hjudged : u.chn.judged = setUnion p.set p.late := by simp [Chain.judged, hplan]
  unfold chainAccept
  simp only [State.during_chn, hjudged, accepts_eq_false.mpr hfouls, Bool.false_eq_true, if_false]
  rcases hstate with h | ⟨h, hcount⟩
  · have hsame : (u.onChn Chain.missing) = u := State.onChn_congr (g := id) (by
      unfold Chain.missing
      rw [if_neg (by simp [h])]
      rfl)
    rw [if_pos h, hsame]
  · have hone : (u.onChn fun c => { c with creepCount := 1 }) = u.onChn Chain.missing :=
      State.onChn_congr (by simp [Chain.missing, h])
    rw [if_neg (by simp [h]), if_pos hcount, State.during_onChn, hone]

end

section
variable {s : State} {p : StopPlan}

/-- The state in which the missed stop is judged. -/
def State.missing (s : State) : State := (s.onChn Chain.windowed).onChn Chain.missing

theorem chainJudge_misses (hstate : s.chn.state = .stopping ∨ (s.chn.state = .creeping ∧ s.chn.creepCount = 0))
    (hplan : s.chn.plan = some p) (hbraked : p.braked = true)
    (hfouls : foulingLandings s.chn.config s.chn.x (setUnion p.set p.late) ≠ []) (q : List Request) :
    chainJudge 0 ((s.onChn Chain.windowed).during q []) = chainMissed (setUnion p.set p.late) (s.missing.during q []) :=
  (chainJudge_stops (u := s.onChn Chain.windowed) (hstate.imp_right And.left) hplan hbraked).trans
    (chainAccept_misses (u := s.onChn Chain.windowed) hplan hfouls hstate)

theorem exec_windowEnd_misses (hs : s.quiet = true) (hcount : s.chn.windowCount = 0)
    (hstate : s.chn.state = .stopping ∨ (s.chn.state = .creeping ∧ s.chn.creepCount = 0))
    (hplan : s.chn.plan = some p) (hbraked : p.braked = true)
    (hfouls : foulingLandings s.chn.config s.chn.x (setUnion p.set p.late) ≠ [])
    (hrequest : s.chn.request = none) (halone : s.alone = true) (hnew : s.sup.withoutChain = true)
    (hholds : s.sup.holds s.chn.group = true) : exec .windowEnd s = .next
      ({ s with
          chn := { s.missing.chn.rested with
            request := some .creep, creepSet := setUnion p.set p.late, creepRefused := false }
          sup := s.sup.chainQueued s.chn.group .creep }.noticed
        (s.missing.chn.missNotice (setUnion p.set p.late))) := by
  obtain ⟨hprogramme, hfire, -⟩ := s.alone_iff.mp halone
  obtain ⟨g, hg, hroom, -⟩ := Supply.holds_iff.mp hholds
  set set₁ := setUnion p.set p.late
  set v := s.missing.onChn fun c =>
    { c.rested with request := some .creep, creepSet := set₁, creepRefused := false }
  set b := s.missing.chn.missNotice set₁
  have hqueues := Does.chain_holds (u := v.noticed b) (g := s.chn.group) (kind := .creep) hholds hnew
  have hreports := Does.enterMsgs (u := (v.noticed b).onSup fun p => p.chainQueued s.chn.group .creep) hprogramme hfire .halted
  refine (exec_windowEnd (v := v) hs (fun _ => by rw [hcount]; exact Nat.zero_le _) (fun q => ?_)
    (((Does.notice v b).append hqueues).append hreports))
  rw [hcount, chainJudge_misses hstate hplan hbraked hfouls]
  exact chainMissed_asks set₁ hrequest (Supply.full_eq_false hg hroom)

theorem exec_windowEnd_refused (hs : s.quiet = true) (hcount : s.chn.windowCount = 0)
    (hstate : s.chn.state = .stopping ∨ (s.chn.state = .creeping ∧ s.chn.creepCount = 0))
    (hplan : s.chn.plan = some p) (hbraked : p.braked = true)
    (hfouls : foulingLandings s.chn.config s.chn.x (setUnion p.set p.late) ≠ [])
    (hrequest : s.chn.request = none) (halone : s.alone = true) (hfull : s.sup.full .chain s.chn.group = true) :
    exec .windowEnd s = .next
      (({ s with chn := { s.missing.chn.rested with creepRefused := true } }.noticed
        (s.missing.chn.missNotice (setUnion p.set p.late))).noticed
          (.moveRefused .creep)) := by
  obtain ⟨hprogramme, hfire, -⟩ := s.alone_iff.mp halone
  set v := s.missing.onChn fun c => { c.rested with creepRefused := true }
  have hreports := Does.enterMsgs (u := v) hprogramme hfire .halted
  refine exec_windowEnd (v := v) hs (fun _ => by rw [hcount]; exact Nat.zero_le _) (fun q => ?_)
    ((hreports.append (.notice _ _)).append (.notice _ _))
  rw [hcount, chainJudge_misses hstate hplan hbraked hfouls]
  exact chainMissed_full _ hrequest hfull

end

/-! ### A slot that comes free -/

/-- A move's settle time ends, and the one request of the queue is admitted in its place (R69, R70). -/
theorem exec_settleExpiry_admits {s w : State} {g n left : Nat} {owner : MoveOwner} {r : Group} {x : MoveRequest}
    {before after : List Move} {kind : MoveKind} (hs : s.quiet = true) (hr : s.sup.groups[g]? = some r)
    (hqueue : r.queue = [x]) (hmoves : r.moves = before ++ ⟨owner, kind, .settling left⟩ :: after)
    (hbefore : ∀ m ∈ before, m.owner ≠ owner) (hsteady : s.sup.mode = .steady)
    (hroom : before.length + after.length < r.config.capacity)
    (hd : Does n [admittedMsg x] (s.onSup fun u => { u with
      groups := u.groups.set g { r with queue := [], moves := before ++ after ++ [⟨x.owner, x.kind, .running⟩] }
      order := u.order ++ [x.owner] }) w)
    (hrefused : x.owner = .chain ∨ w.chn.creepRefused = false) (hempty : ∀ r ∈ w.sup.groups[g]?, r.queue = [])
    (hn : n ≤ 100) (hdue : w.snd.roomDue = s.snd.roomDue := by rfl) : exec (.settleExpiry g owner) s = .next w := by
  set v := s.onSup fun u => { u with groups := u.groups.set g { r with moves := before ++ after } } with hv
  have hlt := (List.getElem?_eq_some_iff.mp hr).1
  have hgroup : v.sup.groups[g]? = some { r with moves := before ++ after } := List.getElem?_set_self hlt
  have hnext : (v.onSup fun p => { p.modify g fun r =>
      { r with queue := [], moves := r.moves ++ [⟨x.owner, x.kind, .running⟩] } with order := p.order ++ [x.owner] }) =
      s.onSup fun u => { u with
        groups := u.groups.set g { r with queue := [], moves := before ++ after ++ [⟨x.owner, x.kind, .running⟩] }
        order := u.order ++ [x.owner] } := by
    simp only [hv, State.onSup, Supply.modify, modify_eq_set (List.getElem?_set_self hlt), List.set_set]
  obtain ⟨j, hj, hmoved⟩ : ∃ j ≤ 1, Does j (queueMovedMsgs v x.owner g) w w := by
    rcases hrefused with howner | hrefused
    · rw [howner]
      exact ⟨0, by norm_num, .nil w⟩
    · exact Does.queueMovedMsgs_free hrefused v x.owner g
  have hpass : Does (1 + (n + j + 1)) [.sup (.pass g)] v w :=
    Does.pass_admits hgroup hqueue hsteady (by simpa using hroom)
      (hnext ▸ (hd.append hmoved).append (.pass_waits fun r hr => .inl (hempty r hr)))
  exact settle_event (b := .sup) hs (supplySettleExpiry_settled hr hmoves hbefore) hpass (hroom := hdue) (hn := by omega)

/-! ### The creep that is granted its slot (R15, R39) -/

/-- The plan of a creep: the creep set and the clearance set, S = Cs. -/
def Chain.creepPlan (c : Chain) (table : List Gap) : StopPlan :=
  makePlan c.config table (setUnion c.creepSet c.clearance) c.x c.config.times.creepStop

/-- The chain's record as the creep starts. -/
def Chain.crept (c : Chain) (table : List Gap) : Chain :=
  { c.into .creeping with
    request := none, creepSet := [], park := none, plan := some (c.creepPlan table)
    homingTimer := if (c.creepPlan table).braked then .stopped else Timer.start c.config.times.homing }

/-- The timer of a creep, or the end of its move where it brakes at once. -/
def creepTimed (s : State) : State :=
  if s.chn.braked then s.post [.sup (.ended .chain)]
  else s.onChn fun c => { c with homingTimer := Timer.start c.config.times.homing }

theorem chainCreep_during (u : State) (q : List Request) : chainCreep (u.during q []) =
    creepTimed ((u.onChn fun c => { c.into .creeping with
      creepSet := [], park := none, plan := some (c.creepPlan u.clr.table) }).during q
        (unparkMsgs u.chn ++ enterMsgs .creeping)) := by
  have hunpark := chainUnpark_during (u.onChn fun c => { c with creepSet := [] }) q []
  unfold chainCreep creepTimed
  dsimp only
  rw [State.during_onChn, hunpark]
  rfl

theorem creepTimed_braked {u : State} (h : u.chn.braked = true) (q : List Request) (ms : List Msg) :
    creepTimed (u.during q ms) = u.during q (ms ++ [.sup (.ended .chain)]) := if_pos h

theorem creepTimed_timed {u : State} (h : u.chn.braked = false) (q : List Request) (ms : List Msg) :
    creepTimed (u.during q ms) =
      (u.onChn fun c => { c with homingTimer := Timer.start c.config.times.homing }).during q ms :=
  if_neg (show ¬ u.chn.braked = true by simp [h])

theorem chainAdmitted_creep {u : State} (hpermission : runPermission u.chn u.sht = true) (q : List Request) :
    chainAdmitted .creep (u.during q []) = (u.onChn fun c => c.crept u.clr.table).during q
      (unparkMsgs u.chn ++ enterMsgs .creeping ++
        if (u.chn.creepPlan u.clr.table).braked then [.sup (.ended .chain)] else []) := by
  set v := u.onChn fun c => { c.into .creeping with
    request := none, creepSet := [], park := none, plan := some (c.creepPlan u.clr.table) } with hv
  have hcreep : chainAdmitted .creep (u.during q []) =
      creepTimed (v.during q (unparkMsgs u.chn ++ enterMsgs .creeping)) :=
    (if_pos hpermission).trans (chainCreep_during (u.onChn fun c => { c with request := none }) q)
  rw [hcreep]
  cases hbraked : (u.chn.creepPlan u.clr.table).braked
  · have htimed : (v.onChn fun c => { c with homingTimer := Timer.start c.config.times.homing }) =
        u.onChn fun c => c.crept u.clr.table := by
      simp [hv, State.onChn, Chain.crept, hbraked, Chain.into]
    rw [creepTimed_timed (u := v) hbraked, htimed]
    simp
  · have hstopped : v = u.onChn fun c => c.crept u.clr.table := by
      simp [hv, State.onChn, Chain.crept, hbraked, Chain.into]
    rw [creepTimed_braked (u := v) hbraked, hstopped]
    simp

theorem Does.admitted_creep {u : State} (hpermission : runPermission u.chn u.sht = true) (halone : u.alone = true) :
    ∃ k ≤ 5, Does k [.chn (.admitted .creep)] u ((u.onChn fun c => c.crept u.clr.table).onSup fun p =>
      if (u.chn.creepPlan u.clr.table).braked then p.ended .chain else p) := by
  obtain ⟨hprogramme, hfire, hsettles⟩ := u.alone_iff.mp halone
  obtain ⟨k, hk, hreports⟩ := unpark_enter (u := u.onChn fun c => c.crept u.clr.table) (st := .creeping) rfl (by decide)
    hprogramme hfire u.chn
  cases hbraked : (u.chn.creepPlan u.clr.table).braked
  · refine ⟨1 + k, by omega, chn (fun q => ?_) hreports⟩
    refine (chainAdmitted_creep hpermission q).trans ?_
    rw [hbraked, if_neg Bool.false_ne_true, List.append_nil]
    rfl
  · have hended := Does.ended (u := u.onChn fun c => c.crept u.clr.table) hsettles .chain
    refine ⟨1 + (k + 1), by omega, chn (fun q => ?_) (hreports.append hended)⟩
    refine (chainAdmitted_creep hpermission q).trans ?_
    rw [hbraked, if_pos rfl]
    rfl

/-- The one active move of the chain, last of its group, settles. -/
theorem Supply.ended_last {p : Supply} {g : Nat} {r : Group} {moves : List Move} {kind : ChainMove}
    (hr : p.groups[g]? = some { r with moves := moves ++ [⟨.chain, .chain kind, .running⟩] })
    (hothers : ∀ k ≠ g, ∀ r ∈ p.groups[k]?, ∀ m ∈ r.moves, m.owner = .chain → m.active = false)
    (hmoves : ∀ m ∈ moves, m.owner = .chain → m.active = false) : p.ended .chain =
      { p with
        groups := p.groups.set g { r with
          moves := moves ++ [⟨.chain, .chain kind, .settling (20 * r.config.settle)⟩] }
        order := p.order.filter (· ≠ MoveOwner.chain) } := by
  have hactive : p.activeIn .chain = some g := by
    have hwhere : numbersWhere p.groups (fun r => r.moves.any fun m => m.owner == .chain && m.active) = [g] := by
      refine numbersWhere_eq_singleton fun k => ⟨fun ⟨x, hx, hany⟩ => ?_, fun hk => ?_⟩
      · by_contra hk
        obtain ⟨m, hm, hmove⟩ := List.any_eq_true.mp hany
        obtain ⟨howner, hrun⟩ := Bool.and_eq_true_iff.mp hmove
        rw [hothers k hk x hx m hm (beq_iff_eq.mp howner)] at hrun
        cases hrun
      · refine ⟨_, hk ▸ hr, ?_⟩
        simp [Move.active]
    rw [Supply.activeIn, hwhere]
    rfl
  have hkept : (moves.map fun m => if m.owner == .chain && m.active then
      { m with phase := .settling (Config.seconds r.config.settle) } else m) = moves := by
    refine (List.map_congr_left fun m hm => ?_).trans (List.map_id _)
    refine if_neg fun hmove => ?_
    obtain ⟨howner, hrun⟩ := Bool.and_eq_true_iff.mp hmove
    rw [hmoves m hm (beq_iff_eq.mp howner)] at hrun
    cases hrun
  unfold Supply.ended
  rw [hactive]
  simp only [Supply.modify, modify_eq_set hr, List.map_append, hkept]
  simp [Move.active, Config.seconds, Config.ticksPerSecond, mul_comm, bne, beq_eq_decide]

theorem creepsAndParks_admitted {s : State} {owner : MoveOwner} {before after : List Move} {kind : MoveKind} {left : Nat}
    {r : Group} (hs : s.quiet = true) (halone : s.alone = true) (hsteady : s.sup.mode = .steady)
    (hstate : s.chn.state = .halted ∨ s.chn.state = .parked) (hsafety : s.chn.safetyClosed = true)
    (hpermit : s.sht.permit = true) (hbefore : ∀ m ∈ before, m.owner ≠ owner)
    (hidle : ∀ k ∈ s.sup.groups, ∀ m ∈ k.moves, m.owner = .chain → m.active = false)
    (hr : s.sup.groups[s.chn.group]? = some r) (hqueue : r.queue = [⟨.chain, .chain .creep⟩])
    (hmoves : r.moves = before ++ ⟨owner, kind, .settling left⟩ :: after)
    (hroom : before.length + after.length < r.config.capacity) :
    exec (.settleExpiry s.chn.group owner) s = .next
      { s with
        chn := s.chn.crept s.clr.table
        sup := { s.sup with
          groups := s.sup.groups.set s.chn.group { r with
            queue := []
            moves := before ++ after ++ [⟨.chain, .chain .creep,
              if (s.chn.creepPlan s.clr.table).braked then .settling (20 * r.config.settle) else .running⟩] }
          order := if (s.chn.creepPlan s.clr.table).braked then s.sup.order.filter (· ≠ MoveOwner.chain)
            else s.sup.order ++ [.chain] } } := by
  set g := s.chn.group
  set v := s.onSup fun u => { u with
    groups := u.groups.set g { r with queue := [], moves := before ++ after ++ [⟨.chain, .chain .creep, .running⟩] }
    order := u.order ++ [.chain] } with hv
  have hlt := (List.getElem?_eq_some_iff.mp hr).1
  have hvgroup : v.sup.groups[g]? =
      some { r with queue := [], moves := before ++ after ++ [⟨.chain, .chain .creep, .running⟩] } := List.getElem?_set_self hlt
  have hothers : ∀ k ≠ g, ∀ r ∈ v.sup.groups[k]?, ∀ m ∈ r.moves, m.owner = .chain → m.active = false := by
    intro k hk x hx
    refine hidle x (List.mem_of_getElem? (?_ : s.sup.groups[k]? = some x))
    rw [← hx]
    exact (List.getElem?_set_ne hk.symm).symm
  have hkept : ∀ m ∈ before ++ after, m.owner = .chain → m.active = false := by
    intro m hm
    refine hidle r (List.mem_of_getElem? hr) m ?_
    rw [hmoves]
    simp only [List.mem_append, List.mem_cons] at hm ⊢
    exact hm.imp_right .inr
  have hpermission : runPermission v.chn v.sht = true := by
    have hnot : (s.chn.state != .tripped) = true := by rcases hstate with h | h <;> simp [h]
    exact (Bool.and_eq_true_iff.mpr ⟨Bool.and_eq_true_iff.mpr ⟨hsafety, hnot⟩, hpermit⟩)
  obtain ⟨hprogramme, hfire, hsettles⟩ := s.alone_iff.mp halone
  have hvalone : v.alone = true := by
    refine v.alone_iff.mpr ⟨hprogramme, hfire, ?_⟩
    have hall : ∀ r ∈ s.sup.groups, 0 < r.config.settle := by simpa [Supply.settles] using hsettles
    simp only [Supply.settles, List.all_eq_true, decide_eq_true_eq]
    intro x hx
    rcases List.mem_or_eq_of_mem_set hx with hx | rfl
    · exact hall x hx
    · exact hall r (List.mem_of_getElem? hr)
  obtain ⟨k, hk, hd⟩ := Does.admitted_creep hpermission hvalone
  refine exec_settleExpiry_admits hs hr hqueue hmoves hbefore hsteady hroom
    (x := ⟨.chain, .chain .creep⟩) (n := k) ?_ (.inl rfl) ?_ (by omega)
  · refine Eq.mp (congrArg (Does k [.chn (.admitted .creep)] v) ?_) hd
    have hended := Supply.ended_last (r := { r with queue := [] }) hvgroup hothers hkept
    cases hbraked : (s.chn.creepPlan s.clr.table).braked
    · have hrun : (if (v.chn.creepPlan v.clr.table).braked then v.sup.ended .chain else v.sup) = v.sup :=
        if_neg (by rw [show (v.chn.creepPlan v.clr.table).braked = false from hbraked]; decide)
      simp only [State.onSup, Bool.false_eq_true, if_false]
      exact congrArg (fun p => ({ s with chn := s.chn.crept s.clr.table, sup := p } : State)) hrun
    · have hrun : (if (v.chn.creepPlan v.clr.table).braked then v.sup.ended .chain else v.sup) = v.sup.ended .chain :=
        if_pos hbraked
      simp only [State.onSup, if_true]
      refine congrArg (fun p => ({ s with chn := s.chn.crept s.clr.table, sup := p } : State)) (hrun.trans (hended.trans ?_))
      simp [hv, List.set_set, List.filter_append]
  · intro x hx
    obtain rfl := Option.some.inj ((List.getElem?_set_self hlt).symm.trans hx)
    rfl

/-- Settles O32: a stop that is clear or foul of its set, its CREEP queued or refused, and the CREEP that is admitted. -/
theorem creepsAndParks : Obligations.CreepsAndParks := by
  constructor
  · intro s hs hcount halone hrequest hnew p hp hbraked hwait set fouling creeps rested
    have hcounted : s.missing.chn.rested = rested := by
      simp [State.missing, Chain.missing, Chain.rested, Chain.windowed, Chain.into, rested, creeps, hcount]
    have hnotice : s.missing.chn.missNotice set = .parkMissed s.chn.x fouling creeps := rfl
    refine ⟨fun hst hclear => ?_, fun hst hfouls => ⟨fun hholds => ?_, fun hfull => ?_⟩⟩
    · set v := (s.onChn Chain.windowed).onChn fun c =>
        { c.into .parked with park := some ⟨set, c.x⟩, rest := c.x, plan := none, creepCount := 0 } with hv
      have hparks := Does.parks (u := v) halone (noneWaits hwait) (.chainParked set s.chn.x)
      have hnext : exec .windowEnd s = .next (v.noticed (.chainParked set s.chn.x)) := by
        refine exec_windowEnd (v := v) hs (fun _ => by rw [hcount]; exact Nat.zero_le _) (fun q => ?_) hparks
        rw [hcount]
        exact (chainJudge_stops (u := s.onChn Chain.windowed) (.inr hst) hp hbraked).trans
          (chainAccept_parks (u := s.onChn Chain.windowed) hp (accepts_eq_true.mpr hclear))
      rw [hnext]
      simp only [hv, State.onChn, Chain.windowed, Chain.into, hcount]
    · rw [exec_windowEnd_misses hs hcount hst hp hbraked hfouls hrequest halone hnew hholds, hcounted]
      exact congrArg (fun b => Host.Outcome.next (State.noticed _ b)) hnotice
    · rw [exec_windowEnd_refused hs hcount hst hp hbraked hfouls hrequest halone hfull, hcounted]
      exact congrArg (fun b => Host.Outcome.next ((State.noticed _ b).noticed _)) hnotice
  · intro s owner before after kind left hs halone hsteady hrequest hstate hsafety hpermit hbefore g hidle r hr hqueue hmoves
      hroom set plan phase
    exact creepsAndParks_admitted hs halone hsteady hstate hsafety hpermit hbefore hidle hr hqueue hmoves hroom

end Sys2Proof.Machine
end

section
/-! The inspection key and buttons, and the safety chain closing (R7, R20). -/

namespace Sys2Proof.Machine

/-- Only the one queue holds the chain's request, and it is taken out of it. -/
theorem Does.chain_withdraws {u : State} {g : Nat} (h : u.sup.waitsOnlyIn .chain g = true) :
    ∃ k ≤ 2, Does k [.sup (.withdraw .chain)] u (u.onSup fun p => p.withdrawn .chain g) := Does.withdraw h (.inl rfl)

section
variable {s v w : State} {ms : List Msg} {n : Nat}

/-! ### The key (R20) -/

/-- The key is turned on: a pending request is withdrawn first. -/
theorem chainKeyOn_configured {q : List Request} (hkey : s.chn.keyOn = false) (hconfigured : s.chn.config.configured = true)
    (hwithdraw : chainWithdraw ((s.onChn fun c => { c with keyOn := true }).during q []) = v.during q ms) :
    chainKeyOn (s.during q []) =
      match v.chn.state with
      | .halted | .parked => chainEnter .inspectionIdle (chainUnpark (v.during q ms))
      | .starting | .running | .stopping | .creeping | .homing => chainBrake (v.during q ms)
      | .braking | .inspectionIdle | .inspectionRun | .tripped => v.during q ms := by
  unfold chainKeyOn
  simp only [State.during_chn, hkey, Bool.false_eq_true, if_false, State.during_onChn, hwithdraw]
  exact if_neg (show ¬ (!s.chn.config.configured) = true by simp [hconfigured])

theorem chainKeyOn_idles {q : List Request} (hkey : s.chn.keyOn = false) (hconfigured : s.chn.config.configured = true)
    (hwithdraw : chainWithdraw ((s.onChn fun c => { c with keyOn := true }).during q []) = v.during q ms)
    (hstate : v.chn.state = .halted ∨ v.chn.state = .parked) : chainKeyOn (s.during q []) =
      (v.onChn fun c => { c.into .inspectionIdle with park := none, creepCount := 0 }).during q
        (ms ++ unparkMsgs v.chn ++ enterMsgs .inspectionIdle) := by
  refine (chainKeyOn_configured hkey hconfigured hwithdraw).trans ?_
  have hgo := chainUnpark_enter_during v q ms .inspectionIdle
  rcases hstate with h | h <;> simp only [h] <;> exact hgo

theorem chainKeyOn_brakes {q : List Request} (hkey : s.chn.keyOn = false) (hconfigured : s.chn.config.configured = true)
    (hwithdraw : chainWithdraw ((s.onChn fun c => { c with keyOn := true }).during q []) = v.during q ms)
    (hstate : v.chn.state = .starting ∨ v.chn.state = .running ∨ v.chn.state = .stopping ∨ v.chn.state = .creeping ∨
      v.chn.state = .homing) : chainKeyOn (s.during q []) =
      (v.onChn fun c => { c.into .braking with plan := none }).during q
        (ms ++ [.sup (.ended .chain)] ++ enterMsgs .braking) := by
  refine (chainKeyOn_configured hkey hconfigured hwithdraw).trans ?_
  have hgo := chainBrake_during v q ms
  rcases hstate with h | h | h | h | h <;> simp only [h] <;> exact hgo

theorem chainKeyOn_notes {q : List Request} (hkey : s.chn.keyOn = false) (hconfigured : s.chn.config.configured = true)
    (hwithdraw : chainWithdraw ((s.onChn fun c => { c with keyOn := true }).during q []) = v.during q ms)
    (hstate : v.chn.state = .tripped ∨ v.chn.state = .braking) : chainKeyOn (s.during q []) = v.during q ms := by
  refine (chainKeyOn_configured hkey hconfigured hwithdraw).trans ?_
  rcases hstate with h | h <;> simp only [h]

/-- The key is turned off at rest: with nothing to stand clear of, the chain is HALTED (R14). -/
theorem chainKeyOff_rests {q : List Request} (hkey : s.chn.keyOn = true) (hstate : s.chn.state = .inspectionIdle)
    (hwithdraw : chainWithdraw ((s.onChn fun c => { c with keyOn := false }).during q []) = v.during q ms)
    (hclearance : v.chn.clearance = []) : chainKeyOff (s.during q []) =
      (v.onChn fun c => { c.into .halted with rest := c.x }).during q (ms ++ enterMsgs .halted) := by
  have hduty : chainDutyAlone (chainHalt (v.during q ms)) = chainHalt (v.during q ms) :=
    chainDutyAlone_none fun _ _ _ => hclearance
  unfold chainKeyOff
  simp only [State.during_chn, hkey, Bool.not_true, Bool.false_eq_true, if_false, State.during_onChn, State.onChn_chn,
    hstate, hwithdraw, hduty]
  rfl

theorem chainKeyOff_brakes {q : List Request} (hkey : s.chn.keyOn = true) (hstate : s.chn.state = .inspectionRun) :
    chainKeyOff (s.during q []) = (s.onChn fun c => { c.into .braking with keyOn := false, plan := none }).during q
      ([.sup (.ended .chain)] ++ enterMsgs .braking) := by
  unfold chainKeyOff
  simp only [State.during_chn, hkey, Bool.not_true, Bool.false_eq_true, if_false, State.during_onChn, State.onChn_chn, hstate]
  rfl

/-! ### The buttons (R20) -/

/-- The button of a direction. -/
def Chain.button (c : Chain) (up : Bool) : Bool := if up then c.upHeld else c.downHeld

/-- The request a button makes. -/
def buttonRequest (up : Bool) : ChainRequest := if up then .inspectUp else .inspectDown

/-- A button not yet held is pressed. -/
theorem chainButtonPress_free {up : Bool} (hfree : s.chn.button up = false) : chainButtonPress up s =
    let t := s.onChn fun c => c.setButton up true
    match s.chn.state with
    | .inspectionIdle => if s.chn.button !up then chainWithdraw t else chainAsk (buttonRequest up) t
    | .inspectionRun => if s.chn.button !up then chainBrake t else t
    | _ => t := by
  cases up
  · have hno : s.chn.downHeld = false := hfree
    simp only [chainButtonPress, Bool.false_eq_true, if_false, hno]
    cases hst : s.chn.state <;> simp [Chain.setButton, Chain.button, buttonRequest, hst]
  · have hno : s.chn.upHeld = false := hfree
    simp only [chainButtonPress, Bool.false_eq_true, if_true, if_false, hno]
    cases hst : s.chn.state <;> simp [Chain.setButton, Chain.button, buttonRequest, hst]

/-- A held button is released. -/
theorem chainButtonRelease_held {up : Bool} (hheld : s.chn.button up = true) : chainButtonRelease up s =
    let t := s.onChn fun c => c.setButton up false
    match s.chn.state with
    | .inspectionIdle => if s.chn.request = some (buttonRequest up) then chainWithdraw t else t
    | .inspectionRun => if s.chn.reverse = !up then chainBrake t else t
    | _ => t := by
  cases up
  · have hyes : s.chn.downHeld = true := hheld
    simp only [chainButtonRelease, Bool.false_eq_true, if_false, hyes, Bool.not_true]
    cases hst : s.chn.state <;> simp [Chain.setButton, buttonRequest, hst]
  · have hyes : s.chn.upHeld = true := hheld
    simp only [chainButtonRelease, Bool.false_eq_true, if_true, if_false, hyes, Bool.not_true]
    cases hst : s.chn.state <;> simp [Chain.setButton, buttonRequest, hst]

/-- The chain's record after a request is withdrawn as a button changes. -/
theorem chainWithdraw_button {up held : Bool} {q : List Request} (hrequest : s.chn.request ≠ none) :
    chainWithdraw ((s.onChn fun c => c.setButton up held).during q []) =
      (s.onChn fun c => { c.setButton up held with request := none, creepSet := [] }).during q [.sup (.withdraw .chain)] := by
  have hsome : (s.onChn fun c => c.setButton up held).chn.request ≠ none := by
    cases up <;> exact hrequest
  exact chainWithdraw_some _ _ hsome

theorem exec_buttonPress_withdraws {up : Bool} (hs : s.quiet = true) (hfree : s.chn.button up = false)
    (hother : s.chn.button (!up) = true) (hstate : s.chn.state = .inspectionIdle) (hrequest : s.chn.request ≠ none)
    (hwaits : s.sup.waitsOnlyIn .chain s.chn.group = true) : exec (.inspectionButtonPress up) s = .next
      { s with
        chn := { s.chn.setButton up true with request := none, creepSet := [] }
        sup := s.sup.withdrawn .chain s.chn.group } := by
  obtain ⟨k, hk, hd⟩ := Does.chain_withdraws
    (u := s.onChn fun c => { c.setButton up true with request := none, creepSet := [] }) hwaits
  refine settle_event_during (b := .chn) (f := chainButtonPress up) hs (fun q => ?_) hd (hn := by omega)
  refine (chainButtonPress_free (s := s.during q []) hfree).trans ?_
  simp only [State.during_chn, hstate, hother, if_true, State.during_onChn]
  exact chainWithdraw_button hrequest

theorem exec_buttonPress_brakes {up : Bool} (hs : s.quiet = true) (halone : s.alone = true) (hfree : s.chn.button up = false)
    (hother : s.chn.button (!up) = true) (hstate : s.chn.state = .inspectionRun) : exec (.inspectionButtonPress up) s = .next
      { s with chn := { (s.chn.setButton up true).into .braking with plan := none }, sup := s.sup.ended .chain } := by
  have hd := Does.brakes (u := s.onChn fun c => { (c.setButton up true).into .braking with plan := none }) halone
  refine settle_event_during (b := .chn) (f := chainButtonPress up) hs (fun q => ?_) hd
  refine (chainButtonPress_free (s := s.during q []) hfree).trans ?_
  simp only [State.during_chn, hstate, hother, if_true, State.during_onChn]
  exact chainBrake_during _ q []

theorem chainButtonPress_asks {up : Bool} {q : List Request} (hfree : s.chn.button up = false)
    (hother : s.chn.button (!up) = false) (hstate : s.chn.state = .inspectionIdle)
    (hroom : s.sup.full .chain s.chn.group = false) : chainButtonPress up (s.during q []) =
      (s.onChn fun c => { c.setButton up true with request := some (buttonRequest up) }).during q
        [.sup (.request .chain (.chain .inspect) s.chn.group), .sup (.pass s.chn.group)] := by
  refine (chainButtonPress_free (s := s.during q []) hfree).trans ?_
  simp only [State.during_chn, hstate, hother, Bool.false_eq_true, if_false, State.during_onChn]
  have hask := chainAsk_during (s.onChn fun c => c.setButton up true) q (buttonRequest up)
  cases up <;> exact hask hroom

theorem exec_buttonPress_holds {up : Bool} (hs : s.quiet = true) (hfree : s.chn.button up = false)
    (hother : s.chn.button (!up) = false) (hstate : s.chn.state = .inspectionIdle) (hnew : s.sup.withoutChain = true)
    (hholds : s.sup.holds s.chn.group = true) : exec (.inspectionButtonPress up) s = .next
      { s with
        chn := { s.chn.setButton up true with request := some (buttonRequest up) }
        sup := s.sup.chainQueued s.chn.group .inspect } := by
  obtain ⟨r, hr, hroom, -⟩ := Supply.holds_iff.mp hholds
  exact settle_event_during (b := .chn) (f := chainButtonPress up) hs
    (fun q => chainButtonPress_asks hfree hother hstate (Supply.full_eq_false hr hroom))
    (Does.chain_holds (u := s.onChn _) hholds hnew)

/-- An INSPECT request that is admitted while its button alone is held (R20). -/
theorem Does.admitted_inspect {u : State} {up : Bool} (hpermission : runPermission u.chn u.sht = true)
    (hrequest : u.chn.request = some (buttonRequest up)) (hheld : u.chn.button up = true)
    (hother : u.chn.button (!up) = false) (hprogramme : u.idleProgramme = true) (hfire : u.peaceful = true) :
    ∃ k ≤ 4, Does k [.chn (.admitted .inspect)] u (u.onChn fun c => { c.into .inspectionRun with
      request := none, park := none, reverse := !up }) := by
  obtain ⟨k, hk, hd⟩ := unpark_enter (u := u.onChn fun c => { c.into .inspectionRun with
    request := none, park := none, reverse := !up }) (st := .inspectionRun) rfl (by decide) hprogramme hfire u.chn
  refine ⟨1 + k, by omega, chn (fun q => ?_) hd⟩
  have hgo := chainUnpark_enter_during (u.onChn fun c => { c with request := none }) q [] .inspectionRun
  have hreverse : (u.chn.request == some .inspectDown) = !up := by
    rw [hrequest]
    cases up <;> rfl
  have hgranted : (runPermission u.chn u.sht && if u.chn.request == some .inspectDown then
      u.chn.downHeld && !u.chn.upHeld else u.chn.upHeld && !u.chn.downHeld) = true := by
    rw [hpermission, hreverse]
    cases up
    · have hdown : u.chn.downHeld = true := hheld
      have hup : u.chn.upHeld = false := hother
      simp [hdown, hup]
    · have hup : u.chn.upHeld = true := hheld
      have hdown : u.chn.downHeld = false := hother
      simp [hdown, hup]
  refine (if_pos hgranted).trans ?_
  rw [State.during_chn, hreverse]
  exact congrArg (State.onChn · fun c => { c with reverse := !up }) hgo

theorem exec_buttonPress_admits {up : Bool} (hs : s.quiet = true) (halone : s.alone = true)
    (hfree : s.chn.button up = false) (hother : s.chn.button (!up) = false) (hstate : s.chn.state = .inspectionIdle)
    (hsafety : s.chn.safetyClosed = true) (hpermit : s.sht.permit = true) (hadmits : s.sup.admits s.chn.group = true) :
    exec (.inspectionButtonPress up) s = .next
      { s with
        chn := { (s.chn.setButton up true).into .inspectionRun with request := none, park := none, reverse := !up }
        sup := s.sup.withMove s.chn.group .chain (.chain .inspect) } := by
  obtain ⟨hprogramme, hfire, -⟩ := s.alone_iff.mp halone
  obtain ⟨r, hr, -, hq, -⟩ := Supply.admits_iff.mp hadmits
  set v := s.onChn fun c => { c.setButton up true with request := some (buttonRequest up) }
  have hpermission : runPermission v.chn s.sht = true := by
    have hrun : runPermission s.chn s.sht = true := by simp [runPermission, hsafety, hstate, hpermit]
    cases up <;> exact hrun
  have hheld : v.chn.button up = true := by cases up <;> rfl
  have halone' : v.chn.button (!up) = false := by cases up <;> exact hother
  obtain ⟨j, hj, hgrant⟩ := Does.admitted_inspect (u := v.onSup fun p => p.withMove s.chn.group .chain (.chain .inspect))
    (up := up) hpermission rfl hheld halone' hprogramme hfire
  obtain ⟨k, hk, hd⟩ := Does.chain_admits (u := v) (g := s.chn.group) hadmits hgrant rfl
  exact settle_event_during (b := .chn) (f := chainButtonPress up) hs
    (fun q => chainButtonPress_asks hfree hother hstate (Supply.full_eq_false hr (by rw [hq]; norm_num))) hd (hn := by omega)

theorem exec_buttonRelease_withdraws {up : Bool} (hs : s.quiet = true) (hheld : s.chn.button up = true)
    (hstate : s.chn.state = .inspectionIdle) (hrequest : s.chn.request = some (buttonRequest up))
    (hwaits : s.sup.waitsOnlyIn .chain s.chn.group = true) : exec (.inspectionButtonRelease up) s = .next
      { s with
        chn := { s.chn.setButton up false with request := none, creepSet := [] }
        sup := s.sup.withdrawn .chain s.chn.group } := by
  obtain ⟨k, hk, hd⟩ := Does.chain_withdraws
    (u := s.onChn fun c => { c.setButton up false with request := none, creepSet := [] }) hwaits
  refine settle_event_during (b := .chn) (f := chainButtonRelease up) hs (fun q => ?_) hd (hn := by omega)
  refine (chainButtonRelease_held (s := s.during q []) hheld).trans ?_
  simp only [State.during_chn, hstate, hrequest, if_true, State.during_onChn]
  exact chainWithdraw_button (by simp [hrequest])

theorem exec_buttonRelease_brakes {up : Bool} (hs : s.quiet = true) (halone : s.alone = true)
    (hheld : s.chn.button up = true) (hstate : s.chn.state = .inspectionRun) (hreverse : s.chn.reverse = !up) :
    exec (.inspectionButtonRelease up) s = .next
      { s with chn := { (s.chn.setButton up false).into .braking with plan := none }, sup := s.sup.ended .chain } := by
  have hd := Does.brakes (u := s.onChn fun c => { (c.setButton up false).into .braking with plan := none }) halone
  refine settle_event_during (b := .chn) (f := chainButtonRelease up) hs (fun q => ?_) hd
  refine (chainButtonRelease_held (s := s.during q []) hheld).trans ?_
  simp only [State.during_chn, hstate, hreverse, if_true, State.during_onChn]
  exact chainBrake_during _ q []

theorem exec_buttonRelease_notes {up : Bool} (hs : s.quiet = true) (hheld : s.chn.button up = true)
    (hstate : s.chn.state = .inspectionIdle) (hrequest : s.chn.request ≠ some (buttonRequest up)) :
    exec (.inspectionButtonRelease up) s = .next (s.onChn fun c => c.setButton up false) := by
  refine settle_event_silent (b := .chn) (f := chainButtonRelease up) hs ?_
  refine (chainButtonRelease_held hheld).trans ?_
  simp only [hstate, if_neg hrequest]

/-! ### The safety chain (R7) -/

theorem exec_safetyChainClose_notes (hs : s.quiet = true) (hopen : s.chn.safetyClosed = false)
    (hduty : s.chn.state ≠ .halted ∨ s.chn.clearance = []) :
    exec .safetyChainClose s = .next (s.onChn fun c => { c with safetyClosed := true }) := by
  refine settle_event_silent (b := .chn) (f := chainSafetyClose) hs ?_
  set t := s.onChn fun c => { c with safetyClosed := true } with ht
  have hidle : chainDutyAlone t = t := chainDutyAlone_none fun hhalted _ _ => hduty.resolve_left fun h => h hhalted
  refine (if_neg (by simp [hopen])).trans ?_
  exact (congrArg (fun u => if runPermission t.chn t.sht then u else t) hidle).trans (ite_self t)

end

/-- Settles O34: the key, the buttons and the safety chain, in the states in which they act. -/
theorem inspectionInputs : Obligations.InspectionInputs := by
  intro s hs halone
  obtain ⟨hprogramme, hfire, hsettles⟩ := s.alone_iff.mp halone
  rw [supplyEnded_sup hsettles]
  have hkeyed (hrequest : s.chn.request = none) (keyOn : Bool) (q : List Request) :
      chainWithdraw ((s.onChn fun c => { c with keyOn := keyOn }).during q []) =
        (s.onChn fun c => { c with keyOn := keyOn }).during q [] :=
    chainWithdraw_none _ _ _ hrequest
  have hkeyedSome (hrequest : s.chn.request ≠ none) (keyOn : Bool) (q : List Request) :
      chainWithdraw ((s.onChn fun c => { c with keyOn := keyOn }).during q []) =
        (s.onChn fun c => { c with keyOn := keyOn, request := none, creepSet := [] }).during q [.sup (.withdraw .chain)] :=
    chainWithdraw_some _ _ hrequest
  refine ⟨fun hst hconf hkey hreq => ?_, fun hst hconf hkey hreq => ?_, fun hst hconf hkey hreq => ?_, fun hst hkey => ?_,
    fun hreq hwaits => ?_, fun hst hup hdown => ?_, fun hst hup hdown => ?_, fun hst hkey hreq hclear => ?_,
    fun hst hup hdown hreq hnew hholds => ?_, fun hst hup hdown hreq hsafety hpermit hnew hadmits => ?_,
    fun hst hrev hup => ?_, fun hst hrev hdown => ?_, fun hst hup hreq => ?_, fun hopen hduty => ?_⟩
  · set v := s.onChn fun c => { c with keyOn := true }
    obtain ⟨k, hk, hd⟩ := Does.unpark_enter (u := v.onChn fun c => { c.into .inspectionIdle with park := none, creepCount := 0 })
      (st := .inspectionIdle) rfl (by decide) hprogramme hfire v.chn
    exact settle_event_during (b := .chn) (f := chainKeyOn) hs
      (fun q => chainKeyOn_idles hkey hconf (hkeyed hreq true q) hst) hd (hn := by omega)
  · have hd := Does.brakes (u := s.onChn fun c => { c.into .braking with keyOn := true, plan := none }) halone
    exact settle_event_during (b := .chn) (f := chainKeyOn) hs
      (fun q => chainKeyOn_brakes hkey hconf (hkeyed hreq true q) hst) hd
  · exact settle_event_during (b := .chn) (f := chainKeyOn) hs
      (fun q => chainKeyOn_notes hkey hconf (hkeyed hreq true q) hst) (.nil _)
  · have hd := Does.brakes (u := s.onChn fun c => { c.into .braking with keyOn := false, plan := none }) halone
    exact settle_event_during (b := .chn) (f := chainKeyOff) hs (fun q => chainKeyOff_brakes hkey hst) hd
  · intro quiet withdrawn
    refine ⟨fun hst hconf hkey => ?_, fun hst hkey hclear => ?_, fun hst hup hdown => ?_, fun hst hup hdown => ?_,
      fun hst hup hrequest => ?_, fun hst hdown hrequest => ?_⟩
    · set v := s.onChn fun c => { c with keyOn := true, request := none, creepSet := [] }
      set t := v.onChn fun c => { c.into .inspectionIdle with park := none, creepCount := 0 }
      obtain ⟨j, hj, hwithdraw⟩ := Does.chain_withdraws (u := t) hwaits
      obtain ⟨k, hk, hd⟩ := Does.unpark_enter (u := t.onSup fun p => p.withdrawn .chain s.chn.group)
        (st := .inspectionIdle) rfl (by decide) hprogramme hfire v.chn
      refine settle_event_during (b := .chn) (f := chainKeyOn) (v := t) hs (fun q => ?_) (hwithdraw.append hd)
        (hn := by omega)
      refine (chainKeyOn_idles hkey hconf (hkeyedSome hreq true q) hst).trans ?_
      rw [List.append_assoc]
    · set t := s.onChn fun c => { c.into .halted with keyOn := false, request := none, creepSet := [], rest := c.x }
      obtain ⟨j, hj, hwithdraw⟩ := Does.chain_withdraws (u := t) hwaits
      have hreports := Does.enterMsgs (u := t.onSup fun p => p.withdrawn .chain s.chn.group) hprogramme hfire .halted
      exact settle_event_during (b := .chn) (f := chainKeyOff) (v := t) hs
        (fun q => chainKeyOff_rests hkey hst (hkeyedSome hreq false q) hclear) (hwithdraw.append hreports) (hn := by omega)
    · exact exec_buttonPress_withdraws (up := false) hs hdown hup hst hreq hwaits
    · exact exec_buttonPress_withdraws (up := true) hs hup hdown hst hreq hwaits
    · exact exec_buttonRelease_withdraws (up := true) hs hup hst hrequest hwaits
    · exact exec_buttonRelease_withdraws (up := false) hs hdown hst hrequest hwaits
  · exact exec_buttonPress_brakes (up := false) hs halone hdown hup hst
  · exact exec_buttonPress_brakes (up := true) hs halone hup hdown hst
  · have hreports := Does.enterMsgs
      (u := s.onChn fun c => { c.into .halted with keyOn := false, rest := c.x }) hprogramme hfire .halted
    exact settle_event_during (b := .chn) (f := chainKeyOff) hs
      (fun q => chainKeyOff_rests hkey hst (hkeyed hreq false q) hclear) hreports
  · exact ⟨exec_buttonPress_holds (up := true) hs hup hdown hst hnew hholds,
      exec_buttonPress_holds (up := false) hs hdown hup hst hnew hholds⟩
  · have hup' := exec_buttonPress_admits (up := true) hs halone hup hdown hst hsafety hpermit hadmits
    have hdown' := exec_buttonPress_admits (up := false) hs halone hdown hup hst hsafety hpermit hadmits
    rw [← hreq] at hup' hdown'
    exact ⟨hup', hdown'⟩
  · exact exec_buttonRelease_brakes (up := true) hs halone hup hst hrev
  · exact exec_buttonRelease_brakes (up := false) hs halone hdown hst hrev
  · exact exec_buttonRelease_notes (up := true) hs hup hst hreq
  · exact exec_safetyChainClose_notes hs hopen hduty

end Sys2Proof.Machine
end

section
/-! STOP CHAIN and the clearance duty out of RUNNING (R11, R14, R16, R36, R37). -/

namespace Sys2Proof.Machine

section
variable {s v w : State} {set : List Nat} {ms : List Msg} {n mask tag : Nat} {r : Result}

/-! ### Stop requests by the chain's state (R11) -/

theorem chainStop_parks {q : List Request} (hstate : s.chn.state = .halted) (hknown : s.chn.known = true)
    (hrequest : s.chn.request = none) (haccepts : accepts s.chn.config s.chn.x set = true) :
    chainStop set (s.during q []) = ((s.onChn fun c =>
      { c.into .parked with park := some ⟨set, c.x⟩, rest := c.x, plan := none, creepCount := 0 }).during q
        (enterMsgs .parked ++ [.lnk (.notice (.chainParked set s.chn.x)), .sht .parkChanged]), .done false []) := by
  simp only [chainStop, State.during_chn, hstate, hknown, hrequest, Bool.not_true, Bool.false_eq_true, reduceCtorEq, if_false,
    chainDuty, haccepts, if_true, chainPark_during]
  rfl

theorem chainStop_creeps {q : List Request} (hstate : s.chn.state = .halted) (hknown : s.chn.known = true)
    (hrequest : s.chn.request = none) (haccepts : accepts s.chn.config s.chn.x set = false)
    (hroom : s.sup.full .chain s.chn.group = false) : chainStop set (s.during q []) =
      ((s.onChn fun c => { c with request := some .creep, creepSet := set, creepRefused := false }).during q
        [.sup (.request .chain (.chain .creep) s.chn.group), .sup (.pass s.chn.group)], .taken false) := by
  simp only [chainStop, State.during_chn, hstate, hknown, hrequest, Bool.not_true, Bool.false_eq_true, reduceCtorEq, if_false,
    chainDuty, haccepts, chainAskCreep_during set [] hrequest hroom]
  rfl

theorem chainStop_extends {q : List Request} {p : ParkRecord} (hstate : s.chn.state = .parked) (hpark : s.chn.park = some p)
    (haccepts : accepts s.chn.config s.chn.x (setMinus set p.set) = true) : chainStop set (s.during q []) =
      ((s.onChn fun c => { c with park := some ⟨setUnion p.set set, p.position⟩ }).during q
        [.lnk (.notice (.chainParked (setUnion p.set set) p.position)), .sht .parkChanged], .done false []) := by
  simp only [chainStop, State.during_chn, hstate, chainExtend, hpark, Option.map_some, Option.getD_some, haccepts, if_true]
  rfl

theorem chainStop_gives_up {q : List Request} {p : ParkRecord} (hstate : s.chn.state = .parked) (hpark : s.chn.park = some p)
    (hrequest : s.chn.request = none) (haccepts : accepts s.chn.config s.chn.x (setMinus set p.set) = false)
    (hroom : s.sup.full .chain s.chn.group = false) : chainStop set (s.during q []) =
      ((s.onChn fun c => { c.into .halted with
        park := none, rest := c.x, request := some .creep, creepSet := setUnion p.set set, creepRefused := false }).during q
        ([.sup (.request .chain (.chain .creep) s.chn.group), .sup (.pass s.chn.group)] ++
          (unparkMsgs s.chn ++ enterMsgs .halted)), .taken false) := by
  have hunpark : chainHalt (chainUnpark (s.during q [])) =
      (s.onChn fun c => { c.into .halted with park := none, rest := c.x }).during q (unparkMsgs s.chn ++ enterMsgs .halted) := by
    rw [chainUnpark_during, chainHalt_during]
    rfl
  have hask := chainAskCreep_during (u := s.onChn fun c => { c.into .halted with park := none, rest := c.x }) (q := q)
    (setUnion p.set set) (unparkMsgs s.chn ++ enterMsgs .halted) hrequest hroom
  simp only [chainStop, State.during_chn, hstate, chainExtend, hpark, Option.map_some, Option.getD_some, haccepts,
    Bool.false_eq_true, if_false, hunpark, hask]
  simp [unparkMsgs, hpark, enterMsgs, Msg.isAhead, taken]
  rfl

theorem chainStop_late {q : List Request} {p : StopPlan} (hplan : s.chn.plan = some p)
    (hstate : (s.chn.state = .stopping ∧ p.braked = true) ∨ s.chn.state = .creeping) : chainStop set (s.during q []) =
      ((s.onChn fun c => { c with plan := some { p with late := setUnion p.late set } }).during q [], .taken false) := by
  have hlate : chainLate set (s.during q []) =
      (s.onChn fun c => { c with plan := some { p with late := setUnion p.late set } }).during q [] := by
    have hchn : (s.onChn fun c => { c with plan := c.plan.map fun p => { p with late := setUnion p.late set } }) =
        s.onChn fun c => { c with plan := some { p with late := setUnion p.late set } } :=
      State.onChn_congr (by simp only [hplan, Option.map_some])
    exact congrArg (State.during · q []) hchn
  rcases hstate with ⟨h, hbraked⟩ | h
  · simp only [chainStop, State.during_chn, h, hplan, hbraked, if_true, hlate]
    rfl
  · simp only [chainStop, State.during_chn, h, hlate]
    rfl

theorem chainStop_plans {q : List Request} {p : StopPlan} (hplan : s.chn.plan = some p) (hstate : s.chn.state = .stopping)
    (hbraked : p.braked = false) : chainStop set (s.during q []) =
      ((if set = p.set then s else s.onChn fun c => { c with
        plan := some (makePlan c.config s.clr.table (setUnion p.set set) c.x s.chn.stopping) }).during q [], .taken false) := by
  simp only [chainStop, State.during_chn, hstate, hplan, hbraked, Bool.false_eq_true, if_false]
  split <;> rfl

/-- A STOP CHAIN of a configured chain whose landings exist, that its state takes. -/
theorem exec_stopChain (hs : s.ready = true) (hconfigured : s.chn.config.configured = true) (hrequest : s.chn.request = none)
    (hlandings : ∀ k < 16, mask.testBit k = true → (s.chn.config.landings[k]?).join ≠ none)
    (hset : setUnion (maskSet 16 mask) s.chn.clearance = set) (hsome : set ≠ [])
    (hstop : ∀ q, chainStop set (s.during q []) = (v.during q ms, r)) (hr : ∀ reason d, r ≠ .declined reason d)
    (hd : Does n ms v w)
    (hown : ∀ q, Block.chn.own (fun _ => v.during q ms) (s.during q []) = v.during q ms := by intro; rfl)
    (hagenda : v.agenda = s.agenda := by rfl) (hlnk : v.lnk = s.lnk := by rfl)
    (hroom : w.snd.roomDue = s.snd.roomDue := by rfl) (hn : n < 999999990 := by norm_num) :
    exec (.stopChain tag mask) s = .next (w.answered tag (.stopChain mask) r) := by
  subst hset
  refine exec_of_does (v := v) (ms := ms) rfl hs (fun hw => absurd hw Bool.false_ne_true) (fun q => ?_) hd (hown := hown)
    (hagenda := hagenda) (hlnk := hlnk) (hroom := hroom) (hn := hn)
  exact (orderStopChain_configured (s := s.during q []) hconfigured hlandings).trans
    (chainStopOrder_takes (s := s.during q []) hsome (Chain.startHomeInspect_none hrequest) (hstop q) hr)

/-! ### The duty taken up as the safety chain closes (R7, R14) -/

theorem chainSafetyClose_duty {q : List Request} (hopen : s.chn.safetyClosed = false) (hstate : s.chn.state = .halted)
    (hknown : s.chn.known = true) (hrequest : s.chn.request = none) (hpermit : s.sht.permit = true)
    (hclearance : s.chn.clearance ≠ []) : chainSafetyClose (s.during q []) =
      (chainDuty s.chn.clearance
        ((s.onChn fun c => { c with safetyClosed := true, creepRefused := false }).during q [])).1 := by
  have hrun : runPermission { s.chn with safetyClosed := true } s.sht = true := by simp [runPermission, hstate, hpermit]
  refine (if_neg (by simp [hopen])).trans ((if_pos hrun).trans (if_pos ?_))
  simp [hstate, hknown, hrequest, hclearance]

theorem exec_safetyChainClose_creeps (hs : s.quiet = true) (hopen : s.chn.safetyClosed = false)
    (hstate : s.chn.state = .halted) (hknown : s.chn.known = true) (hrequest : s.chn.request = none)
    (hpermit : s.sht.permit = true) (hnew : s.sup.withoutChain = true)
    (haccepts : accepts s.chn.config s.chn.x s.chn.clearance = false) (hholds : s.sup.holds s.chn.group = true) :
    exec .safetyChainClose s = .next
      { s with
        chn := { s.chn with
          safetyClosed := true, request := some .creep, creepSet := s.chn.clearance, creepRefused := false }
        sup := s.sup.chainQueued s.chn.group .creep } := by
  obtain ⟨g, hg, hroom, -⟩ := Supply.holds_iff.mp hholds
  have hclearance : s.chn.clearance ≠ [] := by
    intro hnone
    rw [hnone] at haccepts
    exact accepts_eq_false.mp haccepts rfl
  refine settle_event_during (b := .chn) (f := chainSafetyClose) (v := s.onChn fun c => { c with
    safetyClosed := true, request := some .creep, creepSet := s.chn.clearance, creepRefused := false }) hs (fun q => ?_)
    (Does.chain_holds (u := s.onChn _) hholds hnew)
  refine (chainSafetyClose_duty hopen hstate hknown hrequest hpermit hclearance).trans ?_
  unfold chainDuty
  refine (congrArg Prod.fst (if_neg (show ¬ accepts s.chn.config s.chn.x s.chn.clearance = true by simp [haccepts]))).trans ?_
  exact chainAskCreep_during (u := s.onChn fun c => { c with safetyClosed := true, creepRefused := false }) s.chn.clearance []
    hrequest (Supply.full_eq_false hg hroom)

end

/-! ### A shutter that its landing's clearance releases (R47) -/

theorem presentWhere_eq_singleton {α : Type} {l : List (Option α)} {p : α → Bool} {n : Nat}
    (h : ∀ k, (∃ a, present? l k = some a ∧ p a = true) ↔ k = n) : presentWhere l p = [n] := by
  refine numbersWhere_eq_singleton fun k => (h k).symm.trans ?_ |>.symm
  rw [← mem_presentWhere, presentWhere, mem_numbersWhere]

/-- The one shutter that waits at the landing begins its warning, and the landing leaves the clearance set. -/
theorem Does.releases_shutter {u : State} {n l : Nat} {r : Shutter} (hfire : u.peaceful = true) (hr : u.sht.get? n = some r)
    (hl : r.landing? = some l) (hstate : r.state = .awaitClear) (hwarning : r.config.warning ≠ 0)
    (honly : ∀ k < u.sht.table.length, ∀ q ∈ u.sht.get? k, q.state = .awaitClear → k = n)
    (hclear : u.chn.parkedClearOf l = true) (hclearance : u.chn.clearance = [l]) :
    ∃ k ≤ 6, Does k [.sht .parkChanged] u ((u.onSht fun t => t.set n (some r.warns)).onChn fun c =>
      { c with clearance := [] }) := by
  set v := u.onSht fun t => t.set n (some r.warns) with hv
  set w := v.onChn fun c => { c with clearance := [] }
  have hlt : n < u.sht.table.length := (List.getElem?_eq_some_iff.mp (present?_eq_some.mp hr)).1
  have hreleased : presentWhere u.sht.table (fun r =>
      r.state == .awaitClear && r.landing?.any u.chn.parkedClearOf) = [n] := by
    refine presentWhere_eq_singleton fun k => ⟨?_, ?_⟩
    · rintro ⟨x, hx, hwaits⟩
      exact honly k (List.getElem?_eq_some_iff.mp (present?_eq_some.mp hx)).1 x hx
        (beq_iff_eq.mp (Bool.and_eq_true_iff.mp hwaits).1)
    · rintro rfl
      exact ⟨r, hr, by simp [hstate, hl, hclear]⟩
  have hnone : ¬ v.sht.waiting l = true := by
    rw [hv, State.onSht_sht, Shutters.waiting_set_iff hlt (by simp [Shutter.warns, Shutter.resting])]
    rintro ⟨k, hk, hne, x, hx, -, hwaits⟩
    exact hne (honly k hk x hx hwaits)
  obtain ⟨j, hj, hleaves⟩ := Does.leave (u := v) hfire l
  have hempty : (v.onChn fun c => { c with clearance :=
      (if v.sht.waiting l = true then c.clearance else setMinus c.clearance [l]) }) = w := by
    refine State.onChn_congr ?_
    have hone : v.chn.clearance = [l] := hclearance
    simp only [if_neg hnone, hone]
    simp [setMinus]
  have hx : w.sht.get? n = some r.warns := Shutters.get?_set_self hr _
  have hlanding : r.warns.isLanding = true := show r.isLanding = true by simp [Shutter.isLanding, hl]
  have hchain : Does 1 [.chn (.shutterChanged u.sht.permit false)] w w := .landingChanged_bars hx hlanding rfl
  have hfloor : Does 1 [.flr (.shutterChanged r.config.floor n .awaitClear .warning)] w w := .floorChanged_inUse hx rfl rfl rfl
  have hwarns : ∀ q, shutterRelease n (u.during q []) = v.during q
      [.chn (.leave l), .chn (.shutterChanged u.sht.permit false), .flr (.shutterChanged r.config.floor n .awaitClear .warning)] := by
    intro q
    have hgo : (decide (r.state = .awaitClear) && r.landing?.any u.chn.parkedClearOf) = true := by simp [hstate, hl, hclear]
    unfold shutterRelease
    simp only [State.during_sht, hr, State.during_chn]
    refine (if_pos hgo).trans ((shutterWarn_eq (s := u.during q []) hr).trans ?_)
    rw [Shutter.falls_of_pos hwarning, Machine.warnMsgs, if_neg hwarning, List.append_nil,
      alterMsgs_leave (r := r.warns) hl hstate hlanding (st := .warning) rfl]
    rfl
  have hrelease : Does (1 + (j + (1 + 1))) [.sht (.release n)] u w :=
    .sht (fun q => (hwarns q).trans rfl) ((hempty ▸ hleaves).cons (hchain.cons hfloor))
  refine ⟨1 + (1 + (j + (1 + 1))), by omega, .sht (f := id) (ms := [.sht (.release n)]) (fun q => ?_) hrelease⟩
  simp only [shutterTake, shutterParkChanged, State.during_sht, State.during_chn, hreleased]
  rfl

theorem exec_safetyChainClose_parks {s : State} {n l : Nat} {r : Shutter} (hs : s.quiet = true) (halone : s.alone = true)
    (hopen : s.chn.safetyClosed = false) (hstate : s.chn.state = .halted) (hknown : s.chn.known = true)
    (hrequest : s.chn.request = none) (hpermit : s.sht.permit = true) (hr : s.sht.get? n = some r)
    (hl : r.landing? = some l) (hwaits : r.state = .awaitClear) (hwarning : r.config.warning ≠ 0)
    (honly : ∀ k < s.sht.table.length, ∀ q ∈ s.sht.get? k, q.state = .awaitClear → k = n) (hclearance : s.chn.clearance = [l])
    (haccepts : accepts s.chn.config s.chn.x [l] = true) : exec .safetyChainClose s = .next
      ({ s with
        chn := { s.chn.into .parked with
          safetyClosed := true, creepRefused := false, park := some ⟨[l], s.chn.x⟩, rest := s.chn.x, plan := none
          creepCount := 0, clearance := [] }
        sht := s.sht.set n (some r.warns) }.noticed (.chainParked [l] s.chn.x)) := by
  obtain ⟨hprogramme, hfire, -⟩ := s.alone_iff.mp halone
  set v := s.onChn fun c => { c.into .parked with
    safetyClosed := true, creepRefused := false, park := some ⟨[l], c.x⟩, rest := c.x, plan := none, creepCount := 0 } with hv
  set b : NoticeBody := .chainParked [l] s.chn.x
  have hreports := Does.enterMsgs (u := v) hprogramme hfire .parked
  obtain ⟨k, hk, hrelease⟩ := Does.releases_shutter (u := v.noticed b) hfire hr hl hwaits hwarning honly
    (by simp [Chain.parkedClearOf, Chain.into, v]) hclearance
  have hexec : exec .safetyChainClose s = .next ((((v.noticed b).onSht fun t => t.set n (some r.warns)).onChn fun c =>
      { c with clearance := [] })) := by
    refine settle_event_during (b := .chn) (f := chainSafetyClose) (v := v) hs (fun q => ?_)
      ((hreports.append (Does.notice v b)).append hrelease) (hn := by omega)
    refine (chainSafetyClose_duty hopen hstate hknown hrequest hpermit (by simp [hclearance])).trans ?_
    rw [hclearance]
    refine (congrArg Prod.fst (if_pos haccepts)).trans ?_
    exact (chainPark_during (s.onChn fun c => { c with safetyClosed := true, creepRefused := false }) q [] [l]).trans rfl
  rw [hexec, State.noticed_onSht, State.noticed_onChn]
  rfl

/-- Settles O33: the stop order by the state of the chain, and the duty as the safety chain closes. -/
theorem clearanceDuty : Obligations.ClearanceDuty := by
  constructor
  · intro s tag mask hs hconfigured hknown halone hrequest hnew hwait hlandings set o creep hsome
    obtain ⟨hprogramme, hfire, -⟩ := s.alone_iff.mp halone
    have hset : setUnion (maskSet 16 mask) s.chn.clearance = set := setUnion_maskSet ..
    have hroom (h : s.sup.holds s.chn.group = true) : s.sup.full .chain s.chn.group = false := by
      obtain ⟨g, hg, hroom, -⟩ := Supply.holds_iff.mp h
      exact Supply.full_eq_false hg hroom
    refine ⟨fun hst haccepts => ?_, fun hst haccepts hholds => ?_, fun hst p hp => ?_, fun hst p hp => ?_, fun hst p hp => ?_⟩
    · exact exec_stopChain hs hconfigured hrequest hlandings hset hsome
        (fun q => chainStop_parks hst hknown hrequest haccepts) (by simp)
        (Does.parks (u := s.onChn _) halone (noneWaits hwait) (.chainParked set s.chn.x))
    · exact exec_stopChain hs hconfigured hrequest hlandings hset hsome
        (fun q => chainStop_creeps hst hknown hrequest haccepts (hroom hholds)) (by simp)
        (Does.chain_holds (u := s.onChn _) hholds hnew)
    · intro larger
      refine ⟨fun haccepts => ?_, fun haccepts hholds => ?_⟩
      · set v := s.onChn fun c => { c with park := some ⟨larger, p.position⟩ }
        have hd := (Does.notice v (.chainParked larger p.position)).cons
          (Does.parkChanged_unawaited (u := v.noticed _) (noneWaits hwait))
        exact exec_stopChain (v := v) hs hconfigured hrequest hlandings hset hsome
          (fun q => chainStop_extends hst hp haccepts) (by simp) hd
      · set v := s.onChn fun c => { c.into .halted with
          park := none, rest := c.x, request := some .creep, creepSet := larger, creepRefused := false }
        obtain ⟨k, hk, hreports⟩ := Does.unpark_enter (u := v.onSup fun p => p.chainQueued s.chn.group .creep) (st := .halted)
          rfl (by decide) hprogramme hfire s.chn
        exact exec_stopChain (v := v) hs hconfigured hrequest hlandings hset hsome
          (fun q => chainStop_gives_up hst hp hrequest haccepts (hroom hholds)) (by simp)
          ((Does.chain_holds (u := v) hholds hnew).append hreports) (hn := by omega)
    · rcases Bool.eq_false_or_eq_true p.braked with hbraked | hbraked
      · rw [if_pos hbraked]
        exact exec_stopChain hs hconfigured hrequest hlandings hset hsome
          (fun q => chainStop_late hp (.inl ⟨hst, hbraked⟩)) (by simp) (.nil _)
      · by_cases hsame : set = p.set
        · rw [if_neg (by simp [hbraked]), if_pos hsame]
          refine exec_stopChain (v := s) (ms := []) hs hconfigured hrequest hlandings hset hsome (fun q => ?_) (by simp) (.nil _)
          rw [chainStop_plans hp hst hbraked, if_pos hsame]
        · rw [if_neg (by simp [hbraked]), if_neg hsame]
          refine exec_stopChain (v := s.onChn fun c => { c with
              plan := some (makePlan c.config s.clr.table (setUnion p.set set) c.x c.stopping) }) (ms := [])
            hs hconfigured hrequest hlandings hset hsome (fun q => ?_) (by simp) (.nil _)
          rw [chainStop_plans hp hst hbraked, if_neg hsame]
          rfl
    · exact exec_stopChain hs hconfigured hrequest hlandings hset hsome
        (fun q => chainStop_late hp (.inr hst)) (by simp) (.nil _)
  · intro s hs halone hst hknown hrequest hopen hpermit hnew
    refine ⟨exec_safetyChainClose_creeps hs hopen hst hknown hrequest hpermit hnew, ?_⟩
    intro n l r hr hl hwaits hwarning honly hclearance haccepts
    exact exec_safetyChainClose_parks hs halone hopen hst hknown hrequest hpermit hr hl hwaits hwarning honly hclearance
      haccepts

end Sys2Proof.Machine
end

section
/-! Trips (R22). -/

namespace Sys2Proof.Machine

/-! ### The record -/

/-- The record of a first cause. -/
def Chain.tripRecord (c : Chain) (cause : TripCause) : TripRecord :=
  { causes := [cause], first := cause, position := if c.known then some c.x else none, state := c.state }

/-- The chain's record as it trips. -/
def Chain.tripping (c : Chain) (cause : TripCause) : Chain :=
  { c.into .tripped with plan := none, trip := some (c.tripRecord cause) }

/-- The record of a cause that joins a trip. -/
def TripRecord.further (r : TripRecord) (cause : TripCause) : TripRecord :=
  { r with causes := if cause ∈ r.causes then r.causes else r.causes ++ [cause] }

/-- What a trip hands on, beside a park record given up. -/
def tripMsgs (moving : Bool) : List Msg := (if moving then [.sup (.ended .chain)] else []) ++ enterMsgs .tripped

theorem State.tripped_eq {u : State} (h : u.sup.settles = true) (cause : TripCause) : u.tripped cause =
    ({ u with
      chn := u.chn.tripping cause
      sup := if u.chn.state.moving then u.sup.ended .chain else u.sup }.noticed (.chainTripped (u.chn.tripRecord cause))) := by
  unfold State.tripped
  rw [supplyEnded_sup h]
  rfl

section
variable {u : State} {cause : TripCause}

theorem chainTrip_further {r : TripRecord} (hstate : u.chn.state = .tripped) (htrip : u.chn.trip = some r) (q : List Request) :
    chainTrip cause (u.during q []) = (u.onChn fun c => { c with trip := some (r.further cause) }).during q
      [.lnk (.notice (.chainTripped (r.further cause)))] := by
  simp [chainTrip, hstate, htrip, TripRecord.further]

/-- A first cause; a park record goes with BRAKE_SLIP (R17). -/
theorem chainTrip_first (hstate : u.chn.state ≠ .tripped) (hrequest : u.chn.request = none) (q : List Request) :
    chainTrip cause (u.during q []) =
      let t := (u.onChn fun c => c.tripping cause).during q (tripMsgs u.chn.state.moving)
      (if cause = .brakeSlip then chainUnpark t else t).notify (.chainTripped (u.chn.tripRecord cause)) := by
  have hended : (if u.chn.state.moving then (u.during q []).post [.sup (.ended .chain)] else u.during q []) =
      u.during q (if u.chn.state.moving then [.sup (.ended .chain)] else []) := by
    split <;> rfl
  unfold chainTrip
  split
  · exact absurd ‹_› hstate
  · dsimp only
    rw [chainWithdraw_none _ _ _ hrequest, State.during_chn, hended]
    rfl

theorem chainTrip_cause (hstate : u.chn.state ≠ .tripped) (hrequest : u.chn.request = none) (hcause : cause ≠ .brakeSlip)
    (q : List Request) : chainTrip cause (u.during q []) = (u.onChn fun c => c.tripping cause).during q
      (tripMsgs u.chn.state.moving ++ [.lnk (.notice (.chainTripped (u.chn.tripRecord cause)))]) := by
  rw [chainTrip_first hstate hrequest]
  dsimp only
  rw [if_neg hcause]
  rfl

theorem chainTrip_slip (hstate : u.chn.state ≠ .tripped) (hrequest : u.chn.request = none) (q : List Request) :
    chainTrip .brakeSlip (u.during q []) = (u.onChn fun c => { c.tripping .brakeSlip with park := none }).during q
      (tripMsgs u.chn.state.moving ++ unparkMsgs u.chn ++
        [.lnk (.notice (.chainTripped (u.chn.tripRecord .brakeSlip)))]) := by
  rw [chainTrip_first hstate hrequest]
  dsimp only
  rw [if_pos rfl, chainUnpark_during]
  rfl

/-- The position becomes UNKNOWN with a trip (R2). -/
theorem chainTrip_lost (hstate : u.chn.state ≠ .tripped) (hrequest : u.chn.request = none) (hcause : cause ≠ .brakeSlip)
    (q : List Request) : chainLost (chainTrip cause (u.during q [])) =
      (u.onChn fun c => { c.tripping cause with known := false, lastCar := none, park := none }).during q
        (tripMsgs u.chn.state.moving ++ [.lnk (.notice (.chainTripped (u.chn.tripRecord cause)))] ++
          [.fir .chainChanged] ++ unparkMsgs u.chn) := by
  rw [chainTrip_cause hstate hrequest hcause]
  unfold chainLost
  rw [State.during_onChn, State.during_post, chainUnpark_during]
  rfl

end

/-! ### What the other blocks make of it -/

namespace Does

variable {u : State}

theorem trips (halone : u.alone = true) (moving : Bool) : ∃ k ≤ 3, Does k (tripMsgs moving) u
    (u.onSup fun p => if moving then p.ended .chain else p) := by
  obtain ⟨hprogramme, hfire, hsettles⟩ := u.alone_iff.mp halone
  cases moving
  · exact ⟨2, by norm_num, enterMsgs hprogramme hfire .tripped⟩
  · exact ⟨3, le_rfl, (ended hsettles .chain).append (enterMsgs (u := u.onSup _) hprogramme hfire .tripped)⟩

end Does

section
variable {s u : State} {f : State → State} {cause : TripCause}

/-- An event of the chain that trips it. -/
theorem exec_trips (g : Chain → Chain) (hs : s.quiet = true) (halone : s.alone = true)
    (hstate : (g s.chn).state ≠ .tripped) (hrequest : (g s.chn).request = none) (hcause : cause ≠ .brakeSlip)
    (hf : ∀ q, f (s.during q []) = chainTrip cause ((s.onChn g).during q [])) :
    settle (Block.chn.own f s) = .next ((s.onChn g).tripped cause) := by
  obtain ⟨-, -, hsettles⟩ := s.alone_iff.mp halone
  set v := (s.onChn g).onChn fun c => c.tripping cause
  obtain ⟨k, hk, hd⟩ := Does.trips (u := v) halone (g s.chn).state.moving
  rw [State.tripped_eq (u := s.onChn g) hsettles]
  refine settle_event_during (b := .chn) (v := v) hs (fun q => ?_) (hd.append (.notice _ _)) (hn := by omega)
  exact (hf q).trans (chainTrip_cause (u := s.onChn g) hstate hrequest hcause q)

/-- The same where the position becomes UNKNOWN. -/
theorem exec_trips_lost (hs : s.quiet = true) (halone : s.alone = true) (hstate : s.chn.state ≠ .tripped)
    (hrequest : s.chn.request = none) (hcause : cause ≠ .brakeSlip)
    (hf : ∀ q, f (s.during q []) = chainLost (chainTrip cause (s.during q []))) :
    settle (Block.chn.own f s) = .next
      ((s.tripped cause).onChn fun c => { c with known := false, lastCar := none, park := none }) := by
  obtain ⟨hprogramme, hfire, hsettles⟩ := s.alone_iff.mp halone
  set v := s.onChn fun c => { c.tripping cause with known := false, lastCar := none, park := none }
  obtain ⟨k, hk, hd⟩ := Does.trips (u := v) halone s.chn.state.moving
  set w := (v.onSup fun p => if s.chn.state.moving then p.ended .chain else p).noticed
    (.chainTripped (s.chn.tripRecord cause)) with hw
  obtain ⟨j, hj, hunpark⟩ := Does.unparkMsgs (u := w) (show w.chn.state ≠ .parked by simp [w, v, Chain.tripping, Chain.into]) s.chn
  rw [State.tripped_eq hsettles, State.noticed_onChn]
  refine settle_event_during (b := .chn) (v := v) hs (fun q => ?_)
    (((hd.append (Does.notice _ _)).append (Does.chainChanged (u := w) hfire)).append hunpark) (hn := by omega)
  exact (hf q).trans (chainTrip_lost hstate hrequest hcause q)

end

/-! ### The end of a window, and drift -/

section
variable {s : State}

theorem chainWindow_overspeed (hconfigured : s.chn.config.configured = true)
    (hspeed : s.chn.config.times.overspeedLimit < s.chn.windowCount) (q : List Request) :
    chainWindow (s.during q []) = chainTrip .overspeed ((s.onChn Chain.windowed).during q []) :=
  if_pos (Bool.and_eq_true_iff.mpr ⟨hconfigured, decide_eq_true hspeed⟩)

theorem chainJudge_stalls {u : State} {q : List Request} {n : Nat} (h : u.chn.state = .running)
    (hn : n < u.chn.config.times.stallLimit) (hrun : u.chn.stallRun = 2) : chainJudge n (u.during q []) =
      chainTrip .stall ((u.onChn fun c => { c with stallRun := c.stallRun + 1 }).during q []) := by
  simp [chainJudge, h, hn, hrun]

theorem chainAccept_fails {u : State} {q : List Request} {p : StopPlan} (hplan : u.chn.plan = some p)
    (hstate : u.chn.state = .creeping) (hcount : u.chn.creepCount ≠ 0)
    (hfouls : accepts u.chn.config u.chn.x (setUnion p.set p.late) = false) :
    chainAccept (u.during q []) = chainTrip .parkFailed (u.during q []) := by
  have hjudged : u.chn.judged = setUnion p.set p.late := by simp [Chain.judged, hplan]
  unfold chainAccept
  simp [hjudged, hfouls, hstate, hcount]

/-- A chain at rest that drifts beyond its tolerance trips (R17). -/
theorem exec_encoderCount_slips {forward : Bool} (hs : s.quiet = true) (halone : s.alone = true)
    (hrequest : s.chn.request = none) (hstate : s.chn.state = .halted ∨ s.chn.state = .parked)
    (hconfigured : s.chn.config.configured = true) (hloop : 0 < s.chn.config.loopLength)
    (hfar : s.chn.config.times.drift < circDist s.chn.config.loopLength (s.chn.counted forward).x s.chn.rest) :
    exec (.encoderCount forward) s = .next
      (((s.onChn fun c => c.counted forward).tripped .brakeSlip).onChn fun c => { c with park := none }) := by
  obtain ⟨-, -, hsettles⟩ := s.alone_iff.mp halone
  set u := s.onChn fun c => c.counted forward with hu
  have hcounted := Chain.counted_eq hloop forward
  have hust : u.chn.state = s.chn.state := by rw [hu, State.onChn_chn, hcounted]
  have hmoving : u.chn.state.moving = false := by rw [hust]; rcases hstate with h | h <;> rw [h] <;> rfl
  have hnot : u.chn.state ≠ .tripped := by rw [hust]; rcases hstate with h | h <;> simp [h]
  have hureq : u.chn.request = none := by rw [hu, State.onChn_chn, hcounted]; exact hrequest
  have hslips (q : List Request) : chainCount forward (s.during q []) = chainTrip .brakeSlip (u.during q []) := by
    have hrest : ((s.chn.counted forward).state = .halted || (s.chn.counted forward).state = .parked) = true := by
      rw [hcounted]
      rcases hstate with h | h <;> simp [h]
    refine (chainCount_during s q forward ?_).trans ((if_pos hrest).trans ?_)
    · rcases hstate with h | h <;> simp [h]
    · refine (if_neg ?_).trans (if_pos ?_)
      · rw [State.during_chn, State.onChn_chn, hcounted]
        simp [hconfigured]
      · rw [hcounted] at hfar
        rw [State.during_chn, State.onChn_chn, hcounted]
        exact hfar
  set v := u.onChn fun c => { c.tripping .brakeSlip with park := none }
  obtain ⟨k, hk, hd⟩ := Does.trips (u := v) halone u.chn.state.moving
  set w := v.onSup fun p => if u.chn.state.moving then p.ended .chain else p
  obtain ⟨j, hj, hunpark⟩ := Does.unparkMsgs (u := w) (show w.chn.state ≠ .parked by simp [w, v, Chain.tripping, Chain.into]) u.chn
  rw [State.tripped_eq (u := u) hsettles, State.noticed_onChn]
  refine settle_event_during (b := .chn) (v := v) hs (fun q => ?_) ((hd.append hunpark).append (Does.notice w _))
    (hn := by omega)
  exact (hslips q).trans (chainTrip_slip hnot hureq q)

end

/-! ### A landing shutter lost while the chain moves (R60, R62) -/

section
variable {s : State} {a n : Nat} {node : Node} {r : Shutter}

theorem alterMsgs_faulted (hst : r.state = .opened) (hlanding : r.isLanding = true) (cause : ShutterCause)
    (permitted : Bool) : alterMsgs n r (r.faulted cause) permitted =
      [.chn (.shutterChanged permitted true), .flr (.shutterChanged r.config.floor n .opened .fault)] := by
  have hl : (r.faulted cause).isLanding = true := hlanding
  have hfault : (r.faulted cause).state = .fault := rfl
  have hconfig : (r.faulted cause).config = r.config := rfl
  simp [alterMsgs, hst, hl, hfault, hconfig]

/-- A landing shutter's fault trips a moving chain (R22). -/
theorem Does.landing_trips {u : State} (halone : u.alone = true) (hmoving : u.chn.state.moving = true)
    (hrequest : u.chn.request = none) (permitted : Bool) :
    ∃ k ≤ 5, Does k [.chn (.shutterChanged permitted true)] u (u.tripped .landingShutter) := by
  obtain ⟨-, -, hsettles⟩ := u.alone_iff.mp halone
  set v := u.onChn fun c => c.tripping .landingShutter
  have hnot : u.chn.state ≠ .tripped := by
    intro h
    rw [h] at hmoving
    cases hmoving
  obtain ⟨k, hk, hd⟩ := Does.trips (u := v) halone u.chn.state.moving
  rw [State.tripped_eq hsettles]
  refine ⟨1 + (k + 1), by omega, .chn (fun q => ?_) (hd.append (Does.notice _ _))⟩
  refine (if_pos (Bool.and_eq_true_iff.mpr ⟨rfl, hmoving⟩)).trans ?_
  exact chainTrip_cause hnot hrequest (by decide) q

theorem Does.shutter_lost {u : State} (halone : u.alone = true) (hmoving : u.chn.state.moving = true)
    (hrequest : u.chn.request = none) (hr : u.sht.get? n = some r) (hst : r.state = .opened) (hlanding : r.isLanding = true)
    (hfloor : u.flr.waitsFor r.config.floor = false) : ∃ k ≤ 8, Does k [.sht (.lost n)] u
      (({ u with sht := u.sht.set n (some (r.faulted .nodeLost)) }.tripped .landingShutter).noticed
        (.shutterFault n .nodeLost r.position .opened)) := by
  set v := u.onSht fun t => t.set n (some (r.faulted .nodeLost)) with hv
  obtain ⟨k, hk, htrips⟩ := Does.landing_trips (u := v) halone hmoving hrequest u.sht.permit
  have hreport : Does 1 [.flr (.shutterChanged r.config.floor n .opened .fault)] (v.tripped .landingShutter)
    (v.tripped .landingShutter) := .floorChanged_idle (u := v.tripped .landingShutter) hfloor _ _
  refine ⟨1 + (k + 1 + 1), by omega, .sht (fun q => ?_) ((htrips.cons hreport).append (.notice _ _))⟩
  unfold shutterTake shutterLost
  simp only [State.during_sht, hr, hst]
  refine (shutterFault_held (s := u.during q []) hr (by simp [hst]) (by simp [hst]) .nodeLost).trans ?_
  rw [alterMsgs_faulted hst hlanding, hst]
  rfl

theorem exec_pollMissed_landing (hs : s.quiet = true) (halone : s.alone = true) (hmoving : s.chn.state.moving = true)
    (hrequest : s.chn.request = none) (hpolled : s.flp.polled = some a) (hnode : s.flp.node? a = some node)
    (hkind : node.kind = .shutter) (hstate : node.state ≠ .lost) (hmisses : 2 ≤ node.misses) (hr : s.sht.get? n = some r)
    (ha : r.config.node = a) (hlanding : r.isLanding = true) (hst : r.state = .opened)
    (honly : ∀ k < s.sht.table.length, ∀ q ∈ s.sht.get? k, q.config.node = a → k = n)
    (hfloor : s.flr.waitsFor r.config.floor = false) : exec .pollMissed s = .next
      (((({ s with
        flp := { s.flp with
          nodes := s.flp.nodes.set (a - 1) (some { node with misses := 3, state := .lost }), polled := none }
        sht := s.sht.set n (some (r.faulted .nodeLost)) }.tripped .landingShutter).noticed
          (.shutterFault n .nodeLost r.position .opened)).noticed (.nodeLost a .shutter))) := by
  have hone : lostMsgs s a node.kind = [.sht (.lost n)] := by
    have hwhere : presentWhere s.sht.table (fun r => r.config.node == a) = [n] := by
      refine presentWhere_eq_singleton fun k => ⟨?_, ?_⟩
      · rintro ⟨x, hx, hnamed⟩
        exact honly k (List.getElem?_eq_some_iff.mp (present?_eq_some.mp hx)).1 x hx (beq_iff_eq.mp hnamed)
      · rintro rfl
        exact ⟨r, hr, beq_iff_eq.mpr ha⟩
    rw [hkind, lostMsgs, hwhere]
    rfl
  obtain ⟨k, hk, hd⟩ := Does.shutter_lost (u := s.missed a { node with misses := 3, state := .lost }) halone hmoving hrequest
    hr hst hlanding hfloor
  refine settle_event (b := .flp) (v := s.missed a { node with misses := 3, state := .lost }) hs ?_
    (hd.append (.notice _ (.nodeLost a .shutter))) (hn := by omega)
  refine (loopMissed_lost hpolled hnode hstate hmisses).trans ?_
  rw [hone, hkind]

end

/-- Settles O31: each cause of a first trip, the further causes, and the events that bring nothing. -/
theorem trips : Obligations.Trips := by
  refine ⟨fun s hs hnot hrequest halone => ?_, fun s hs hst r hr => ?_, fun s hs => ⟨fun h => ?_, fun h => ?_, fun h => ?_⟩⟩
  · intro c l windowed lost
    refine ⟨fun hst ht => ?_, fun hst ht => ?_, fun hst ht => ?_, fun hclosed => ?_, fun hknown hst hfar => ?_,
      fun hknown g hg carTag hwrong => ?_, fun hconf hspeed => ?_, fun hst hslow hspeed hrun => ?_,
      fun hst hzero hcount p hp hbraked hfouls => ?_,
      fun hmoving a ha node hnode hkind hstate hmisses n r hr hra hlanding hst honly hfloor => ?_,
      fun hst hconf hloop forward => ?_⟩
    · exact exec_trips id hs halone hnot hrequest (by decide) fun q =>
        if_pos (Bool.and_eq_true_iff.mpr ⟨decide_eq_true hst, ht⟩)
    · exact exec_trips id hs halone hnot hrequest (by decide) fun q =>
        (if_neg (by simp [show s.chn.homingTimer.isRunning = true from ht])).trans (if_pos hst)
    · exact exec_trips id hs halone hnot hrequest (by decide) fun q =>
        (if_neg (by simp [show s.chn.homingTimer.isRunning = true from ht])).trans
          ((if_neg (by simp [show s.chn.state = .creeping from hst])).trans (if_pos hst))
    · exact exec_trips (fun c => { c with safetyClosed := false }) hs halone hnot hrequest (by decide) fun q => if_pos hclosed
    · refine exec_trips_lost hs halone hnot hrequest (by decide) fun q => ?_
      have hknown' : s.chn.known = true := hknown
      exact (if_neg hst).trans ((if_neg (by simp [hknown'])).trans (if_neg (Nat.not_le.mpr hfar)))
    · refine exec_trips_lost hs halone hnot hrequest (by decide) fun q => ?_
      have hknown' : s.chn.known = true := hknown
      have hg' : s.chn.config.geometry = some g := hg
      unfold chainTag
      simp only [State.during_chn, hknown', hg']
      by_cases hfar : g.tagTolerance < circDist g.pitch s.chn.x g.tagReader
      · exact if_pos hfar
      · obtain ⟨last, hlast, hother⟩ := hwrong.resolve_left hfar
        have hlast' : s.chn.lastCar = some last := hlast
        refine (if_neg hfar).trans ?_
        simp only [hlast']
        exact if_neg hother
    · exact exec_trips Chain.windowed hs halone hnot hrequest (by decide) fun q => chainWindow_overspeed hconf hspeed q
    · have hthree : (s.onChn fun c => { c.windowed with stallRun := c.stallRun + 1 }) = windowed 3 :=
        State.onChn_congr (by simp only [Chain.windowed, show s.chn.stallRun = 2 from hrun])
      rw [← hthree]
      refine exec_trips (fun c => { c.windowed with stallRun := c.stallRun + 1 }) hs halone hnot hrequest (by decide)
        fun q => ?_
      exact (chainWindow_during s q fun _ => hspeed).trans (chainJudge_stalls (u := s.onChn Chain.windowed) hst hslow hrun)
    · refine exec_trips Chain.windowed hs halone hnot hrequest (by decide) fun q => ?_
      have hcount0 : s.chn.windowCount = 0 := hzero
      refine (chainWindow_during s q fun _ => by rw [hcount0]; exact Nat.zero_le _).trans ?_
      rw [hcount0]
      exact (chainJudge_stops (u := s.onChn Chain.windowed) (.inr hst) hp hbraked).trans
        (chainAccept_fails (u := s.onChn Chain.windowed) hp hst hcount hfouls)
    · have hcoil : r.faulted .nodeLost = { r.resting .fault with
          cause := some .nodeLost, observed := some r.position, faultCoil := true } := by
        simp [Shutter.faulted, Shutter.coilAfter, Shutter.outputs, hst, Shutter.resting, Shutter.quiet]
      rw [← hcoil]
      exact exec_pollMissed_landing hs halone hmoving hrequest ha hnode hkind hstate hmisses hr hra hlanding hst honly hfloor
    · intro x hfar
      have hcounted := Chain.counted_eq (c := s.chn) hloop forward
      have hx : (s.chn.counted forward).x = x := by rw [hcounted]
      have hsame : (s.onChn fun c => c.counted forward).tripped .brakeSlip =
          (s.onChn fun c => { c with x := x, windowCount := c.windowCount + 1, lastForward := forward }).tripped .brakeSlip := by
        obtain ⟨-, -, hsettles⟩ := s.alone_iff.mp halone
        rw [show (s.onChn fun c => c.counted forward) = _ from State.onChn_congr (g := fun _ => _) hcounted]
        exact (State.tripped_eq (u := s.onChn _) hsettles _).trans (State.tripped_eq (u := s.onChn fun c =>
          { c with x := x, windowCount := c.windowCount + 1, lastForward := forward }) hsettles .brakeSlip).symm
      rw [← hsame]
      exact exec_encoderCount_slips hs halone hrequest hst hconf hloop (by rw [hx]; exact hfar)
  · intro further
    refine ⟨fun hclosed => ?_, fun hconf hspeed => ?_⟩
    · refine settle_event_during (b := .chn) (v := s.onChn fun c =>
        { c with safetyClosed := false, trip := some (further .safetyChain) }) hs (fun q => ?_) (.notice _ _)
      refine (if_pos hclosed).trans ?_
      exact chainTrip_further (u := s.onChn fun c => { c with safetyClosed := false }) hst hr q
    · refine settle_event_during (b := .chn) (v := s.onChn fun c =>
        { c with lastWindow := some c.windowCount, windowCount := 0, trip := some (further .overspeed) }) hs (fun q => ?_)
        (.notice _ _)
      exact (chainWindow_overspeed hconf hspeed q).trans (chainTrip_further (u := s.onChn Chain.windowed) hst hr q)
  · refine settle_event_same .chn hs (if_neg fun hgo => ?_)
    obtain ⟨hst, ht⟩ := Bool.and_eq_true_iff.mp hgo
    rcases h with h | h
    · exact h (of_decide_eq_true hst)
    · rw [h] at ht
      cases ht
  · exact settle_event_same .chn hs (if_pos (by simp [h]))
  · exact settle_event_same .chn hs (if_neg (by simp [h]))

end Sys2Proof.Machine
end

section
/-! Requests admitted or given up as a slot comes free, or as the supply becomes STEADY (R8, R54, R69, R74). -/

namespace Sys2Proof.Machine

/-- A group with one more move, admitted last. -/
def Group.admitted (r : Group) (moves : List Move) (x : MoveRequest) : Group :=
  { r with queue := [], moves := moves ++ [⟨x.owner, x.kind, .running⟩] }

/-! ### A slot given back (R69) -/

/-- The owner's one move leaves its group without settle. -/
theorem Does.released {u : State} {g : Nat} {r : Group} {moves : List Move} {x : MoveRequest}
    (hr : u.sup.groups[g]? = some (r.admitted moves x))
    (hothers : ∀ k ≠ g, ∀ r ∈ u.sup.groups[k]?, ∀ m ∈ r.moves, m.owner ≠ x.owner) (hmoves : ∀ m ∈ moves, m.owner ≠ x.owner) :
    Does 2 [.sup (.released x.owner)] u (u.onSup fun p => { p with
      groups := p.groups.set g { r with queue := [], moves := moves }, order := p.order.filter (· ≠ x.owner) }) := by
  have hlt := (List.getElem?_eq_some_iff.mp hr).1
  have hactive : u.sup.activeIn x.owner = some g := by
    have hwhere : numbersWhere u.sup.groups (fun r => r.moves.any fun m => m.owner == x.owner && m.active) = [g] := by
      refine numbersWhere_eq_singleton fun k => ⟨fun ⟨y, hy, hany⟩ => ?_, fun hk => ?_⟩
      · by_contra hk
        obtain ⟨m, hm, hmove⟩ := List.any_eq_true.mp hany
        exact hothers k hk y hy m hm (beq_iff_eq.mp (Bool.and_eq_true_iff.mp hmove).1)
      · refine ⟨_, hk ▸ hr, ?_⟩
        simp [Group.admitted, Move.active]
    rw [Supply.activeIn, hwhere]
    rfl
  have hkept : (moves.filter fun m => !(m.owner == x.owner && m.active)) = moves :=
    List.filter_eq_self.mpr fun m hm => by simp [hmoves m hm]
  have hnext : (u.onSup fun p => { p.modify g fun r =>
      { r with moves := r.moves.filter fun m => !(m.owner == x.owner && m.active) } with
      order := p.order.filter fun o => o != x.owner }) =
      u.onSup fun p => { p with
        groups := p.groups.set g { r with queue := [], moves := moves }, order := p.order.filter (· ≠ x.owner) } := by
    simp only [State.onSup, Supply.modify, modify_eq_set hr, Group.admitted, List.filter_append, hkept]
    simp [Move.active, bne, beq_eq_decide]
  have hpass : Does 1 [.sup (.pass g)] (u.onSup fun p => { p with
      groups := p.groups.set g { r with queue := [], moves := moves }, order := p.order.filter (· ≠ x.owner) }) _ :=
    .pass_waits fun y hy => .inl (by
      obtain rfl := Option.some.inj ((List.getElem?_set_self hlt).symm.trans hy)
      rfl)
  refine .sup (m := .released x.owner) (ms := [.sup (.pass g)]) (f := fun p => { p.modify g fun r =>
      { r with moves := r.moves.filter fun m => !(m.owner == x.owner && m.active) } with
      order := p.order.filter fun o => o != x.owner }) (fun q => ?_) (by rw [hnext]; exact hpass)
  simp only [supplyTake, supplyReleased, State.during_sup, hactive]

/-! ### Raises given up (R54) -/

section
variable {u : State} {n : Nat} {q : Shutter}

theorem shutterAdmitted_abandons {reason : Reason} (hq : u.sht.get? n = some q) (hst : q.state = .waitSupply)
    (hreason : (fireLocked u.flr u.fir.condition q = true ∧ q.position = .bottom ∧ reason = .fireLock) ∨
      (fireLocked u.flr u.fir.condition q = false ∧ q.isLanding = true ∧ u.chn.state.moving = true ∧
        reason = .chainMoving)) (requests : List Request) :
    shutterAdmitted n (u.during requests []) = (u.onSht fun t => t.set n (some q.held)).during requests
      ([.sup (.released (.shutter n))] ++ alterMsgs n q q.held u.sht.permit ++ [.lnk (.notice (.raiseAbandoned n reason))]) := by
  set lock := fireLocked u.flr u.fir.condition q
  have hgiven : (lock || q.isLanding && u.chn.state.moving) = true ∧ (if lock then Reason.fireLock else .chainMoving) = reason := by
    rcases hreason with ⟨hlock, -, rfl⟩ | ⟨hlock, hlanding, hmoving, rfl⟩
    · simp [hlock]
    · simp [hlock, hlanding, hmoving]
  set v := (u.onSht fun t => t.set n (some q.held)).during requests
    ([.sup (.released (.shutter n))] ++ alterMsgs n q q.held u.sht.permit ++ [.lnk (.notice (.raiseAbandoned n reason))])
  have hdrop : shutterFireDrop n v = v := by
    have hq' : v.sht.get? n = some q.held := Shutters.get?_set_self hq _
    unfold shutterFireDrop
    rw [hq']
    refine if_neg fun h => ?_
    obtain ⟨hup, hlocked⟩ := Bool.and_eq_true_iff.mp h
    rcases hreason with ⟨-, hpos, -⟩ | ⟨hlock, -⟩
    · rw [q.held_state, Shutter.stillState, hpos] at hup
      simp at hup
    · rw [show fireLocked v.flr v.fir.condition q.held = lock from rfl, hlock] at hlocked
      cases hlocked
  have hchange : shutterChange n (fun r => r.goTo r.stillState) ((u.during requests []).post [.sup (.released (.shutter n))]) =
      (u.onSht fun t => t.set n (some q.held)).during requests
        ([.sup (.released (.shutter n))] ++ alterMsgs n q q.held u.sht.permit) := by
    refine (shutterChange_eq (s := (u.during requests []).post _) hq _).trans ?_
    rw [q.goTo_still]
    rfl
  have hwaits : ¬ (q.state != .waitSupply) = true := by simp [hst]
  unfold shutterAdmitted
  simp only [State.during_sht, hq]
  refine (if_neg hwaits).trans ((if_pos hgiven.1).trans ?_)
  refine (congrArg (fun t : State => shutterFireDrop n (t.notify _)) hchange).trans ?_
  refine Eq.trans ?_ hdrop
  refine congrArg (shutterFireDrop n) ?_
  rw [State.during_notify]
  exact congrArg (fun reason => State.during _ _ (_ ++ [.lnk (.notice (.raiseAbandoned n reason))])) hgiven.2

/-- A raise that is given up as it is admitted: the shutter is held where its limits show it. -/
theorem Does.admitted_abandons {g : Nat} {r : Group} {moves : List Move} {reason : Reason} (hq : u.sht.get? n = some q)
    (hst : q.state = .waitSupply)
    (hreason : (fireLocked u.flr u.fir.condition q = true ∧ q.position = .bottom ∧ reason = .fireLock) ∨
      (fireLocked u.flr u.fir.condition q = false ∧ q.isLanding = true ∧ u.chn.state.moving = true ∧ reason = .chainMoving))
    (hfloor : u.flr.waitsFor q.config.floor = false)
    (hr : u.sup.groups[g]? = some (r.admitted moves ⟨.shutter n, .raise⟩))
    (hothers : ∀ k ≠ g, ∀ r ∈ u.sup.groups[k]?, ∀ m ∈ r.moves, m.owner ≠ .shutter n)
    (hmoves : ∀ m ∈ moves, m.owner ≠ .shutter n) : ∃ k ≤ 6, Does k [.sht (.admitted n)] u
      (({ u with
        sht := u.sht.set n (some q.held)
        sup := { u.sup with
          groups := u.sup.groups.set g { r with queue := [], moves := moves }
          order := u.sup.order.filter (· ≠ MoveOwner.shutter n) } }).noticed (.raiseAbandoned n reason)) := by
  set v := u.onSht fun t => t.set n (some q.held)
  have hreleased := Does.released (u := v) (x := ⟨.shutter n, .raise⟩) hr hothers hmoves
  set w := v.onSup fun p => { p with
    groups := p.groups.set g { r with queue := [], moves := moves }, order := p.order.filter (· ≠ MoveOwner.shutter n) }
  have hheld : (q.held.state == .fault) = false := by
    rw [q.held_state, Shutter.stillState]
    cases q.position <;> rfl
  obtain ⟨k, hk, hreport⟩ := Does.altered (u := w) (n := n) (old := q) (r := q.held) (permitted := u.sht.permit)
    (iff_of_false (by simp [hst]) q.held_state_ne_awaitClear)
    (fun _ => by
      rw [hheld]
      exact .landingChanged_of_set hq (fun _ => .inl (by rw [hst]; rfl)) rfl)
    (.floorChanged_idle (u := w) hfloor _ _)
  exact ⟨1 + (2 + k + 1), by omega, .sht (m := .admitted n) (f := fun t => t.set n (some q.held))
    (fun requests => shutterAdmitted_abandons hq hst hreason requests) ((hreleased.append hreport).append (.notice w _))⟩

end

/-! ### Chain moves given up (R8) -/

/-- A chain move that is admitted without run permission is given up. -/
theorem Does.admitted_gives_up {u : State} {g : Nat} {r : Group} {moves : List Move} {kind : ChainMove}
    (hpermission : runPermission u.chn u.sht = false)
    (hr : u.sup.groups[g]? = some (r.admitted moves ⟨.chain, .chain kind⟩))
    (hothers : ∀ k ≠ g, ∀ r ∈ u.sup.groups[k]?, ∀ m ∈ r.moves, m.owner ≠ .chain)
    (hmoves : ∀ m ∈ moves, m.owner ≠ .chain) : Does 4 [.chn (.admitted kind)] u
      (({ u with
        chn := { u.chn with request := none, creepSet := [] }
        sup := { u.sup with
          groups := u.sup.groups.set g { r with queue := [], moves := moves }
          order := u.sup.order.filter (· ≠ MoveOwner.chain) } }).noticed (.abandoned kind)) := by
  have habandon (q : List Request) : chainAdmitted kind (u.during q []) =
      (u.onChn fun c => { c with request := none, creepSet := [] }).during q
        [.lnk (.notice (.abandoned kind)), .sup (.released .chain)] := by
    have hno : ¬ runPermission u.chn u.sht = true := by simp [hpermission]
    cases kind with
    | start => exact if_neg fun h => hno (Bool.and_eq_true_iff.mp (Bool.and_eq_true_iff.mp h).1).1
    | creep => exact if_neg hno
    | home => exact if_neg hno
    | inspect => exact if_neg fun h => hno (Bool.and_eq_true_iff.mp h).1
  set v := u.onChn fun c => { c with request := none, creepSet := [] }
  have hreleased := Does.released (u := v.noticed (.abandoned kind)) (x := ⟨.chain, .chain kind⟩) hr hothers hmoves
  exact .chn (m := .admitted kind) (f := fun c => { c with request := none, creepSet := [] })
    (fun q => habandon q) ((Does.notice v (.abandoned kind)).cons hreleased)

/-- Settles O40: the raise admitted and given up, the chain move given up and admitted, and the pass at STEADY. -/
theorem admissionAndAbandon : Obligations.AdmissionAndAbandon := by
  constructor
  · intro s g owner before after left kind hs hsteady hbefore r hr hmoves hroom left'
    have hlt := (List.getElem?_eq_some_iff.mp hr).1
    have hgroup (x : MoveRequest) : (s.onSup fun u => { u with
        groups := u.groups.set g (r.admitted (before ++ after) x), order := u.order ++ [x.owner] }).sup.groups[g]? =
        some (r.admitted (before ++ after) x) := List.getElem?_set_self hlt
    have hothers {o : MoveOwner} (x : MoveRequest) (hnone : ∀ k ∈ s.sup.groups, ∀ m ∈ k.moves, m.owner ≠ o) :
        ∀ k ≠ g, ∀ y ∈ (s.sup.groups.set g (r.admitted (before ++ after) x))[k]?, ∀ m ∈ y.moves, m.owner ≠ o := by
      intro k hk y hy
      exact hnone y (List.mem_of_getElem? ((List.getElem?_set_ne hk.symm).symm.trans hy))
    have hrest {o : MoveOwner} (hnone : ∀ k ∈ s.sup.groups, ∀ m ∈ k.moves, m.owner ≠ o) :
        ∀ m ∈ before ++ after, m.owner ≠ o := by
      intro m hm
      refine hnone r (List.mem_of_getElem? hr) m ?_
      rw [hmoves]
      simp only [List.mem_append, List.mem_cons] at hm ⊢
      exact hm.imp_right .inr
    have hempty (moves : List Move) (y : Group)
        (hy : y ∈ (s.sup.groups.set g { r with queue := [], moves := moves })[g]?) : y.queue = [] := by
      obtain rfl := Option.some.inj ((List.getElem?_set_self hlt).symm.trans hy)
      rfl
    have hback (x : MoveRequest) : ({ s.sup with
        groups := (s.sup.groups.set g (r.admitted (before ++ after) x)).set g { r with queue := [], moves := before ++ after }
        order := (s.sup.order ++ [x.owner]).filter (· ≠ x.owner) } : Supply) =
        { left' [] with order := s.sup.order.filter (· ≠ x.owner) } := by
      simp [left', List.set_set, List.filter_append]
    have habandons (n : Nat) (q : Shutter) (reason : Reason) (hq : s.sht.get? n = some q)
        (hqueue : r.queue = [⟨.shutter n, .raise⟩]) (hst : q.state = .waitSupply) (hrefused : s.chn.creepRefused = false)
        (hnone : ∀ k ∈ s.sup.groups, ∀ m ∈ k.moves, m.owner ≠ .shutter n) (hfloor : s.flr.waitsFor q.config.floor = false)
        (hreason : (fireLocked s.flr s.fir.condition q = true ∧ q.position = .bottom ∧ reason = .fireLock) ∨
          (fireLocked s.flr s.fir.condition q = false ∧ q.isLanding = true ∧ s.chn.state.moving = true ∧
            reason = .chainMoving)) :
        exec (.settleExpiry g owner) s = .next
          ({ s with
              sht := s.sht.set n (some q.held)
              sup := { left' [] with order := s.sup.order.filter (· ≠ MoveOwner.shutter n) } }.noticed
            (.raiseAbandoned n reason)) := by
      obtain ⟨k, hk, hd⟩ := Does.admitted_abandons (u := s.onSup fun u => { u with
        groups := u.groups.set g (r.admitted (before ++ after) ⟨.shutter n, .raise⟩), order := u.order ++ [.shutter n] })
        hq hst hreason hfloor (hgroup ⟨.shutter n, .raise⟩) (hothers _ hnone) (hrest hnone)
      refine exec_settleExpiry_admits hs hr hqueue hmoves hbefore hsteady hroom (n := k) ?_ (.inr hrefused)
        (hempty _) (by omega)
      exact Eq.mp (congrArg (fun p : Supply => Does k [.sht (.admitted n)] (s.onSup fun u => { u with
        groups := u.groups.set g (r.admitted (before ++ after) ⟨.shutter n, .raise⟩), order := u.order ++ [.shutter n] })
        ({ s with sht := s.sht.set n (some q.held), sup := p }.noticed (.raiseAbandoned n reason)))
        (hback ⟨.shutter n, .raise⟩)) hd
    refine ⟨fun n q hq hqueue hst hrefused => ⟨fun hlock hstill => ?_, fun hnone hfloor => ⟨fun hlanding hmoving hlock => ?_,
      fun hpos hlock => ?_⟩⟩, fun move hqueue hpermission hnone => ?_, fun hqueue halone hst hsafety hpermit hclear => ?_⟩
    · obtain ⟨k, hk, hd⟩ := Does.admitted_raises (u := s.onSup fun u => { u with
        groups := u.groups.set g (r.admitted (before ++ after) ⟨.shutter n, .raise⟩)
        order := u.order ++ [.shutter n] }) hq hst hlock hstill
      exact exec_settleExpiry_admits hs hr hqueue hmoves hbefore hsteady hroom hd (.inr hrefused)
        (hempty _) (by omega)
    · exact habandons n q .chainMoving hq hqueue hst hrefused hnone hfloor (.inr ⟨hlock, hlanding, hmoving, rfl⟩)
    · exact habandons n q .fireLock hq hqueue hst hrefused hnone hfloor (.inl ⟨hlock, hpos, rfl⟩)
    · have hd := Does.admitted_gives_up (u := s.onSup fun u => { u with
        groups := u.groups.set g (r.admitted (before ++ after) ⟨.chain, .chain move⟩), order := u.order ++ [.chain] })
        hpermission (hgroup ⟨.chain, .chain move⟩) (hothers _ hnone) (hrest hnone)
      refine exec_settleExpiry_admits hs hr hqueue hmoves hbefore hsteady hroom (n := 4) ?_ (.inl rfl) (hempty _) (by norm_num)
      exact Eq.mp (congrArg (fun p : Supply => Does 4 [.chn (.admitted move)] (s.onSup fun u => { u with
        groups := u.groups.set g (r.admitted (before ++ after) ⟨.chain, .chain move⟩), order := u.order ++ [.chain] })
        ({ s with chn := { s.chn with request := none, creepSet := [] }, sup := p }.noticed (.abandoned move)))
        (hback ⟨.chain, .chain move⟩)) hd
    · obtain ⟨hprogramme, hfire, -⟩ := s.alone_iff.mp halone
      have hcondition : (s.fir.condition == .normal) = true := beq_iff_eq.mpr (s.peaceful_iff.mp hfire).1
      have hpermission : startPermission s.chn s.sht s.fir.condition = true := by
        rcases hst with h | h <;> simp [startPermission, runPermission, h, hsafety, hpermit, hclear, hcondition]
      obtain ⟨k, hk, hd⟩ := Does.admitted_start (u := s.onSup fun u => { u with
        groups := u.groups.set g (r.admitted (before ++ after) ⟨.chain, .chain .start⟩), order := u.order ++ [.chain] })
        hpermission hprogramme hfire
      exact exec_settleExpiry_admits hs hr hqueue hmoves hbefore hsteady hroom hd (.inl rfl) (hempty _) (by omega)
  · intro s g n hs hlength hmode ht holdest hrefused r hr hqueue hroom hrest q hq hst hlock hstill
    set v := (s.onSup fun u => { u with mode := .steady, restartTimer := .stopped }).noticed .supplyRestored
    set r' : Group := { r with queue := [], moves := r.moves ++ [⟨.shutter n, .raise, .running⟩] }
    set u := v.onSup fun p => { p.modify g fun r =>
      { r with queue := [], moves := r.moves ++ [⟨.shutter n, .raise, .running⟩] } with order := p.order ++ [.shutter n] } with hu
    set w := u.onSht fun t => t.set n (some { q.resting .raising with raiseTimer := Timer.start q.config.raise })
    have hlt := (List.getElem?_eq_some_iff.mp hr).1
    have hgroups : w.sup.groups = s.sup.groups.set g r' := by
      simp only [w, hu, State.onSht_sup, State.onSup_sup, Supply.modify]
      exact modify_eq_set hr _
    have hself : ∀ y ∈ w.sup.groups[g]?, y.queue = [] := by
      intro y hy
      rw [hgroups] at hy
      obtain rfl := Option.some.inj ((List.getElem?_set_self hlt).symm.trans hy)
      rfl
    obtain ⟨l₁, l₂, hrange⟩ := List.append_of_mem (List.mem_range.mpr hlt)
    have hnodup : (g :: (l₁ ++ l₂)).Nodup := List.nodup_middle.mp (hrange ▸ List.nodup_range)
    have hother {k : Nat} (hk : k ∈ l₁ ++ l₂) : k < s.sup.groups.length ∧ k ≠ g := by
      refine ⟨List.mem_range.mp ?_, ?_⟩
      · rw [hrange]
        simp only [List.mem_append, List.mem_cons] at hk ⊢
        exact hk.imp_right .inr
      · rintro rfl
        exact (List.nodup_cons.mp hnodup).1 hk
    have hbefore : Does l₁.length (l₁.map fun k => .sup (.pass k)) v v := .passes fun k hk y hy => by
      obtain ⟨hlen, hne⟩ := hother (List.mem_append_left _ hk)
      exact hrest k hlen hne y hy
    have hafter : Does l₂.length (l₂.map fun k => .sup (.pass k)) w w := .passes fun k hk y hy => by
      obtain ⟨hlen, hne⟩ := hother (List.mem_append_right _ hk)
      rw [hgroups, List.getElem?_set_ne hne.symm] at hy
      exact hrest k hlen hne y hy
    obtain ⟨i, hi, hstarts⟩ := Does.admitted_raises (u := u) hq hst hlock hstill
    obtain ⟨j, hj, hmoved⟩ := Does.queueMovedMsgs_free (u := w) hrefused v (.shutter n) g
    have hpass : Does (1 + (i + j + 1)) [.sup (.pass g)] v w :=
      .pass_admits (x := ⟨.shutter n, .raise⟩) (rest := []) hr hqueue rfl hroom
        ((hstarts.append hmoved).append (.pass_waits fun y hy => .inl (hself y hy)))
    have hcount : l₁.length + l₂.length < 8 := by
      have := congrArg List.length hrange
      simp only [List.length_range, List.length_append, List.length_cons, hlength] at this
      omega
    have hsteady := supplyRestartExpiry_steady hmode ht holdest
    rw [hrange, List.map_append, List.map_cons] at hsteady
    have hexec : exec .restartTimerExpiry s = .next w :=
      settle_event (b := .sup) hs hsteady ((Does.notice _ _).append (hbefore.append (hpass.cons hafter))) (hn := by omega)
    have hsup : w.sup = { s.sup with
        mode := .steady, restartTimer := .stopped, order := s.sup.order ++ [MoveOwner.shutter n]
        groups := s.sup.groups.set g r' } := by
      rw [← hgroups]
      rfl
    have hnoticed : w = ({ s with
        sht := s.sht.set n (some { q.resting .raising with raiseTimer := Timer.start q.config.raise })
        sup := w.sup }.noticed .supplyRestored) := by
      simp only [w, hu, v, State.noticed_onSup, State.noticed_onSht]
      rfl
    rw [hexec, hnoticed, hsup]

end Sys2Proof.Machine
end

section
/-! SUPPORT. The call dispatcher's records, its search, and a round that arrives at the sounder line (chapter 7). -/

namespace Sys2Proof.Machine

/-! ### The call list -/

section
variable {c : Calls} {r : Call} {before after : List Call}

theorem Calls.call?_split (h : c.calls = before ++ r :: after) (hone : ∀ x ∈ before ++ after, x.number ≠ r.number) :
    c.call? r.number = some r := by
  have hbefore : before.find? (fun x => x.number == r.number) = none :=
    List.find?_eq_none.mpr fun x hx => by simpa using hone x (List.mem_append_left _ hx)
  rw [Calls.call?, h, List.find?_append, hbefore, Option.none_or]
  exact List.find?_cons_of_pos (by simp)

theorem Calls.call?_none {n : Nat} (h : ∀ x ∈ c.calls, x.number ≠ n) : c.call? n = none :=
  List.find?_eq_none.mpr fun x hx => by simpa using h x hx

theorem Calls.mapCall_split (h : c.calls = before ++ r :: after) (hone : ∀ x ∈ before ++ after, x.number ≠ r.number)
    (f : Call → Call) : c.mapCall r.number f = { c with calls := before ++ f r :: after } := by
  have hkeep {l : List Call} (hl : ∀ x ∈ l, x.number ≠ r.number) :
      (l.map fun x => if x.number = r.number then f x else x) = l :=
    (List.map_congr_left fun x hx => if_neg (hl x hx)).trans (List.map_id _)
  unfold Calls.mapCall
  rw [h, List.map_append, List.map_cons, if_pos rfl, hkeep fun x hx => hone x (List.mem_append_left _ hx),
    hkeep fun x hx => hone x (List.mem_append_right _ hx)]

theorem Calls.mapStation_eq {n : Nat} {st : Station} (h : c.station? n = some st) (f : Station → Station) :
    c.mapStation n f = { c with stations := c.stations.set n (some (f st)) } := by
  unfold Calls.mapStation
  rw [modify_eq_set (present?_eq_some.mp h)]
  rfl

end

/-! ### The search for a member (R121) -/

theorem Calls.isFree_iff {c : Calls} {m : Nat} : c.isFree m = true ↔
    ∃ x, c.staff[m]? = some x ∧ x.onDuty = true ∧ x.assigned = none := by
  simp [Calls.isFree, Option.any_eq_true]

/-- A place of the ring and its member. -/
def Team.entry (t : Team) (j : Nat) : Option (Nat × Nat) :=
  (t.ring[(t.pointer + j) % t.ring.length]?).map fun m => ((t.pointer + j) % t.ring.length, m)

theorem Calls.search_eq (c : Calls) (t : Team) :
    c.search t = ((List.range t.ring.length).filterMap t.entry).find? fun pm => c.isFree pm.2 := by
  unfold Calls.search
  dsimp only
  rw [List.filterMap_map]
  rfl

theorem Calls.search_none {c : Calls} {t : Team} (h : ∀ m ∈ t.ring, c.isFree m = false) : c.search t = none := by
  rw [c.search_eq t]
  refine List.find?_eq_none.mpr fun pm hpm => ?_
  obtain ⟨j, -, hj⟩ := List.mem_filterMap.mp hpm
  obtain ⟨m, hm, rfl⟩ := Option.map_eq_some_iff.mp hj
  simp [h m (List.mem_of_getElem? hm)]

theorem Calls.search_firstFree {c : Calls} {t : Team} {k member : Nat} (h : c.firstFree t k member = true) :
    c.search t = some ((t.pointer + k) % t.ring.length, member) := by
  simp only [Calls.firstFree, Bool.and_eq_true, decide_eq_true_eq, beq_iff_eq, List.all_eq_true, List.mem_range] at h
  obtain ⟨⟨⟨hk, hentry⟩, hfree⟩, hothers⟩ := h
  obtain ⟨d, hd⟩ := Nat.exists_eq_add_of_lt hk
  have hrange : List.range t.ring.length = List.range k ++ k :: (List.range d).map (k + 1 + ·) := by
    rw [hd, Nat.add_assoc, List.range_add, List.range_succ_eq_map, List.map_cons, List.map_map]
    refine congrArg (fun l => List.range k ++ k :: l) (List.map_congr_left fun j _ => ?_)
    simp only [Function.comp_apply]
    omega
  rw [c.search_eq t, hrange, List.filterMap_append, List.find?_append]
  have hbefore : ((List.range k).filterMap t.entry).find? (fun pm => c.isFree pm.2) = none := by
    refine List.find?_eq_none.mpr fun pm hpm => ?_
    obtain ⟨j, hj, hj'⟩ := List.mem_filterMap.mp hpm
    obtain ⟨m, hm, rfl⟩ := Option.map_eq_some_iff.mp hj'
    have hnot := hothers j (List.mem_range.mp hj)
    rw [hm] at hnot
    simpa using hnot
  have hhere : t.entry k = some ((t.pointer + k) % t.ring.length, member) := by rw [Team.entry, hentry]; rfl
  rw [hbefore, Option.none_or, List.filterMap_cons_some hhere]
  exact List.find?_cons_of_pos hfree

/-! ### The reports on a call's sounding (R123) -/

section
variable {u : State} {r : Call} {before after : List Call}

theorem Does.report_queued (h : u.cal.calls = before ++ r :: after) (hone : ∀ x ∈ before ++ after, x.number ≠ r.number) :
    Does 1 [.cal (.report r.number .queued)] u
      (u.onCal fun c => { c with calls := before ++ { r with phase := .queued } :: after }) :=
  .cal (ms := []) (f := fun c => { c with calls := before ++ { r with phase := .queued } :: after }) (fun q => by
    have hcall : u.cal.call? r.number = some r := Calls.call?_split h hone
    simp only [callTake, callReport, State.during_cal, hcall]
    exact (State.onCal_congr (Calls.mapCall_split h hone _)).trans (State.post_nil _).symm) (.nil _)

/-- A call that is not URGENT starts to sound. -/
theorem Does.report_started (h : u.cal.calls = before ++ r :: after) (hone : ∀ x ∈ before ++ after, x.number ≠ r.number)
    (hcls : r.cls ≠ .urgent) : Does 1 [.cal (.report r.number .started)] u
      (u.onCal fun c => { c with calls := before ++ { r with phase := .sounding } :: after }) :=
  .cal (ms := []) (f := fun c => { c with calls := before ++ { r with phase := .sounding } :: after }) (fun q => by
    have hcall : u.cal.call? r.number = some r := Calls.call?_split h hone
    have hspend (c : Calls) : c.spend r = c := by
      unfold Calls.spend
      split
      · exact absurd ‹_› hcls
      · rfl
    simp only [callTake, callReport, State.during_cal, hcall, hspend]
    exact (State.onCal_congr (Calls.mapCall_split h hone _)).trans (State.post_nil _).symm) (.nil _)

/-! ### A round that arrives at an empty queue (R102, R103) -/

/-- The sounding of a round. -/
def Sounder.round (v : Sounder) (cls : SoundClass) (pattern : Nat) (zones : List Nat) (repeats number team : Nat) : Sounding :=
  { v.cue pattern zones repeats (.call number team) with cls := cls }

variable {cls : SoundClass} {pattern repeats : Nat} {zones : List Nat}

theorem soundNew_round (hq : u.snd.queue = []) (number team : Nat) (q : List Request) :
    soundNew cls pattern zones repeats (.call number team) (u.during q []) =
      (u.onSnd fun v =>
        { v with queue := [v.round cls pattern zones repeats number team], nextStamp := v.nextStamp + 1 }).during q
        [.cal (.report number .queued), .snd .startPass] :=
  (soundNew_empty (s := u.during q []) hq ..).trans rfl

/-- The team of a round that starts moves to the back; no other waits (R104). -/
theorem Sounder.moveTeam_round {v : Sounder} {x : Sounding} {number team : Nat} (hcall : x.cls.isCall = true)
    (horigin : x.origin = .call number team) (hq : v.queue = []) : v.moveTeam x =
      { v with teamOrder := (v.teamOrder.filter fun t => t != team) ++ v.teamOrder.filter fun t => t == team } := by
  unfold Sounder.moveTeam
  rw [hcall, horigin]
  dsimp only
  rw [hq]
  rfl

theorem Sounder.rung_empty {v : Sounder} (hq : v.queue = []) {number team : Nat} :
    v.rung cls pattern zones repeats number team =
      { v with
        queue := [], playing := v.playing ++ [v.begun (v.round cls pattern zones repeats number team)]
        teamOrder := (v.teamOrder.filter fun t => t != team) ++ v.teamOrder.filter fun t => t == team
        nextStamp := v.nextStamp + 1 } := by
  cases v
  cases hq
  rfl

/-- The zones are held: the round waits. -/
theorem Does.round_waits (h : u.cal.calls = before ++ r :: after) (hone : ∀ x ∈ before ++ after, x.number ≠ r.number)
    (hq : u.snd.queue = []) (hbusy : u.snd.free zones = false) :
    Does 3 [.snd (.arrive cls pattern zones repeats (.call r.number r.team))] u
      ((u.onCal fun c => { c with calls := before ++ { r with phase := .queued } :: after }).onSnd fun v =>
        { v with queue := [v.round cls pattern zones repeats r.number r.team], nextStamp := v.nextStamp + 1 }) := by
  set x := u.snd.round cls pattern zones repeats r.number r.team
  set v := u.onSnd fun v => { v with queue := [x], nextStamp := v.nextStamp + 1 }
  have hqueued := Does.report_queued (u := v) h hone
  set w := v.onCal fun c => { c with calls := before ++ { r with phase := .queued } :: after }
  have hwaits : Does 1 [.snd .startPass] w w := .startPass_waits fun y hy => by
    obtain rfl := List.mem_singleton.mp hy
    have hnot : w.snd.zonesFree zones = false := by
      rw [Bool.eq_false_iff, ne_eq, Sounder.zonesFree_iff]
      exact Bool.eq_false_iff.mp hbusy
    exact Bool.and_eq_false_imp.mpr fun hgo => absurd hgo (Bool.eq_false_iff.mp hnot)
  exact .snd (m := .arrive cls pattern zones repeats (.call r.number r.team))
    (f := fun v => { v with queue := [v.round cls pattern zones repeats r.number r.team], nextStamp := v.nextStamp + 1 })
    (fun q => soundNew_round hq r.number r.team q) (hqueued.cons hwaits)

/-- The zones are free, and no reservation stands in the way: the round sounds at once. -/
theorem Does.rings (h : u.cal.calls = before ++ r :: after) (hone : ∀ x ∈ before ++ after, x.number ≠ r.number)
    (hcls : r.cls ≠ .urgent) (hcall : cls.isCall = true) (hq : u.snd.queue = []) (hres : u.snd.reservations = [])
    (hfree : u.snd.free zones = true) : Does 5 [.snd (.arrive cls pattern zones repeats (.call r.number r.team))] u
      ((u.onCal fun c => { c with calls := before ++ { r with phase := .sounding } :: after }).onSnd fun v =>
        v.rung cls pattern zones repeats r.number r.team) := by
  set x := u.snd.round cls pattern zones repeats r.number r.team
  set v := u.onSnd fun v => { v with queue := [x], nextStamp := v.nextStamp + 1 }
  have hqueued := Does.report_queued (u := v) h hone
  set w := v.onCal fun c => { c with calls := before ++ { r with phase := .queued } :: after }
  have hcan : w.snd.canStart x = true := by
    have hzones : w.snd.zonesFree zones = true := (Sounder.zonesFree_iff ..).mpr hfree
    have hclears : w.snd.clearsReservations x = true := by
      rw [Sounder.clearsReservations, show w.snd.reservations = [] from hres]
      rfl
    rw [Sounder.canStart, show w.snd.zonesFree x.zones = true from hzones, hclears, Bool.or_true]
    rfl
  set t := w.onSnd fun v => { v with
    queue := [], playing := v.playing ++ [v.begun x]
    teamOrder := (v.teamOrder.filter fun t => t != r.team) ++ v.teamOrder.filter fun t => t == r.team }
  have hstarted := Does.report_started (u := t) (r := { r with phase := .queued }) rfl hone hcls
  set z := t.onCal fun c => { c with calls := before ++ { r with phase := .sounding } :: after }
  have hstarts : Does (1 + (1 + 1)) [.snd .startPass] w z := by
    refine .snd (m := .startPass) (ms := [.cal (.report r.number .started), .snd .startPass]) (f := fun v => { v with
      queue := [], playing := v.playing ++ [v.begun x]
      teamOrder := (v.teamOrder.filter fun t => t != r.team) ++ v.teamOrder.filter fun t => t == r.team }) (fun q => ?_)
      (hstarted.cons (.startPass_empty rfl))
    refine (soundStartPass_starts (s := w.during q []) rfl hcan).trans ?_
    exact congrArg (State.post · _) (State.onSnd_congr (Sounder.moveTeam_round (number := r.number) hcall rfl rfl))
  have hend : z = (u.onCal fun c => { c with calls := before ++ { r with phase := .sounding } :: after }).onSnd fun v =>
      v.rung cls pattern zones repeats r.number r.team := by
    refine congrArg (fun p => ({ u with
      cal := { u.cal with calls := before ++ { r with phase := .sounding } :: after }, snd := p } : State)) ?_
    exact (Sounder.rung_empty hq).symm
  rw [← hend]
  exact .snd (m := .arrive cls pattern zones repeats (.call r.number r.team))
    (f := fun v => { v with queue := [v.round cls pattern zones repeats r.number r.team], nextStamp := v.nextStamp + 1 })
    (fun q => soundNew_round hq r.number r.team q) (hqueued.cons hstarts)

end

end Sys2Proof.Machine
end

section
/-! Rounds, dispatch, PLACE CALL and CANCEL CALL (R118 to R123). -/

namespace Sys2Proof.Machine

section
variable {u : State} {r : Call} {before after : List Call} {q : List Request} {ms : List Msg}

/-- The class of a call's round. -/
def Call.roundClass (r : Call) : SoundClass := if r.cls = .normal then .callNormal else .callUrgent

theorem Call.roundClass_isCall (r : Call) : r.roundClass.isCall = true := by
  unfold Call.roundClass
  split <;> rfl

/-- The round of a call that is requested at the sounder line. -/
def State.roundMsg (u : State) (r : Call) : Msg :=
  .snd (.arrive r.roundClass (u.cal.roundPattern r) (u.flr.zones (u.cal.floorOf r)) u.cal.timing.repeats r.soundOrigin)

theorem callRound_during (h : u.cal.calls = before ++ r :: after) (hone : ∀ x ∈ before ++ after, x.number ≠ r.number) :
    callRound r.number (u.during q ms) =
      (u.onCal fun c => { c with calls := before ++ { r with phase := .queued, roundTimer := .stopped } :: after }).during q
        (ms ++ [u.roundMsg r]) := by
  have hcall : u.cal.call? r.number = some r := Calls.call?_split h hone
  unfold callRound
  simp only [State.during_cal, State.during_flr, hcall, State.during_onCal, State.during_post]
  exact congrArg (State.during · q _) (State.onCal_congr (Calls.mapCall_split h hone _))

theorem callDispatch_unassigned (h : u.cal.calls = before ++ r :: after) (hone : ∀ x ∈ before ++ after, x.number ≠ r.number)
    (hsearch : (u.cal.teams[r.team]?).bind u.cal.search = none) : callDispatch false r.number (u.during q ms) =
      (u.onCal fun c => { c with calls := before ++ { r with phase := .unassigned } :: after }).during q
        (ms ++ [.lnk (.notice (.callUnassigned r.number r.team))]) := by
  have hcall : u.cal.call? r.number = some r := Calls.call?_split h hone
  unfold callDispatch
  simp only [State.during_cal, hcall, hsearch, State.during_onCal, State.during_notify, Bool.false_eq_true, if_false]
  exact congrArg (State.during · q _) (State.onCal_congr (Calls.mapCall_split h hone _))

/-- The call list, the staff and the team after a call has gone to its member. -/
def Calls.assigned (c : Calls) (before after : List Call) (r : Call) (t : Team) (place member : Nat) (m : Staff)
    (phase : CallPhase) : Calls :=
  { c with
    calls := before ++ { r with member := some member, phase := phase, roundTimer := .stopped } :: after
    staff := c.staff.set member { m with assigned := some r.number }
    teams := c.teams.set r.team { t with pointer := (place + 1) % t.ring.length } }

theorem callDispatch_assigns {t : Team} {place member : Nat} {m : Staff} {again : Bool}
    (h : u.cal.calls = before ++ r :: after) (hone : ∀ x ∈ before ++ after, x.number ≠ r.number)
    (ht : u.cal.teams[r.team]? = some t) (hsearch : u.cal.search t = some (place, member))
    (hm : u.cal.staff[member]? = some m) (hown : r.isOwn = true) : callDispatch again r.number (u.during q ms) =
      (u.onCal fun c => c.assigned before after r t place member m .queued).during q
        (ms ++ [.lnk (.notice (.callAssigned r.number member)),
          .snd (.arrive r.roundClass m.pattern (u.flr.zones (u.cal.floorOf r)) u.cal.timing.repeats r.soundOrigin)]) := by
  have hcall : u.cal.call? r.number = some r := Calls.call?_split h hone
  have hassign : u.cal.assign r.number r.team place member =
      { u.cal with
        calls := before ++ { r with member := some member } :: after
        staff := u.cal.staff.set member { m with assigned := some r.number }
        teams := u.cal.teams.set r.team { t with pointer := (place + 1) % t.ring.length } } := by
    unfold Calls.assign
    rw [Calls.mapCall_split h hone, modify_eq_set hm, modify_eq_set ht]
  set v := u.onCal fun c => { c with
    calls := before ++ { r with member := some member } :: after
    staff := c.staff.set member { m with assigned := some r.number }
    teams := c.teams.set r.team { t with pointer := (place + 1) % t.ring.length } }
  have hmember : v.cal.staff[member]? = some { m with assigned := some r.number } :=
    List.getElem?_set_self (List.getElem?_eq_some_iff.mp hm).1
  have hpattern : v.cal.roundPattern { r with member := some member } = m.pattern := by
    have hown' : ({ r with member := some member } : Call).isOwn = true := hown
    simp only [Calls.roundPattern, hown', if_true, Option.bind_some, hmember, Option.map_some, Option.getD_some]
  have hround := callRound_during (u := v) (r := { r with member := some member }) (q := q)
    (ms := ms ++ [.lnk (.notice (.callAssigned r.number member))]) rfl hone
  unfold callDispatch
  simp only [State.during_cal, hcall, ht, Option.bind_some, hsearch, State.during_onCal, State.during_notify]
  refine (congrArg (fun s : State => callRound r.number (s.during q _)) (State.onCal_congr hassign)).trans (hround.trans ?_)
  rw [List.append_assoc]
  unfold State.roundMsg
  rw [hpattern]
  rfl

/-- A NORMAL call that has gone to its member rings at once. -/
theorem Does.assigned {t : Team} {place member pattern repeats : Nat} {zones : List Nat} {m : Staff}
    (hone : ∀ x ∈ before ++ after, x.number ≠ r.number) (hcls : r.cls = .normal) (hq : u.snd.queue = [])
    (hres : u.snd.reservations = []) (hfree : u.snd.free zones = true) :
    Does 6 [.lnk (.notice (.callAssigned r.number member)), .snd (.arrive r.roundClass pattern zones repeats r.soundOrigin)]
      (u.onCal fun c => c.assigned before after r t place member m .queued)
      (((u.onCal fun c => c.assigned before after r t place member m .sounding).onSnd fun v =>
        v.rung .callNormal pattern zones repeats r.number r.team).noticed (.callAssigned r.number member)) := by
  set v := u.onCal fun c => c.assigned before after r t place member m .queued
  set b : NoticeBody := .callAssigned r.number member
  have hclass : r.roundClass = .callNormal := if_pos hcls
  have hrings := Does.rings (u := v.noticed b) (pattern := pattern) (repeats := repeats)
    (r := { r with member := some member, phase := .queued, roundTimer := .stopped }) rfl hone
    (show r.cls ≠ .urgent by simp [hcls]) r.roundClass_isCall hq hres hfree
  rw [hclass] at hrings ⊢
  exact (Does.notice v b).cons hrings

end

/-! ### PLACE CALL that opens a call (R119, R120) -/

/-- The floor's state takes calls. -/
theorem callsRefused_eq_false {t : Floors} {f : Nat}
    (h : ∀ r ∈ t.table[f]?, r.state ≠ .securing ∧ r.state ≠ .shut ∧ r.state ≠ .fire) : callsRefused t f = false := by
  unfold callsRefused Floors.isIn Floors.state? Floors.get?
  cases hr : t.table[f]? with
  | none => rfl
  | some r =>
    obtain ⟨hsecuring, hshut, hfire⟩ := h r hr
    simp [hsecuring, hshut, hfire]

section
variable {s : State} {station button team : Nat} {st : Station}

theorem placing_opens (hbutton : button ≤ 3) (hst : s.cal.station? station = some st)
    (hnode : s.flp.isPresent st.config.node = true) (hfree : (st.openCall[button]?).join = none)
    (huse : (st.config.buttons[button]?).join = some team) (hfloor : callsRefused s.flr st.config.floor = false)
    {t : Team} (ht : s.cal.teams[team]? = some t) (hring : t.ring ≠ []) (hroom : s.cal.calls.length < 32) :
    placing station button s = .opens team := by
  have hlist : ¬ Config.callPlaces ≤ s.cal.calls.length := Nat.not_le.mpr hroom
  have hbutton' : ¬ 4 ≤ button := by omega
  unfold placing
  simp [hst, hbutton', hnode, hfree, huse, hfloor, ht, hring, hlist]

/-- The record of a call that a button opens. -/
def Station.newCall (st : Station) (number station button team : Nat) : Call :=
  Machine.newCall number .normal (.button station button) team .unassigned ((st.spent[button]?).getD false) false

/-- The call dispatcher's record with a call newly opened, before its dispatch. -/
def Calls.opened (c : Calls) (st : Station) (number station button team : Nat) : Calls :=
  { c with
    calls := c.calls ++ [st.newCall number station button team]
    nextNumber := nextCallNumber number
    stations := c.stations.set station (some { st with
      spent := st.spent.set button false, openCall := st.openCall.set button (some number)
      window := st.window.set button (.running 20) }) }

theorem callOpen_eq (hst : s.cal.station? station = some st) (q : List Request) :
    callOpen station button team (s.during q []) =
      (callDispatch false s.cal.number ((s.onCal fun c =>
        c.opened st s.cal.number station button team).during q [])).notify
        (.callOpened s.cal.number .normal (.button station button) team) := by
  unfold callOpen
  dsimp only
  have hspent : ((s.cal.station? station).bind fun st => st.spent[button]?).getD false = (st.spent[button]?).getD false := by
    rw [hst]
    rfl
  rw [State.during_cal, hspent, State.during_onCal]
  refine congrArg (fun t : State => (callDispatch false s.cal.number (t.during q [])).notify _) (State.onCal_congr ?_)
  exact Calls.mapStation_eq (c := s.cal.append _) hst _

theorem orderPlaceCall_opens {number : Nat} (hplacing : placing station button s = .opens team)
    (hst : s.cal.station? station = some st) (hnumber : number = s.cal.number) (q : List Request) :
    orderPlaceCall station button (s.during q []) =
      ((callDispatch false number ((s.onCal fun c => c.opened st number station button team).during q [])).notify
        (.callOpened number .normal (.button station button) team), .done false (field 2 number)) := by
  have hplacing' : placing station button (s.during q []) = .opens team := hplacing
  subst hnumber
  unfold orderPlaceCall
  rw [hplacing']
  exact congrArg (·, Result.done false (field 2 s.cal.number)) (callOpen_eq hst q)

theorem exec_placeCall_unassigned {number : Nat} (hs : s.ready = true) (hplacing : placing station button s = .opens team)
    (hst : s.cal.station? station = some st) (hnumber : number = s.cal.number) (hnew : ∀ r ∈ s.cal.calls, r.number ≠ number)
    (hsearch : (s.cal.teams[team]?).bind s.cal.search = none) (tag : Nat) :
    exec (.placeCall tag station button) s = .next
      ((((s.onCal fun c => c.opened st number station button team).noticed (.callUnassigned number team)).noticed
        (.callOpened number .normal (.button station button) team)).answered tag (.placeCall station button)
        (.done false (field 2 number))) := by
  set v := s.onCal fun c => c.opened st number station button team
  refine exec_of_does (v := v) rfl hs (fun hw => absurd hw Bool.false_ne_true) (fun q => ?_)
    ((Does.notice v _).cons (Does.notice _ _))
  refine (orderPlaceCall_opens hplacing hst hnumber q).trans ?_
  have hdispatch := callDispatch_unassigned (u := v) (r := st.newCall number station button team) (q := q) (ms := [])
    (before := s.cal.calls) (after := []) rfl (by rw [List.append_nil]; exact hnew) hsearch
  exact congrArg (fun t : State => (t.notify _, Result.done false (field 2 number))) hdispatch

theorem exec_placeCall_rings {number place member : Nat} {t : Team} {m : Staff} (hs : s.ready = true)
    (hplacing : placing station button s = .opens team) (hst : s.cal.station? station = some st)
    (hnumber : number = s.cal.number) (hnew : ∀ r ∈ s.cal.calls, r.number ≠ number) (ht : s.cal.teams[team]? = some t)
    (hsearch : s.cal.search t = some (place, member)) (hm : s.cal.staff[member]? = some m) (hq : s.snd.queue = [])
    (hres : s.snd.reservations = []) (hfree : s.snd.free (s.flr.zones st.config.floor) = true) (tag : Nat) :
    exec (.placeCall tag station button) s = .next
      (((((s.onCal fun c => (c.opened st number station button team).assigned c.calls []
          (st.newCall number station button team) t place member m .sounding).onSnd fun v =>
        v.rung .callNormal m.pattern (s.flr.zones st.config.floor) s.cal.timing.repeats number team).noticed
          (.callAssigned number member)).noticed (.callOpened number .normal (.button station button) team)).answered tag
        (.placeCall station button) (.done false (field 2 number))) := by
  set r := st.newCall number station button team
  set v := s.onCal fun c => c.opened st number station button team
  set w := v.onCal fun c => c.assigned s.cal.calls [] r t place member m .queued
  have hone : ∀ x ∈ s.cal.calls ++ [], x.number ≠ r.number := by
    rw [List.append_nil]
    exact hnew
  have hfloor : v.cal.floorOf r = st.config.floor := by
    have hst' : v.cal.station? station = some { st with
        spent := st.spent.set button false, openCall := st.openCall.set button (some number)
        window := st.window.set button (.running 20) } :=
      present?_eq_some.mpr (List.getElem?_set_self (List.getElem?_eq_some_iff.mp (present?_eq_some.mp hst)).1)
    change ((v.cal.station? station).map (·.config.floor)).getD 8 = _
    rw [hst']
    rfl
  have hrings := Does.assigned (u := v) (t := t) (place := place) (member := member) (m := m) (pattern := m.pattern)
    (repeats := s.cal.timing.repeats) (zones := s.flr.zones st.config.floor) hone (r := r) rfl hq hres hfree
  refine exec_of_does (v := w) rfl hs (fun hw => absurd hw Bool.false_ne_true) (fun q => ?_)
    (hrings.append (Does.notice _ _))
  refine (orderPlaceCall_opens hplacing hst hnumber q).trans ?_
  have hdispatch := callDispatch_assigns (u := v) (r := r) (q := q) (ms := []) (again := false)
    (before := s.cal.calls) (after := []) rfl hone ht hsearch hm rfl
  rw [hfloor] at hdispatch
  exact congrArg (fun t : State => (t.notify _, Result.done false (field 2 number))) hdispatch

/-! ### A button pressed again (R119, R120) -/

theorem placing_again {n : Nat} {w : Timer} (hbutton : button ≤ 3) (hst : s.cal.station? station = some st)
    (hnode : s.flp.isPresent st.config.node = true) (hopen : (st.openCall[button]?).join = some n)
    (hw : st.window[button]? = some w) :
    placing station button s = if w.isRunning then .urgent n else .refused .alreadyOpen := by
  have hbutton' : ¬ 4 ≤ button := by omega
  unfold placing
  simp [hst, hbutton', hnode, hopen, hw]

theorem callUrgent_again {r : Call} (hcall : s.cal.call? r.number = some r) (h : r.cls ≠ .normal) :
    callUrgent r.number s = (s, .done false (field 2 r.number)) := by
  unfold callUrgent
  simp [hcall, h]

theorem callUrgent_barred {r : Call} (hcall : s.cal.call? r.number = some r) (hcls : r.cls = .normal)
    (h : r.barred = true) : callUrgent r.number s = declined .wrongState (s.notify (.urgentRefused r.number)) := by
  unfold callUrgent
  simp [hcall, hcls, h]

theorem callUrgent_raises {r : Call} {before after : List Call} (hcalls : s.cal.calls = before ++ r :: after)
    (hone : ∀ x ∈ before ++ after, x.number ≠ r.number) (hcls : r.cls = .normal) (hbarred : r.barred = false)
    (hphase : r.phase = .awaitingAck ∨ r.phase = .unassigned) : callUrgent r.number s =
      ((s.onCal fun c => { c with calls := before ++ { r with cls := .urgent } :: after }).notify (.callUrgent r.number),
        .done false (field 2 r.number)) := by
  have hcall : s.cal.call? r.number = some r := Calls.call?_split hcalls hone
  have hraised : (s.onCal fun c => c.mapCall r.number fun r => { r with cls := .urgent }) =
      s.onCal fun c => { c with calls := before ++ { r with cls := .urgent } :: after } :=
    State.onCal_congr (Calls.mapCall_split hcalls hone _)
  have hsilent : (r.phase == .queued || r.phase == .deferred || r.phase == .sounding) = false := by
    rcases hphase with h | h <;> rw [h] <;> rfl
  unfold callUrgent
  simp only [hcall, hcls, hbarred, bne_self_eq_false, Bool.false_eq_true, if_false, hraised, hsilent]

/-! ### Closing (R118) -/

/-- The call dispatcher's record after a call has closed: the call is gone, its member and its button released. -/
def Calls.closed (c : Calls) (before after : List Call) (r : Call) : Calls :=
  { c with
    calls := before ++ after
    staff := match r.member with
      | some m => c.staff.modify m fun x => { x with assigned := none }
      | none => c.staff
    stations := match r.origin with
      | .button st b => c.stations.modify st (Option.map fun x =>
          { x with openCall := x.openCall.set b none, window := x.window.set b .stopped })
      | .floor _ => c.stations }

theorem filter_split {r : Call} {before after : List Call} (hone : ∀ x ∈ before ++ after, x.number ≠ r.number) :
    (before ++ r :: after).filter (fun x => x.number != r.number) = before ++ after := by
  have hkeep {l : List Call} (hl : ∀ x ∈ l, x.number ≠ r.number) : l.filter (fun x => x.number != r.number) = l :=
    List.filter_eq_self.mpr fun x hx => by simpa using hl x hx
  rw [List.filter_append, List.filter_cons_of_neg (by simp), hkeep fun x hx => hone x (List.mem_append_left _ hx),
    hkeep fun x hx => hone x (List.mem_append_right _ hx)]

theorem callClose_eq {r : Call} {before after : List Call} (hcalls : s.cal.calls = before ++ r :: after)
    (hone : ∀ x ∈ before ++ after, x.number ≠ r.number) (reason : CallReason) : callClose r.number reason s =
      (s.onCal fun c => c.closed before after r).post ([.snd (.cancel r.soundOrigin),
        .lnk (.notice (.callClosed r.number reason))] ++ if r.member.isSome then [.cal .unassignedPass] else []) := by
  have hcall : s.cal.call? r.number = some r := Calls.call?_split hcalls hone
  have hclosed : ({ (s.cal.release r).clearButton r with
      calls := (s.cal.release r).calls.filter fun x => x.number != r.number } : Calls) = s.cal.closed before after r := by
    have hleft : (s.cal.release r).calls.filter (fun x => x.number != r.number) = before ++ after := by
      unfold Calls.release
      cases r.member with
      | none => exact (congrArg (List.filter _) hcalls).trans (filter_split hone)
      | some m =>
        rw [Calls.mapCall_split hcalls hone]
        exact filter_split (r := { r with member := none }) hone
    rw [hleft]
    unfold Calls.closed Calls.clearButton Calls.release
    cases r.member with
    | none => cases r.origin <;> rfl
    | some m => cases r.origin <;> rfl
  unfold callClose
  simp only [hcall]
  exact congrArg (State.post · _) (State.onCal_congr hclosed)

/-- With no sounding of the origin there is nothing to cancel (R105). -/
theorem Does.cancel_none {u : State} {o : SoundOrigin} (hqueue : ∀ x ∈ u.snd.queue, x.origin ≠ o)
    (hplaying : ∀ p ∈ u.snd.playing, p.sounding.origin ≠ o) : Does 1 [.snd (.cancel o)] u u :=
  snd_same fun q => by
    have hq : u.snd.queue.filter (fun x => !(x.origin == o)) = u.snd.queue :=
      List.filter_eq_self.mpr fun x hx => by simp [hqueue x hx]
    have hp : u.snd.playing.filter (fun p => p.sounding.cls.isFire || p.sounding.origin != o) = u.snd.playing :=
      List.filter_eq_self.mpr fun p hp => by simp [hplaying p hp]
    have hrunning : (u.snd.playing.any fun p => !p.sounding.cls.isFire && p.sounding.origin == o) = false :=
      List.any_eq_false.mpr fun p hp => by simp [hplaying p hp]
    have hroom : (u.snd.roomDue || (u.snd.queue.length == Config.sounderPlaces &&
        decide (u.snd.queue.length < Config.sounderPlaces))) = u.snd.roomDue := by
      rw [Bool.or_eq_left_iff_imp]
      intro h
      simp only [Bool.and_eq_true, beq_iff_eq, decide_eq_true_eq] at h
      omega
    have hsame : (u.onSnd fun v => { v.remove fun x => x.origin == o with
        playing := v.playing.filter fun p => p.sounding.cls.isFire || p.sounding.origin != o }) = u :=
      State.onSnd_congr (g := id) (by simp only [Sounder.remove, hq, hp, hroom]; rfl)
    refine (if_neg (Bool.eq_false_iff.mp hrunning)).trans ?_
    exact congrArg (State.during · q []) hsame

/-- A call without a sounding closes, with no other waiting for its member. -/
theorem Does.closes {u : State} {r : Call} {before after : List Call} (hcalls : u.cal.calls = before ++ after)
    (hwaiting : ∀ x ∈ before ++ after, x.phase ≠ .unassigned) (hqueue : ∀ x ∈ u.snd.queue, x.origin ≠ .call r.number r.team)
    (hplaying : ∀ p ∈ u.snd.playing, p.sounding.origin ≠ .call r.number r.team) (reason : CallReason) :
    ∃ k ≤ 3, Does k ([.snd (.cancel r.soundOrigin), .lnk (.notice (.callClosed r.number reason))] ++
      if r.member.isSome then [.cal .unassignedPass] else []) u (u.noticed (.callClosed r.number reason)) := by
  have hclose := (Does.cancel_none (u := u) (o := r.soundOrigin) hqueue hplaying).cons
    (Does.notice u (.callClosed r.number reason))
  by_cases hmember : r.member.isSome = true
  · rw [if_pos hmember]
    exact ⟨3, le_rfl, hclose.append (.unassignedPass (u := u.noticed _) (hcalls ▸ hwaiting))⟩
  · rw [if_neg hmember, List.append_nil]
    exact ⟨2, by norm_num, hclose⟩

theorem orderPlaceCall_urgent {n : Nat} (h : placing station button s = .urgent n) :
    orderPlaceCall station button s = callUrgent n s := by
  unfold orderPlaceCall
  rw [h]

theorem orderPlaceCall_alreadyOpen (h : placing station button s = .refused .alreadyOpen) :
    orderPlaceCall station button s = declined .wrongState s := by
  unfold orderPlaceCall
  rw [h]
  rfl

theorem exec_cancelCall {r : Call} {before after : List Call} (hs : s.ready = true)
    (hcalls : s.cal.calls = before ++ r :: after)
    (hothers : ∀ x ∈ before ++ after, x.number ≠ r.number ∧ x.phase ≠ .unassigned)
    (hqueue : ∀ x ∈ s.snd.queue, x.origin ≠ .call r.number r.team)
    (hplaying : ∀ p ∈ s.snd.playing, p.sounding.origin ≠ .call r.number r.team) (tag : Nat) :
    exec (.cancelCall tag r.number) s = .next
      (((s.onCal fun c => c.closed before after r).noticed (.callClosed r.number .cancelled)).answered tag
        (.cancelCall r.number) (.done false [])) := by
  have hone : ∀ x ∈ before ++ after, x.number ≠ r.number := fun x hx => (hothers x hx).1
  obtain ⟨k, hk, hd⟩ := Does.closes (u := s.onCal fun c => c.closed before after r) (r := r) rfl
    (fun x hx => (hothers x hx).2) hqueue hplaying .cancelled
  refine exec_of_does rfl hs (fun hw => absurd hw Bool.false_ne_true) (fun q => ?_) hd (hn := by omega)
  have hcall : s.cal.call? r.number = some r := Calls.call?_split hcalls hone
  have hclose := callClose_eq (s := s.during q []) hcalls hone .cancelled
  refine (if_pos (show (s.cal.call? r.number).isSome = true by simp [hcall])).trans ?_
  exact congrArg (·, Result.done false []) hclose

end

/-- Settles O42: the call opened without and with a free member, the second press, and the cancelled call. -/
theorem callOrders : Obligations.CallOrders := by
  refine ⟨⟨?_, ?_, ?_⟩, ?_, ?_⟩
  · intro s tag station button team number hs hbutton st hst hnode hfree huse hfloor hteam hexists hroom hnumber hnew
    obtain ⟨t, ht⟩ := Option.ne_none_iff_exists'.mp hexists
    obtain ⟨hring, hbusy⟩ := hteam t ht
    have hsearch : (s.cal.teams[team]?).bind s.cal.search = none := by
      rw [ht, Option.bind_some]
      refine Calls.search_none fun m hm => ?_
      rw [Bool.eq_false_iff, ne_eq, Calls.isFree_iff]
      rintro ⟨x, hx, honDuty, hnone⟩
      rcases hbusy m hm x hx with h | h
      · rw [h] at honDuty
        cases honDuty
      · exact h hnone
    exact exec_placeCall_unassigned hs
      (placing_opens hbutton hst hnode hfree huse (callsRefused_eq_false hfloor) ht hring hroom) hst hnumber hnew hsearch tag
  · intro s tag station button team number k member hs hbutton st hst hnode hfree huse hfloor t ht m hm hfirst hroom hnumber
      hnew hq hres hzones
    have hsearch := Calls.search_firstFree hfirst
    have hring : t.ring ≠ [] := by
      rintro hnil
      simp [Calls.firstFree, hnil] at hfirst
    have hexec := exec_placeCall_rings hs
      (placing_opens hbutton hst hnode hfree huse (callsRefused_eq_false hfloor) ht hring hroom) hst hnumber hnew ht hsearch
      hm hq hres hzones tag
    have hpointer : ((t.pointer + k) % t.ring.length + 1) % t.ring.length = (t.pointer + k + 1) % t.ring.length :=
      Nat.mod_add_mod ..
    rw [hexec]
    unfold Calls.assigned
    rw [hpointer]
    rfl
  · intro s tag station button r before after hs hbutton st hst hnode hopen hcalls hone w hw o
    have hplacing := placing_again (s := s) hbutton hst hnode hopen hw
    have hcall : s.cal.call? r.number = some r := Calls.call?_split hcalls hone
    refine ⟨fun hstopped => ?_, fun hrunning => ⟨fun hcls => ?_, fun hcls hbarred => ?_, fun hcls hbarred hphase => ?_⟩⟩
    · rw [hstopped, if_neg Bool.false_ne_true] at hplacing
      exact exec_unchanged rfl hs (fun hw => absurd hw Bool.false_ne_true) fun q =>
        orderPlaceCall_alreadyOpen (s := s.during q []) hplacing
    all_goals rw [hrunning, if_pos rfl] at hplacing
    · exact exec_unchanged rfl hs (fun hw => absurd hw Bool.false_ne_true) fun q =>
        (orderPlaceCall_urgent (s := s.during q []) hplacing).trans (callUrgent_again (s := s.during q []) hcall hcls)
    · exact exec_of_does (v := s) rfl hs (fun hw => absurd hw Bool.false_ne_true) (fun q =>
        (orderPlaceCall_urgent (s := s.during q []) hplacing).trans
          (callUrgent_barred (s := s.during q []) hcall hcls hbarred)) (Does.notice s _)
    · exact exec_of_does (v := s.onCal fun c => { c with calls := before ++ { r with cls := .urgent } :: after }) rfl hs
        (fun hw => absurd hw Bool.false_ne_true) (fun q =>
        (orderPlaceCall_urgent (s := s.during q []) hplacing).trans
          (callUrgent_raises (s := s.during q []) hcalls hone hcls hbarred hphase)) (Does.notice _ _)
  · intro s tag n hs hnone
    refine exec_unchanged rfl hs (fun hw => absurd hw Bool.false_ne_true) fun q => if_neg ?_
    rw [State.during_cal, Calls.call?_none hnone]
    exact Bool.false_ne_true
  · intro s tag r before after hs hcalls hothers hqueue hplaying
    exact exec_cancelCall hs hcalls hothers hqueue hplaying tag

end Sys2Proof.Machine
end

section
/-! The timers of the call dispatcher and the unassigned pass (R116, R120 to R124). -/

namespace Sys2Proof.Machine

section
variable {s u : State} {r : Call} {before after : List Call}

theorem Call.isOwn_iff (r : Call) : r.isOwn = true ↔ r.cls = .normal ∨ r.cls = .urgent := by
  simp [Call.isOwn]

theorem exec_urgentWindowExpiry {station button : Nat} {st : Station} (hs : s.quiet = true)
    (hst : s.cal.station? station = some st) : exec (.urgentWindowExpiry station button) s = .next
      (s.onCal fun c => { c with stations := c.stations.set station (some
        { st with window := st.window.set button .stopped }) }) :=
  settle_event_silent (b := .cal) (f := callWindowExpiry station button) hs (State.onCal_congr (Calls.mapStation_eq hst _))

/-! ### The next round (R124) -/

theorem callRoundExpiry_rounds {q : List Request} (hcalls : s.cal.calls = before ++ r :: after)
    (hone : ∀ x ∈ before ++ after, x.number ≠ r.number) (hphase : r.phase = .awaitingAck)
    (ht : r.roundTimer.isRunning = true) (hleft : r.cls = .sweep ∨ r.cls = .warden ∨ r.rounds < s.cal.timing.rounds) :
    callRoundExpiry r.number (s.during q []) = callRound r.number (s.during q []) := by
  have hcall : s.cal.call? r.number = some r := Calls.call?_split hcalls hone
  have hgo : (!r.isOwn || decide (r.rounds < s.cal.timing.rounds)) = true := by
    rcases hleft with h | h | h <;> simp [Call.isOwn, h]
  unfold callRoundExpiry
  simp only [State.during_cal, hcall]
  exact (if_neg (by simp [hphase, ht])).trans (if_pos hgo)

theorem exec_roundTimerExpiry_queues (hs : s.quiet = true) (hcalls : s.cal.calls = before ++ r :: after)
    (hone : ∀ x ∈ before ++ after, x.number ≠ r.number) (hphase : r.phase = .awaitingAck)
    (ht : r.roundTimer.isRunning = true) (hleft : r.cls = .sweep ∨ r.cls = .warden ∨ r.rounds < s.cal.timing.rounds)
    (hq : s.snd.queue = []) (hbusy : s.snd.free (s.flr.zones (s.cal.floorOf r)) = false) :
    exec (.roundTimerExpiry r.number) s = .next
      ((s.onCal fun c => { c with calls := before ++ { r with phase := .queued, roundTimer := .stopped } :: after }).onSnd
        fun v => { v with
          queue := [v.round r.roundClass (s.cal.roundPattern r) (s.flr.zones (s.cal.floorOf r)) s.cal.timing.repeats
            r.number r.team]
          nextStamp := v.nextStamp + 1 }) := by
  set v := s.onCal fun c => { c with calls := before ++ { r with phase := .queued, roundTimer := .stopped } :: after }
  have hwaits := Does.round_waits (u := v) (cls := r.roundClass) (pattern := s.cal.roundPattern r)
    (repeats := s.cal.timing.repeats) (r := { r with phase := .queued, roundTimer := .stopped }) rfl hone hq hbusy
  refine settle_event_during (b := .cal) (f := callRoundExpiry r.number) (v := v) hs (fun q => ?_) hwaits
  exact (callRoundExpiry_rounds hcalls hone hphase ht hleft).trans (callRound_during (ms := []) hcalls hone)

/-! ### Escalation and abandonment (R124) -/

theorem callRoundExpiry_spent {q : List Request} (hcalls : s.cal.calls = before ++ r :: after)
    (hone : ∀ x ∈ before ++ after, x.number ≠ r.number) (hphase : r.phase = .awaitingAck)
    (ht : r.roundTimer.isRunning = true) (hown : r.isOwn = true) (hspent : s.cal.timing.rounds ≤ r.rounds) :
    callRoundExpiry r.number (s.during q []) =
      if r.escalations < s.cal.timing.escalations then callEscalate r (s.during q [])
      else (callClose r.number .abandoned (s.during q [])).notify (.callAbandoned r.number r.team r.member) := by
  have hcall : s.cal.call? r.number = some r := Calls.call?_split hcalls hone
  unfold callRoundExpiry
  simp only [State.during_cal, hcall]
  exact (if_neg (by simp [hphase, ht])).trans (if_neg (by simp [hown, Nat.not_lt.mpr hspent]))

/-- The call dispatcher's record as a call escalates: its member is released. -/
def Calls.escalating (c : Calls) (before after : List Call) (r : Call) (m : Nat) (x : Staff) : Calls :=
  { c with
    calls := before ++ { r with member := none, escalations := r.escalations + 1, rounds := 0, roundTimer := .stopped } :: after
    staff := c.staff.set m { x with assigned := none } }

theorem callEscalate_during {m : Nat} {x : Staff} {q : List Request} (hcalls : s.cal.calls = before ++ r :: after)
    (hone : ∀ x ∈ before ++ after, x.number ≠ r.number) (hmember : r.member = some m) (hx : s.cal.staff[m]? = some x) :
    callEscalate r (s.during q []) = (callDispatch false r.number ((s.onCal fun c => c.escalating before after r m x).during q
      [.lnk (.notice (.callEscalated r.number m (r.escalations + 1)))])).post [.cal .unassignedPass] := by
  have hreleased : ((s.cal.release r).mapCall r.number fun x =>
      { x with escalations := x.escalations + 1, rounds := 0, roundTimer := .stopped }) =
      s.cal.escalating before after r m x := by
    unfold Calls.release
    rw [hmember]
    dsimp only
    rw [Calls.mapCall_split hcalls hone, modify_eq_set hx]
    exact Calls.mapCall_split (r := { r with member := none }) rfl hone _
  unfold callEscalate
  simp only [hmember, State.during_onCal, State.during_notify]
  exact congrArg (fun t : State => (callDispatch false r.number (t.during q _)).post _) (State.onCal_congr hreleased)

theorem exec_roundTimerExpiry_escalates {m place member : Nat} {x y : Staff} {t : Team} (hs : s.quiet = true)
    (hcalls : s.cal.calls = before ++ r :: after)
    (hothers : ∀ x ∈ before ++ after, x.number ≠ r.number ∧ x.phase ≠ .unassigned) (hphase : r.phase = .awaitingAck)
    (ht : r.roundTimer.isRunning = true) (hspent : s.cal.timing.rounds ≤ r.rounds) (hmember : r.member = some m)
    (hcls : r.cls = .normal) (hleft : r.escalations < s.cal.timing.escalations) (hteam : s.cal.teams[r.team]? = some t)
    (hx : s.cal.staff[m]? = some x) (hsearch : (s.cal.escalating before after r m x).search t = some (place, member))
    (hy : (s.cal.staff.set m { x with assigned := none })[member]? = some y) (hq : s.snd.queue = [])
    (hres : s.snd.reservations = []) (hfree : s.snd.free (s.flr.zones (s.cal.floorOf r)) = true) :
    exec (.roundTimerExpiry r.number) s = .next
      ((((s.onCal fun c => (c.escalating before after r m x).assigned before after
          { r with member := none, escalations := r.escalations + 1, rounds := 0, roundTimer := .stopped }
          t place member y .sounding).onSnd fun v =>
        v.rung .callNormal y.pattern (s.flr.zones (s.cal.floorOf r)) s.cal.timing.repeats r.number r.team).noticed
          (.callEscalated r.number m (r.escalations + 1))).noticed (.callAssigned r.number member)) := by
  have hone : ∀ x ∈ before ++ after, x.number ≠ r.number := fun x hx => (hothers x hx).1
  have hown : r.isOwn = true := (Call.isOwn_iff r).mpr (.inl hcls)
  set r' : Call := { r with member := none, escalations := r.escalations + 1, rounds := 0, roundTimer := .stopped }
  set b : NoticeBody := .callEscalated r.number m (r.escalations + 1)
  set u := s.onCal fun c => c.escalating before after r m x
  set v := u.onCal fun c => c.assigned before after r' t place member y .queued
  have hrings := Does.assigned (u := u.noticed b) (r := r') (t := t) (place := place) (member := member) (m := y)
    (pattern := y.pattern) (repeats := s.cal.timing.repeats) hone hcls hq hres hfree
  set w := (((u.noticed b).onCal fun c => c.assigned before after r' t place member y .sounding).onSnd fun v =>
        v.rung .callNormal y.pattern (s.flr.zones (s.cal.floorOf r)) s.cal.timing.repeats r.number r.team).noticed
          (.callAssigned r.number member) with hw
  have hpass : Does 1 [.cal .unassignedPass] w w := .unassignedPass fun z hz => by
    have hz : z ∈ before ++ { r' with member := some member, phase := .sounding, roundTimer := .stopped } :: after := hz
    rw [List.mem_append, List.mem_cons] at hz
    rcases hz with hz | rfl | hz
    · exact (hothers z (List.mem_append_left _ hz)).2
    · simp
    · exact (hothers z (List.mem_append_right _ hz)).2
  have hexec : exec (.roundTimerExpiry r.number) s = .next w := by
    refine settle_event_during (b := .cal) (f := callRoundExpiry r.number) (v := v) hs (fun q => ?_)
      (((Does.notice v b).append hrings).append hpass)
    refine (callRoundExpiry_spent hcalls hone hphase ht hown hspent).trans ((if_pos hleft).trans ?_)
    refine (callEscalate_during hcalls hone hmember hx).trans ?_
    have hdispatch := callDispatch_assigns (u := u) (r := r') (q := q) (again := false) (ms := [.lnk (.notice b)])
      rfl hone hteam hsearch hy hown
    exact congrArg (fun t : State => t.post [.cal .unassignedPass]) hdispatch
  rw [hexec, hw, State.noticed_onCal, State.noticed_onSnd]
  rfl

theorem exec_roundTimerExpiry_abandons {m : Nat} (hs : s.quiet = true) (hcalls : s.cal.calls = before ++ r :: after)
    (hothers : ∀ x ∈ before ++ after, x.number ≠ r.number ∧ x.phase ≠ .unassigned) (hphase : r.phase = .awaitingAck)
    (ht : r.roundTimer.isRunning = true) (hspent : s.cal.timing.rounds ≤ r.rounds) (hmember : r.member = some m)
    (hown : r.isOwn = true) (hleft : s.cal.timing.escalations ≤ r.escalations)
    (hqueue : ∀ x ∈ s.snd.queue, x.origin ≠ .call r.number r.team)
    (hplaying : ∀ p ∈ s.snd.playing, p.sounding.origin ≠ .call r.number r.team) :
    exec (.roundTimerExpiry r.number) s = .next
      (((s.onCal fun c => c.closed before after r).noticed (.callClosed r.number .abandoned)).noticed
        (.callAbandoned r.number r.team (some m))) := by
  have hone : ∀ x ∈ before ++ after, x.number ≠ r.number := fun x hx => (hothers x hx).1
  obtain ⟨k, hk, hd⟩ := Does.closes (u := s.onCal fun c => c.closed before after r) (r := r) rfl
    (fun x hx => (hothers x hx).2) hqueue hplaying .abandoned
  refine settle_event_during (b := .cal) (f := callRoundExpiry r.number) hs (fun q => ?_) (hd.append (Does.notice _ _))
    (hn := by omega)
  refine (callRoundExpiry_spent hcalls hone hphase ht hown hspent).trans ((if_neg (Nat.not_lt.mpr hleft)).trans ?_)
  rw [callClose_eq (s := s.during q []) hcalls hone .abandoned, hmember]
  rfl

/-! ### The unassigned pass (R122) -/

/-- The one call that waits is given to the first free member of its team's ring. -/
theorem Does.pass_gives {t : Team} {place member : Nat} {m : Staff} (hcalls : u.cal.calls = before ++ r :: after)
    (hothers : ∀ x ∈ before ++ after, x.number ≠ r.number ∧ x.phase ≠ .unassigned) (hphase : r.phase = .unassigned)
    (hcls : r.cls = .normal) (hfloor : callsRefused u.flr (u.cal.floorOf r) = false) (ht : u.cal.teams[r.team]? = some t)
    (hsearch : u.cal.search t = some (place, member)) (hm : u.cal.staff[member]? = some m) (hq : u.snd.queue = [])
    (hres : u.snd.reservations = []) (hfree : u.snd.free (u.flr.zones (u.cal.floorOf r)) = true) :
    Does 7 [.cal .unassignedPass] u
      (((u.onCal fun c => c.assigned before after r t place member m .sounding).onSnd fun v =>
        v.rung .callNormal m.pattern (u.flr.zones (u.cal.floorOf r)) u.cal.timing.repeats r.number r.team).noticed
          (.callAssigned r.number member)) := by
  have hone : ∀ x ∈ before ++ after, x.number ≠ r.number := fun x hx => (hothers x hx).1
  have hown : r.isOwn = true := (Call.isOwn_iff r).mpr (.inl hcls)
  have hwaiting : (u.cal.calls.filter fun r => r.phase == .unassigned && !callsRefused u.flr (u.cal.floorOf r)) = [r] := by
    have hnone {l : List Call} (hl : ∀ x ∈ l, x.phase ≠ .unassigned) :
        l.filter (fun r => r.phase == .unassigned && !callsRefused u.flr (u.cal.floorOf r)) = [] :=
      List.filter_eq_nil_iff.mpr fun x hx => by simp [hl x hx]
    rw [hcalls, List.filter_append, List.filter_cons_of_pos (by simp [hphase, hfloor]),
      hnone fun x hx => (hothers x (List.mem_append_left _ hx)).2,
      hnone fun x hx => (hothers x (List.mem_append_right _ hx)).2]
    rfl
  have hrings := Does.assigned (u := u) (t := t) (place := place) (member := member) (m := m) (pattern := m.pattern)
    (repeats := u.cal.timing.repeats) (zones := u.flr.zones (u.cal.floorOf r)) hone hcls hq hres hfree
  refine .cal (m := .unassignedPass) (f := fun c => c.assigned before after r t place member m .queued) (fun q => ?_) hrings
  have hpass : callUnassignedPass (u.during q []) = callDispatch true r.number (u.during q []) := by
    unfold callUnassignedPass
    rw [State.during_cal, State.during_flr, hwaiting]
    rfl
  exact hpass.trans ((callDispatch_assigns (ms := []) hcalls hone ht hsearch hm hown).trans rfl)

end

/-- Settles O43: the urgent window, the round timer's three outcomes, and the pass that a member's arrival brings. -/
theorem callTimers : Obligations.CallTimers := by
  refine ⟨fun s station button hs st hst => exec_urgentWindowExpiry hs hst, ?_, ?_, ?_⟩
  · intro s r before after hs hcalls hone hphase ht hleft hq hbusy
    have hpattern : s.cal.roundPattern r = if r.cls = .normal ∨ r.cls = .urgent then
        ((r.member.bind fun m => s.cal.staff[m]?).map (·.pattern)).getD 0
      else ((s.cal.teams[r.team]?).map (·.pattern)).getD 0 := by
      simp only [Calls.roundPattern, Call.isOwn_iff]
    rewrite [exec_roundTimerExpiry_queues hs hcalls hone hphase ht hleft hq hbusy, hpattern]
    rfl
  · intro s r before after hs hcalls hothers hphase ht hspent m hm
    refine ⟨?_, fun hcls hleft hqueue hplaying => ?_⟩
    · intro hcls hleft t hteam x hx released k member hfirst y hy hq hres hfree
      have hexec := exec_roundTimerExpiry_escalates hs hcalls hothers hphase ht hspent hm hcls hleft hteam hx
        (Calls.search_firstFree (c := s.cal.escalating before after r m x) hfirst) hy hq hres hfree
      have hpointer : ((t.pointer + k) % t.ring.length + 1) % t.ring.length = (t.pointer + k + 1) % t.ring.length :=
        Nat.mod_add_mod ..
      rw [hexec]
      unfold Calls.assigned
      rewrite [hpointer]
      rfl
    · have hexec := exec_roundTimerExpiry_abandons hs hcalls hothers hphase ht hspent hm ((Call.isOwn_iff r).mpr hcls) hleft
        hqueue hplaying
      have hmember : r.member = some m := hm
      rw [hexec]
      unfold Calls.closed
      rewrite [hmember]
      rfl
  · intro s tag member k r before after hs hcalls hothers hphase hcls hfloor hq hres hfree m hm t ht given
    have hopen := callsRefused_eq_false hfloor
    refine ⟨?_, fun hduty hnone hmember => ?_⟩
    · intro hduty present hfirst
      have hstaff : present.staff[member]? = some { m with onDuty := true } :=
        List.getElem?_set_self (List.getElem?_eq_some_iff.mp hm).1
      have hgives := Does.pass_gives (u := s.onCal fun c => { c with staff := c.staff.set member { m with onDuty := true } })
        hcalls hothers hphase hcls hopen ht (Calls.search_firstFree (c := present) hfirst) hstaff hq hres hfree
      have hexec : exec (.setDuty tag member true) s = _ :=
        exec_of_does (ms := [.cal .unassignedPass]) rfl (ready_of_configReady hs) (writing_of_configReady hs)
        (fun q => (orderSetDuty_on (s := s.during q []) hm hduty).trans rfl) hgives
      have hpointer : ((t.pointer + k) % t.ring.length + 1) % t.ring.length = (t.pointer + k + 1) % t.ring.length :=
        Nat.mod_add_mod ..
      rw [hexec]
      simp only [Calls.assigned, State.onCal, List.set_set, hpointer]
      rfl
    · have hring : (List.take 0 t.ring ++ [member] : List Nat) = [member] := rfl
      set t' : Team := { t with ring := [member], pointer := 0 }
      set v := s.onCal fun c => { c with teams := c.teams.set r.team t' }
      have ht' : v.cal.teams[r.team]? = some t' := List.getElem?_set_self (List.getElem?_eq_some_iff.mp ht).1
      have hfree' : s.cal.isFree member = true := Calls.isFree_iff.mpr ⟨m, hm, hduty, hnone⟩
      have hfirst : v.cal.firstFree t' 0 member = true := by
        have hfree'' : v.cal.isFree member = true := hfree'
        simp [Calls.firstFree, t', hfree'']
      have hgives := Does.pass_gives (u := v.answered tag (.loadDutyList r.team 0 [member]) (.done false []))
        hcalls hothers hphase hcls hopen ht' (Calls.search_firstFree hfirst) hm hq hres hfree
      have hexec : exec (.loadDutyList tag r.team 0 [member]) s = _ :=
        exec_of_does_answered (v := v) (ms := [.cal .unassignedPass]) rfl (ready_of_configReady hs) (writing_of_configReady hs)
        (fun q => (orderLoadDutyList_inRange (s := s.during q []) ht (Nat.zero_le _) (by simp) (by simpa using hmember)).trans
          rfl) hgives
      have hsame : ({ m with onDuty := true, assigned := some r.number } : Staff) = { m with assigned := some r.number } := by
        rw [← hduty]
      have hpointer : ((t'.pointer + 0) % t'.ring.length + 1) % t'.ring.length = 0 := by simp [t']
      have hcal : v.cal.assigned before after r t' ((t'.pointer + 0) % t'.ring.length) member m .sounding =
          { s.cal with
            calls := before ++ { r with member := some member, phase := .sounding, roundTimer := .stopped } :: after
            staff := s.cal.staff.set member { m with onDuty := true, assigned := some r.number }
            teams := s.cal.teams.set r.team { t with ring := [member], pointer := 0 } } := by
        simp only [Calls.assigned, hpointer, v, State.onCal, List.set_set, hsame, t']
      rw [hexec]
      exact congrArg (fun c => Host.Outcome.next (((({ s with cal := c }.onSnd fun u =>
        u.rung .callNormal m.pattern (s.flr.zones (s.cal.floorOf r)) s.cal.timing.repeats r.number r.team).answered tag
          (.loadDutyList r.team 0 [member]) (.done false [])).noticed (.callAssigned r.number member)))) hcal

end Sys2Proof.Machine
end

section
/-! Presses, acknowledgements and detector changes in an image, and nodes LOST (R113, R119, R127, R129, R159, R160, R178). -/

namespace Sys2Proof.Machine

/-! ### The changes of an image -/

/-- A byte in which one bit of five is newly set. -/
theorem stationMsgs_one {address k : Nat} {old new : Byte}
    (h : ∀ j < 5, (new.getLsbD j = true ∧ old.getLsbD j = false) ↔ j = k) : stationMsgs address old new =
      if k < 4 then [.cal (.press address k)] else if k = 4 then [.cal (.acknowledge address)] else [] := by
  have hbit {j : Nat} (hj : j < 5) : (new.getLsbD j && !old.getLsbD j) = decide (j = k) := by
    rw [Bool.eq_iff_iff, decide_eq_true_iff, ← h j hj, Bool.and_eq_true, Bool.not_eq_true']
  have hcalls : (List.range 4).filter (fun j => new.getLsbD j && !old.getLsbD j) = if k < 4 then [k] else [] := by
    rw [List.filter_congr fun j hj => hbit (Nat.lt_succ_of_lt (List.mem_range.mp hj))]
    split
    · next hk => interval_cases k <;> rfl
    · next hk =>
      refine List.filter_eq_nil_iff.mpr fun j hj => ?_
      have := List.mem_range.mp hj
      simp only [decide_eq_true_eq]
      omega
  unfold stationMsgs
  simp only [hcalls, hbit (by norm_num : 4 < 5), decide_eq_true_eq]
  by_cases hk : k < 4
  · have h4 : ¬ 4 = k := by omega
    simp [hk, h4]
  · by_cases hk4 : k = 4
    · simp [hk4]
    · simp [hk, hk4, Ne.symm hk4]

/-- A byte in which one detector slot has changed. -/
theorem detectorMsgs_one {address slot : Nat} {old new : Byte} (hslot : slot < 4)
    (h : ∀ j < 4, detectorOf new j ≠ detectorOf old j ↔ j = slot) :
    detectorMsgs address old new = [.fir (.slot address slot (detectorOf new slot))] := by
  have hone : (List.range 4).filter (fun j => detectorOf old j != detectorOf new j) = [slot] := by
    have hbit : ∀ j ∈ List.range 4, (detectorOf old j != detectorOf new j) = decide (j = slot) := fun j hj => by
      rw [Bool.eq_iff_iff, decide_eq_true_iff, ← h j (List.mem_range.mp hj), bne_iff_ne]
      exact ne_comm
    rw [List.filter_congr hbit]
    interval_cases slot <;> rfl
  unfold detectorMsgs
  rw [hone]
  rfl

section
variable {s u : State} {address in0 in1 : Byte} {node : Node} {old : Image} {a n : Nat}

theorem changeMsgs_station (hkind : node.kind = .station) (hold : node.image = some old) :
    changeMsgs s a node ⟨in0, in1⟩ = stationMsgs a old.byte0 in0 := by
  unfold changeMsgs
  rw [hkind, hold]
  rfl

theorem changeMsgs_detector (hkind : node.kind = .detector) (hold : node.image = some old) :
    changeMsgs s a node ⟨in0, in1⟩ = detectorMsgs a old.byte0 in0 := by
  unfold changeMsgs
  rw [hkind, hold]
  rfl

/-- The node of a good reply is PRESENT. -/
theorem State.imaged_present (h : s.flp.node? a = some node) (i : Image) : (s.imaged a node i).flp.isPresent a = true := by
  obtain ⟨ha, hn⟩ := Loop.node?_iff.mp h
  have hnode : (s.imaged a node i).flp.node? a = some { node with state := .present, misses := 0, image := some i } :=
    Loop.node?_iff.mpr ⟨ha, List.getElem?_set_self (List.getElem?_eq_some_iff.mp hn).1⟩
  rw [Loop.isPresent, hnode]
  rfl

/-! ### Presses (R119) -/

section
variable {st : Station} {k : Nat}

theorem placing_unused (hk : k < 4) (hst : u.cal.station? n = some st) (hnode : u.flp.isPresent st.config.node = true)
    (hfree : (st.openCall[k]?).join = none) (hunused : (st.config.buttons[k]?).join = none) :
    placing n k u = .refused .unused := by
  unfold placing
  simp [hst, Nat.not_le.mpr hk, hnode, hfree, hunused]

theorem Calls.search_all_busy {c : Calls} {team : Nat} {t : Team} (ht : c.teams[team]? = some t)
    (h : ∀ m ∈ t.ring, ∀ r ∈ c.staff[m]?, r.onDuty = false ∨ r.assigned ≠ none) : (c.teams[team]?).bind c.search = none := by
  rw [ht, Option.bind_some]
  refine Calls.search_none fun m hm => ?_
  rw [Bool.eq_false_iff, ne_eq, Calls.isFree_iff]
  rintro ⟨x, hx, honDuty, hnone⟩
  rcases h m hm x hx with h | h
  · rw [h] at honDuty
    cases honDuty
  · exact h hnone

theorem Does.press_unused (hat : u.cal.atNode? a = some n) (hplacing : placing n k u = .refused .unused) :
    Does 2 [.cal (.press a k)] u (u.noticed (.callRefused (.button n k) .unused)) :=
  .cal (f := id) (ms := [.lnk (.notice (.callRefused (.button n k) .unused))]) (fun q => by
    have hplacing' : placing n k (u.during q []) = .refused .unused := hplacing
    simp only [callTake, callPress, State.during_cal, hat, hplacing']
    rfl) (Does.notice u _)

/-- A press that opens a call for a team without a free member. -/
theorem Does.press_opens {team number : Nat} (hat : u.cal.atNode? a = some n) (hst : u.cal.station? n = some st)
    (hplacing : placing n k u = .opens team) (hnumber : number = u.cal.number)
    (hnew : ∀ r ∈ u.cal.calls, r.number ≠ number) (hsearch : (u.cal.teams[team]?).bind u.cal.search = none) :
    Does 3 [.cal (.press a k)] u (((u.onCal fun c => c.opened st number n k team).noticed
      (.callUnassigned number team)).noticed (.callOpened number .normal (.button n k) team)) := by
  set v := u.onCal fun c => c.opened st number n k team
  refine .cal (m := .press a k) (f := fun c => c.opened st number n k team)
    (ms := [.lnk (.notice (.callUnassigned number team)), .lnk (.notice (.callOpened number .normal (.button n k) team))])
    (fun q => ?_) ((Does.notice v _).cons (Does.notice _ _))
  have hplacing' : placing n k (u.during q []) = .opens team := hplacing
  simp only [callTake, callPress, State.during_cal, hat, hplacing']
  refine (callOpen_eq hst q).trans ?_
  rw [← hnumber]
  have hdispatch := callDispatch_unassigned (u := v) (r := st.newCall number n k team) (q := q) (ms := [])
    (before := u.cal.calls) (after := []) rfl (by rw [List.append_nil]; exact hnew) hsearch
  exact congrArg (State.notify · _) hdispatch

/-! ### Acknowledgements (R127) -/

/-- The acknowledgement of a station without a call for its floor answers its oldest own call. -/
theorem Does.acknowledge {r : Call} {before after : List Call} {b : Nat} (hat : u.cal.atNode? a = some n)
    (hst : u.cal.station? n = some st) (hcalls : u.cal.calls = before ++ r :: after)
    (hnone : ∀ x ∈ u.cal.calls, x.origin ≠ .floor st.config.floor ∧ x.phase ≠ .unassigned)
    (horigin : r.origin = .button n b) (holdest : ∀ x ∈ before, x.ofStation n = false)
    (hone : ∀ x ∈ before ++ after, x.number ≠ r.number) (hqueue : ∀ x ∈ u.snd.queue, x.origin ≠ .call r.number r.team)
    (hplaying : ∀ p ∈ u.snd.playing, p.sounding.origin ≠ .call r.number r.team) :
    ∃ k ≤ 5, Does k [.cal (.acknowledge a)] u (((u.onCal fun c => c.closed before after r).noticed
      (.callClosed r.number .answered)).noticed
        (.callAnswered r.number r.member r.rounds r.escalations (Config.toSeconds r.age))) := by
  have hfloor : u.cal.calls.find? (fun x => !x.isOwn && x.origin == .floor st.config.floor) = none :=
    List.find?_eq_none.mpr fun x hx => by simp [(hnone x hx).1]
  have hown : u.cal.calls.find? (fun x => x.ofStation n) = some r := by
    have hbefore : before.find? (fun x => x.ofStation n) = none :=
      List.find?_eq_none.mpr fun x hx => by simp [holdest x hx]
    rw [hcalls, List.find?_append, hbefore, Option.none_or]
    exact List.find?_cons_of_pos (by simp [Call.ofStation, horigin])
  have hwaiting : ∀ x ∈ before ++ after, x.phase ≠ .unassigned := fun x hx => by
    refine (hnone x ?_).2
    rw [hcalls]
    simp only [List.mem_append, List.mem_cons] at hx ⊢
    exact hx.imp_right .inr
  obtain ⟨k, hk, hd⟩ := Does.closes (u := u.onCal fun c => c.closed before after r) (r := r) rfl hwaiting hqueue hplaying
    .answered
  refine ⟨1 + (k + 1), by omega, .cal (m := .acknowledge a) (f := fun c => c.closed before after r) (fun q => ?_)
    (hd.append (Does.notice _ _))⟩
  simp only [callTake, callAcknowledge, State.during_cal, hat, Option.bind_some, hst, Option.map_some, callAckAt, hfloor, hown]
  rw [callClose_eq (s := u.during q []) hcalls hone .answered]
  rfl

end

/-! ### A station LOST (R129) -/

/-- The call dispatcher's record as a station's node is LOST: its windows have stopped. -/
def Calls.deaf (c : Calls) (n : Nat) (st : Station) : Calls :=
  { c with stations := c.stations.set n (some { st with window := st.window.map fun _ => .stopped }) }

/-- The one call of the one station at the node closes. -/
theorem Does.station_lost {st : Station} {r : Call} {before after : List Call} {b : Nat} (hst : u.cal.station? n = some st)
    (ha : st.config.node = a) (honly : ∀ k < u.cal.stations.length, ∀ x ∈ u.cal.station? k, x.config.node = a → k = n)
    (hcalls : u.cal.calls = before ++ r :: after) (horigin : r.origin = .button n b)
    (hothers : ∀ x ∈ before ++ after, x.ofStation n = false ∧ x.number ≠ r.number ∧ x.phase ≠ .unassigned)
    (hqueue : ∀ x ∈ u.snd.queue, x.origin ≠ .call r.number r.team)
    (hplaying : ∀ p ∈ u.snd.playing, p.sounding.origin ≠ .call r.number r.team) :
    ∃ k ≤ 5, Does k [.cal (.stationLost a)] u ((u.onCal fun c => (c.deaf n st).closed before after r).noticed
      (.callClosed r.number .stationLost)) := by
  have hlost : presentWhere u.cal.stations (fun st => st.config.node == a) = [n] := by
    refine presentWhere_eq_singleton fun k => ⟨?_, ?_⟩
    · rintro ⟨x, hx, hnode⟩
      exact honly k (List.getElem?_eq_some_iff.mp (present?_eq_some.mp hx)).1 x hx (beq_iff_eq.mp hnode)
    · rintro rfl
      exact ⟨st, hst, beq_iff_eq.mpr ha⟩
  have hown : u.cal.calls.filter (fun x => x.ofStation n) = [r] := by
    have hnone {l : List Call} (hl : ∀ x ∈ l, x.ofStation n = false) : l.filter (fun x => x.ofStation n) = [] :=
      List.filter_eq_nil_iff.mpr fun x hx => by simp [hl x hx]
    rw [hcalls, List.filter_append, List.filter_cons_of_pos (by simp [Call.ofStation, horigin]),
      hnone fun x hx => (hothers x (List.mem_append_left _ hx)).1,
      hnone fun x hx => (hothers x (List.mem_append_right _ hx)).1]
    rfl
  set v := u.onCal fun c => c.deaf n st
  have hone : ∀ x ∈ before ++ after, x.number ≠ r.number := fun x hx => (hothers x hx).2.1
  obtain ⟨k, hk, hd⟩ := Does.closes (u := v.onCal fun c => c.closed before after r) (r := r) rfl
    (fun x hx => (hothers x hx).2.2) hqueue hplaying .stationLost
  have hclose : Does (1 + k) [.cal (.close r.number .stationLost)] v
      ((v.onCal fun c => c.closed before after r).noticed (.callClosed r.number .stationLost)) :=
    .cal (m := .close r.number .stationLost) (f := fun c => c.closed before after r)
      (fun q => callClose_eq (s := v.during q []) hcalls hone .stationLost) hd
  refine ⟨1 + (1 + k), by omega, .cal (m := .stationLost a) (f := fun c => c.deaf n st)
    (ms := [.cal (.close r.number .stationLost)]) (fun q => ?_) hclose⟩
  have hdeaf : (u.onCal fun c => [n].foldl (fun c n => c.mapStation n fun st =>
      { st with window := st.window.map fun _ => .stopped }) c) = v :=
    State.onCal_congr (Calls.mapStation_eq hst _)
  simp only [callTake, callStationLost, State.during_cal, hlost, State.during_onCal, hdeaf]
  have hown' : v.cal.calls.filter (fun x => x.ofStation n) = [r] := hown
  simp only [List.flatMap_cons, List.flatMap_nil, List.append_nil, hown', List.map_cons, List.map_nil]
  rfl

/-! ### Detector changes (R159, R160) -/

section
variable {d : Detector} {zone : FireZone} {st : DetectorState}

/-- The fire response unit's record as an input and its zone change. -/
def Fire.changed (f : Fire) (n : Nat) (d : Detector) (st : DetectorState) (zone : FireZone) : Fire :=
  { f with
    inputs := f.inputs.set n (some { d with state := st })
    zones := f.zones.set d.config.zone zone }

theorem State.onFir_changed (hzone : u.fir.zones[d.config.zone]? = some zone) (g : Fire → FireZone → FireZone) :
    ((u.onFir fun f => { f with inputs := f.inputs.set n (some { d with state := st }) }).onFir fun f =>
      f.mapZone d.config.zone (g f)) =
      u.onFir fun f => f.changed n d st (g { f with inputs := f.inputs.set n (some { d with state := st }) } zone) := by
  simp only [State.onFir, Fire.mapZone, Fire.changed, modify_eq_set hzone]

theorem fireInputChange_confirms {q : List Request} (hd : u.fir.input? n = some d) (hstate : d.state = .normal)
    (hzone : u.fir.zones[d.config.zone]? = some zone) (hnormal : zone.state = .normal) (hmanual : d.config.manual = false)
    (hconfirm : u.fir.settings.confirm ≠ 0) : fireInputChange n .alarm (u.during q []) =
      (u.onFir fun f => f.changed n d .alarm
        { zone with state := .confirming, confirmTimer := .running (20 * f.settings.confirm) }).during q
        [.lnk (.notice (.zoneConfirming d.config.zone n))] := by
  have hnew : ¬ d.state = .alarm := by simp [hstate]
  have hwait : ¬ (d.config.manual || u.fir.settings.confirm == 0) = true := by simp [hmanual, hconfirm]
  have htimer (secs : Nat) : Timer.start secs = .running (20 * secs) := by
    simp [Timer.start, Config.seconds, Config.ticksPerSecond, mul_comm]
  simp only [fireInputChange, State.during_fir, hd, if_neg hnew, State.during_onFir, State.onFir_fir, hzone, Option.map_some,
    hnormal, fireQuietChange]
  refine (if_neg hwait).trans ?_
  refine (congrArg (fun t : State => (t.during q []).notify _) (State.onFir_changed hzone fun f r =>
    { r with state := .confirming, confirmTimer := Timer.start f.settings.confirm })).trans ?_
  simp only [htimer]
  rfl

theorem fireInputChange_faults {q : List Request} (hd : u.fir.input? n = some d) (hstate : d.state = .normal)
    (hzone : u.fir.zones[d.config.zone]? = some zone) (hnormal : zone.state = .normal) :
    fireInputChange n .fault (u.during q []) =
      (u.onFir fun f => f.changed n d .fault { zone with state := .fault }).during q
        [.lnk (.notice (.zoneFault d.config.zone n))] := by
  have hnew : ¬ d.state = .fault := by simp [hstate]
  simp only [fireInputChange, State.during_fir, hd, if_neg hnew, State.during_onFir, State.onFir_fir, hzone, Option.map_some,
    hnormal, fireQuietChange, if_true]
  exact congrArg (fun t : State => (t.during q []).notify _) (State.onFir_changed hzone fun _ r => { r with state := .fault })

/-- A changed slot reaches the one input that reads it. -/
theorem Does.slot {w : State} {slot j : Nat} {new : DetectorState} {f : Fire → Fire} {ms : List Msg}
    (hd : u.fir.input? n = some d) (ha : d.config.node = a) (hslot : d.config.slot = slot)
    (honly : ∀ k < u.fir.inputs.length, ∀ e ∈ u.fir.input? k, e.config.node = a → e.config.slot = slot → k = n)
    (hchange : ∀ q, fireInputChange n new (u.during q []) = (u.onFir f).during q ms) (hms : Does j ms (u.onFir f) w) :
    Does (1 + j) [.fir (.slot a slot new)] u w := by
  have hinput : presentWhere u.fir.inputs (fun d => d.config.node == a && d.config.slot == slot) = [n] := by
    refine presentWhere_eq_singleton fun k => ⟨?_, ?_⟩
    · rintro ⟨x, hx, hnamed⟩
      obtain ⟨hnode, hplace⟩ := Bool.and_eq_true_iff.mp hnamed
      exact honly k (List.getElem?_eq_some_iff.mp (present?_eq_some.mp hx)).1 x hx (beq_iff_eq.mp hnode)
        (beq_iff_eq.mp hplace)
    · rintro rfl
      exact ⟨d, hd, by simp [ha, hslot]⟩
  refine .fir (m := .slot a slot new) (f := f) (fun q => ?_) hms
  simp only [fireTake, fireSlot, State.during_fir, hinput, List.head?_cons]
  exact hchange q

/-- The one input of a node that is LOST enters FAULT. -/
theorem Does.detector_lost {w : State} {j : Nat} {f : Fire → Fire} {ms : List Msg} (hd : u.fir.input? n = some d)
    (ha : d.config.node = a) (honly : ∀ k < u.fir.inputs.length, ∀ e ∈ u.fir.input? k, e.config.node = a → k = n)
    (hchange : ∀ q, fireInputChange n .fault (u.during q []) = (u.onFir f).during q ms) (hms : Does j ms (u.onFir f) w) :
    Does (1 + j) [.fir (.nodeLost a)] u w := by
  have hinput : presentWhere u.fir.inputs (fun d => d.config.node == a) = [n] := by
    refine presentWhere_eq_singleton fun k => ⟨?_, ?_⟩
    · rintro ⟨x, hx, hnamed⟩
      exact honly k (List.getElem?_eq_some_iff.mp (present?_eq_some.mp hx)).1 x hx (beq_iff_eq.mp hnamed)
    · rintro rfl
      exact ⟨d, hd, beq_iff_eq.mpr ha⟩
  refine .fir (m := .nodeLost a) (f := f) (fun q => ?_) hms
  simp only [fireTake, fireNodeLost, State.during_fir, hinput, List.foldl_cons, List.foldl_nil]
  exact hchange q

end

/-! ### A hall shutter LOST (R60) -/

theorem Shutter.faulted_nodeLost {r : Shutter}
    (h : r.state = .opened ∨ r.state = .closed ∨ r.state = .descending ∨ r.state = .arrested) : r.faulted .nodeLost =
      { r.resting .fault with cause := some .nodeLost, observed := some r.position, faultCoil := r.state == .opened } := by
  have hcoil : r.coilAfter .nodeLost = (r.state == .opened) := by
    rcases h with h | h | h | h <;> simp only [Shutter.coilAfter, Shutter.outputs, h] <;> rfl
  rw [Shutter.faulted, hcoil]
  rfl

theorem Does.hall_lost {r : Shutter} (hr : u.sht.get? n = some r) (hhall : r.isLanding = false)
    (hfloor : u.flr.waitsFor r.config.floor = false)
    (hst : r.state = .opened ∨ r.state = .closed ∨ r.state = .descending ∨ r.state = .arrested) :
    ∃ k ≤ 4, Does k [.sht (.lost n)] u ((u.onSht fun t => t.set n (some (r.faulted .nodeLost))).noticed
      (.shutterFault n .nodeLost r.position r.state)) := by
  obtain ⟨k, hk, hd⟩ := altered_faulted (s := u) (n := n) .nodeLost (by rcases hst with h | h | h | h <;> simp [h]) hhall hfloor
  refine ⟨1 + (k + 1), by omega, .sht (m := .lost n) (f := fun t => t.set n (some (r.faulted .nodeLost))) (fun q => ?_)
    (hd.append (Does.notice _ _))⟩
  have hfault := shutterFault_held (s := u.during q []) hr (by rcases hst with h | h | h | h <;> simp [h])
    (by rcases hst with h | h | h | h <;> simp [h]) .nodeLost
  simp only [shutterTake, shutterLost, State.during_sht, hr]
  rcases hst with h | h | h | h <;> simp only [h] <;> exact hfault.trans (by rw [h]; rfl)

theorem Does.faulty_lost {r : Shutter} (hr : u.sht.get? n = some r) (hst : r.state = .unseen ∨ r.state = .fault) :
    Does 1 [.sht (.lost n)] u u :=
  .sht_same fun q => by
    simp only [shutterTake, shutterLost, State.during_sht, hr]
    rcases hst with h | h <;> simp only [h]

/-! ### A node LOST -/

theorem Calls.closed_own (c : Calls) {before after : List Call} {r : Call} {b : Nat} {st : Station}
    (hst : present? c.stations n = some st) (horigin : r.origin = .button n b) :
    c.closed before after r = { c with
      calls := before ++ after
      staff := match r.member with
        | some m => c.staff.modify m fun x => { x with assigned := none }
        | none => c.staff
      stations := c.stations.set n (some { st with
        openCall := st.openCall.set b none, window := st.window.set b .stopped }) } := by
  unfold Calls.closed
  simp only [horigin, modify_eq_set (present?_eq_some.mp hst), Option.map_some] <;> rfl

theorem Calls.deaf_closed (c : Calls) {before after : List Call} {r : Call} {b : Nat} {st : Station}
    (hst : present? c.stations n = some st) (horigin : r.origin = .button n b) :
    (c.deaf n st).closed before after r = { c with
      calls := before ++ after
      staff := match r.member with
        | some m => c.staff.modify m fun x => { x with assigned := none }
        | none => c.staff
      stations := c.stations.set n (some { st with
        openCall := st.openCall.set b none, window := st.window.map fun _ => .stopped }) } := by
  have hn : n < c.stations.length := (List.getElem?_eq_some_iff.mp (present?_eq_some.mp hst)).1
  have hdeaf : present? (c.deaf n st).stations n = some { st with window := st.window.map fun _ => .stopped } :=
    present?_eq_some.mpr (List.getElem?_set_self hn)
  have hstopped : (st.window.map fun _ => Timer.stopped).set b .stopped = st.window.map fun _ => .stopped := by
    rw [List.map_const', List.set_replicate_self]
  rw [Calls.closed_own _ hdeaf horigin]
  simp only [Calls.deaf, List.set_set, hstopped]

/-- The third miss hands on what the kind of the node brings. -/
theorem exec_pollMissed_lost {w : State} {j : Nat} (hs : s.quiet = true) (hpolled : s.flp.polled = some a)
    (hnode : s.flp.node? a = some node) (hstate : node.state ≠ .lost) (hmisses : 2 ≤ node.misses)
    (hd : Does j (lostMsgs s a node.kind) (s.missed a { node with misses := 3, state := .lost }) w) (hj : j ≤ 20)
    (hroom : w.snd.roomDue = s.snd.roomDue := by rfl) :
    exec .pollMissed s = .next (w.noticed (.nodeLost a node.kind)) :=
  settle_event (b := .flp) hs (loopMissed_lost hpolled hnode hstate hmisses) (hd.append (.notice _ _)) (hroom := hroom)
    (hn := by omega)

end

/-- Settles O54: one press, one acknowledgement or one changed slot in an image, and what each kind of node brings as it is
LOST. -/
theorem stationAndDetectorInputs : Obligations.StationAndDetectorInputs := by
  refine ⟨?_, ?_⟩
  · intro s address in0 in1 hs a hpolled node hnode hpresent old hold seen reply
    have hseen : s.imaged a node ⟨in0, in1⟩ = seen := by
      simp only [State.imaged, seen, ← hpresent]
    have hreply {w : State} {ms : List Msg} {k : Nat} (hms : changeMsgs s a node ⟨in0, in1⟩ = ms) (hd : Does k ms seen w)
        (hk : k ≤ 20) (hroom : w.snd.roomDue = s.snd.roomDue) : reply = .next w :=
      exec_pollReply_changes hs hpolled hnode hpresent hms ⟨k, hk, by rw [hseen]; exact hd⟩ hroom
    have hfound : seen.flp.isPresent a = true := hseen ▸ State.imaged_present hnode _
    refine ⟨fun n st hst hkind hat hsta => ?_, fun n slot d hd hkind hslot hone hda hdslot honly hnormal zone hzone hzst => ?_⟩
    · have hone {k : Nat} (h : ∀ j < 5, (in0.getLsbD j = true ∧ old.byte0.getLsbD j = false) ↔ j = k) :=
        (changeMsgs_station (s := s) (a := a) (in1 := in1) hkind hold).trans (stationMsgs_one h)
      have hpress {k : Nat} (hk : k < 4) (h : ∀ j < 5, (in0.getLsbD j = true ∧ old.byte0.getLsbD j = false) ↔ j = k) :=
        (hone h).trans (if_pos hk)
      have hstation : seen.flp.isPresent st.config.node = true := by rw [hsta]; exact hfound
      refine ⟨fun k hk h hfree hunused => ?_, fun k hk h hfree team number huse hfloor hteam hexists hroom hnumber hnew => ?_,
        fun h hnone before r after b hcalls horigin holdest hothers _ hqueue hplaying => ?_⟩
      · exact hreply (hpress hk h) (Does.press_unused hat (placing_unused hk hst hstation hfree hunused)) (by norm_num) rfl
      · obtain ⟨t, ht⟩ := Option.ne_none_iff_exists'.mp hexists
        obtain ⟨hring, hbusy⟩ := hteam t ht
        have hsearch := Calls.search_all_busy ht hbusy
        exact hreply (hpress hk h) (Does.press_opens hat hst (placing_opens (Nat.le_of_lt_succ hk) hst hstation hfree huse
          (callsRefused_eq_false hfloor) ht hring hroom) hnumber hnew hsearch) (by norm_num) rfl
      · obtain ⟨k, hk, hd⟩ := Does.acknowledge (u := seen) hat hst hcalls hnone horigin holdest hothers hqueue hplaying
        refine (hreply (hone h) hd (by omega) rfl).trans ?_
        exact congrArg (fun v : State => Host.Outcome.next ((v.noticed _).noticed _))
          (State.onCal_congr (s := seen) (Calls.closed_own s.cal hst horigin))
    · have hslotMsgs := (changeMsgs_detector (s := s) (a := a) (in1 := in1) hkind hold).trans (detectorMsgs_one hslot hone)
      refine ⟨fun halarm hmanual hconfirm => ?_, fun hfault => ?_⟩
      · rw [halarm] at hslotMsgs
        exact hreply hslotMsgs (Does.slot (u := seen) hd hda hdslot honly
          (fun q => fireInputChange_confirms (u := seen) hd hnormal hzone hzst hmanual hconfirm) (.notice _ _)) (by norm_num) rfl
      · rw [hfault] at hslotMsgs
        exact hreply hslotMsgs (Does.slot (u := seen) hd hda hdslot honly
          (fun q => fireInputChange_faults (u := seen) hd hnormal hzone hzst) (.notice _ _)) (by norm_num) rfl
  · intro s a n hs hpolled node hnode hstate hmisses missed
    refine ⟨fun st hst hkind hsta honly before r after b hcalls horigin hothers hqueue hplaying => ?_,
      fun d hd hkind hda hnormal honly zone hzone hzst => ?_, fun r hr hkind hra hhall honly hfloor => ?_⟩
    · obtain ⟨k, hk, hd⟩ := Does.station_lost (u := missed) hst hsta honly hcalls horigin hothers hqueue hplaying
      have hmsgs : lostMsgs s a node.kind = [.cal (.stationLost a)] := by rw [hkind, lostMsgs]
      refine (exec_pollMissed_lost hs hpolled hnode hstate hmisses (hmsgs.symm ▸ hd) (by omega)).trans ?_
      rw [hkind]
      exact congrArg (fun v : State => Host.Outcome.next ((v.noticed _).noticed _))
        (State.onCal_congr (s := missed) (Calls.deaf_closed s.cal hst horigin))
    · have hmsgs : lostMsgs s a node.kind = [.fir (.nodeLost a)] := by rw [hkind, lostMsgs]
      rw [← hkind]
      exact exec_pollMissed_lost hs hpolled hnode hstate hmisses (by
        rw [hmsgs]
        exact Does.detector_lost (u := missed) hd hda honly
          (fun q => fireInputChange_faults (u := missed) hd hnormal hzone hzst) (.notice _ _)) (by norm_num)
    · have hlost : lostMsgs s a node.kind = [.sht (.lost n)] := by
        have hwhere : presentWhere s.sht.table (fun r => r.config.node == a) = [n] := by
          refine presentWhere_eq_singleton fun k => ⟨?_, ?_⟩
          · rintro ⟨x, hx, hnamed⟩
            exact honly k (List.getElem?_eq_some_iff.mp (present?_eq_some.mp hx)).1 x hx (beq_iff_eq.mp hnamed)
          · rintro rfl
            exact ⟨r, hr, beq_iff_eq.mpr hra⟩
        rw [hkind, lostMsgs, hwhere]
        rfl
      have hexec {w : State} {k : Nat} (hd : Does k [.sht (.lost n)] missed w) (hk : k ≤ 20)
          (hroom : w.snd.roomDue = s.snd.roomDue) : exec .pollMissed s = .next (w.noticed (.nodeLost a .shutter)) := by
        rw [← hkind]
        exact exec_pollMissed_lost hs hpolled hnode hstate hmisses (by rw [hlost]; exact hd) hk hroom
      refine ⟨fun hst => ?_, fun hst => hexec (Does.faulty_lost (u := missed) hr hst) (by norm_num) rfl⟩
      obtain ⟨k, hk, hd⟩ := Does.hall_lost (u := missed) hr hhall hfloor hst
      refine (hexec hd (by omega) rfl).trans ?_
      rw [Shutter.faulted_nodeLost hst]

end Sys2Proof.Machine
end

section
/-! PROOF of O44 ClockEvents; the parts of a cue's life that O45 shares with it. -/

namespace Sys2Proof.Machine

theorem Clock.mapCue_eq {c : Clock} {n : Nat} {q : Cue} (hq : c.cues[n]? = some q) (f : Cue → Cue) :
    c.mapCue n f = { c with cues := c.cues.set n (f q) } := by
  rw [Clock.mapCue, modify_eq_set hq]

/-- The part with the cue's record replaced. -/
def State.withCue (u : State) (n : Nat) (q : Cue) : State := u.onClk fun c => { c with cues := c.cues.set n q }

theorem State.withCue_get {u : State} {n : Nat} {q q' : Cue} (hq : u.clk.cues[n]? = some q) :
    (u.withCue n q').clk.cues[n]? = some q' :=
  List.getElem?_set_self (List.getElem?_eq_some_iff.mp hq).1

theorem State.onClk_mapCue {u : State} {n : Nat} {q : Cue} (hq : u.clk.cues[n]? = some q) (f : Cue → Cue) :
    (u.onClk fun c => c.mapCue n f) = u.withCue n (f q) :=
  State.onClk_congr (Clock.mapCue_eq hq f)

/-! ### The second (R132) -/

theorem Clock.second_eq (c : Clock) : c.second =
    if c.isSet = false then c
    else { c with
      time := if c.time < 86399 then c.time + 1 else 0
      day := if c.time < 86399 then c.day else (c.day + 1) % 7
      cues := c.cues.map fun q => if q.phase = .waiting then { q with lead := q.lead - 1 } else q } := by
  unfold Clock.second
  cases c.isSet with
  | false => rfl
  | true =>
    by_cases ht : c.time < 86399
    · simp only [if_pos ht]
      rfl
    · simp only [if_neg ht]
      rfl

/-! ### Reservations (R106, R107) -/

section
variable {u w : State} {n : Nat}

/-- The list with the cue's entry replaced. -/
def Sounder.reserved (u : Sounder) (n start lead length : Nat) (zones : List Nat) : Sounder :=
  { u with reservations := (insertBy reservationBefore
    { cue := n, start := start, finish := (start + Config.toSeconds length) % 86400, lead := lead, length := length
      zones := zones } (u.reservations.filter fun r => r.cue ≠ n)) }

theorem filter_other_cues (l : List Reservation) (n : Nat) :
    (l.filter fun r => r.cue != n) = l.filter fun r => r.cue ≠ n :=
  List.filter_congr fun _ _ => bne_eq_decide_ne ..

theorem soundReservationPut_quiet {s : State} {start lead length : Nat} {zones : List Nat}
    (h : ∀ p ∈ s.snd.playing, p.sounding.cls ≠ .callUrgent ∧ p.sounding.cls ≠ .callNormal) :
    soundReservationPut (makeReservation n start lead length zones) s =
      s.onSnd fun u => u.reserved n start lead length zones := by
  have hput : (s.onSnd fun u => u.putReservation (makeReservation n start lead length zones)) =
      s.onSnd fun u => u.reserved n start lead length zones := State.onSnd_congr (by
    simp only [Sounder.putReservation, Sounder.reserved, makeReservation, filter_other_cues]
    rfl)
  have hnone : ((s.onSnd fun u => u.reserved n start lead length zones).snd.playing.any fun p =>
      p.sounding.cls.isCall && setsMeet p.sounding.zones zones && decide (lead < p.left)) = false :=
    List.any_eq_false.mpr fun p hp => by
      obtain ⟨hu, hn⟩ := h p hp
      simp [SoundClass.isCall]
  unfold soundReservationPut
  simp only [hput]
  exact if_neg (Bool.eq_false_iff.mp hnone)

theorem Does.enterReservation {start length : Nat} {zones : List Nat} (hroom : u.snd.reservationsFull n = false)
    (hplaying : u.snd.playing = []) :
    Does 1 [.snd (.enterReservation n start length zones)] u (u.onSnd fun v => v.reserved n start 6000 length zones) :=
  .snd (f := fun v => v.reserved n start 6000 length zones) (ms := []) (fun q => by
    refine (if_neg (Bool.eq_false_iff.mp hroom)).trans ((soundReservationPut_quiet (s := u.during q []) fun p hp => ?_).trans
      (State.post_nil _).symm)
    have hmem : p ∈ u.snd.playing := hp
    simp [hplaying] at hmem) (.nil _)

/-- A reservation whose lead has run out is moved. -/
theorem Does.moveReservation {start lead : Nat} {r : Reservation}
    (hr : (u.snd.reservations.find? fun r => r.cue == n) = some r) (hqueue : u.snd.queue = [])
    (hplaying : ∀ p ∈ u.snd.playing, p.sounding.cls ≠ .callUrgent ∧ p.sounding.cls ≠ .callNormal) :
    ∃ k ≤ 2, Does k [.snd (.moveReservation n start lead)] u
      (u.onSnd fun v => v.reserved n start lead r.length r.zones) := by
  have hmove (q : List Request) : soundMove n start lead (u.during q []) =
      if r.lead < lead then ((u.onSnd fun v => v.reserved n start lead r.length r.zones).during q []).post [.snd .startPass]
      else (u.onSnd fun v => v.reserved n start lead r.length r.zones).during q [] := by
    unfold soundMove
    simp only [State.during_snd, hr]
    rw [soundReservationPut_quiet (s := u.during q []) hplaying]
    rfl
  by_cases hlead : r.lead < lead
  · exact ⟨1 + 1, le_rfl, .snd (fun q => (hmove q).trans (if_pos hlead)) (.startPass_empty hqueue)⟩
  · exact ⟨1 + 0, by norm_num, .snd (fun q => ((hmove q).trans (if_neg hlead)).trans (State.post_nil _).symm) (.nil _)⟩

/-- The part with the cue's reservation gone. -/
def State.unreserved (u : State) (n : Nat) : State :=
  u.onSnd fun v => { v with reservations := v.reservations.filter fun r => r.cue ≠ n }

theorem Does.removeReservation (hqueue : u.snd.queue = []) :
    ∃ k ≤ 2, Does k [.snd (.removeReservation n)] u (u.unreserved n) := by
  by_cases hany : (u.snd.reservations.any fun r => r.cue == n) = true
  · refine ⟨1 + 1, le_rfl, .snd (f := fun v => { v with reservations := v.reservations.filter fun r => r.cue ≠ n })
      (fun q => ?_) (.startPass_empty hqueue)⟩
    simp only [soundTake, soundRemove, State.during_snd, hany, if_true, filter_other_cues]
  · have hnone : ∀ r ∈ u.snd.reservations, r.cue ≠ n := by simpa using hany
    have hsame : u.unreserved n = u := State.onSnd_congr (g := id) (by
      have hall : (u.snd.reservations.filter fun r => r.cue ≠ n) = u.snd.reservations :=
        List.filter_eq_self.mpr fun r hr => by simpa using hnone r hr
      rw [hall]
      rfl)
    rw [hsame]
    exact ⟨1, by norm_num, .removeReservation_none hnone⟩

/-! ### The slot (R136, R137) -/

theorem Does.startCue_free {pattern repeats : Nat} {zones : List Nat} {q : Cue} (hq : u.clk.cues[n]? = some q)
    (hfree : u.snd.free zones = true) : Does 2 [.snd (.startCue n pattern repeats zones)] u
      ((u.onSnd fun v => { v with
        playing := v.playing ++ [v.begun (v.cue pattern zones repeats (.scheduled n))], nextStamp := v.nextStamp + 1 }).withCue
          n { q with phase := .sounding }) := by
  refine .snd (f := fun v => { v with
      playing := v.playing ++ [v.begun (v.cue pattern zones repeats (.scheduled n))], nextStamp := v.nextStamp + 1 })
    (ms := [.clk (.started n)]) (fun q' => ?_) (.clk (ms := []) (fun q' => ?_) (.nil _))
  · exact (if_pos ((Sounder.zonesFree_iff _ _).mpr hfree)).trans rfl
  · simp only [clockTake, cueStarted, State.post_nil]
    exact State.onClk_congr (Clock.mapCue_eq (c := u.clk) hq _)

theorem Does.startCue_clashes {pattern repeats k : Nat} {zones : List Nat} (hfree : u.snd.free zones = false)
    (hd : Does k [.clk (.clashed n)] u w) : Does (1 + k) [.snd (.startCue n pattern repeats zones)] u w :=
  .snd (f := id) (ms := [.clk (.clashed n)]) (fun q' => by
    refine (if_neg ?_).trans rfl
    rw [Sounder.zonesFree_iff]
    exact Bool.eq_false_iff.mp hfree) hd

/-- A clash with a retry left. -/
theorem Does.clashed_retries {q : Cue} {r : Reservation} (hq : u.clk.cues[n]? = some q)
    (hphase : q.phase = .reserved ∨ q.phase = .retrying) (hretries : q.retries < q.config.retryLimit)
    (hr : (u.snd.reservations.find? fun r => r.cue == n) = some r) (hqueue : u.snd.queue = [])
    (hplaying : ∀ p ∈ u.snd.playing, p.sounding.cls ≠ .callUrgent ∧ p.sounding.cls ≠ .callNormal) :
    ∃ k ≤ 4, Does k [.clk (.clashed n)] u
      (((u.withCue n { q with phase := .retrying, retries := q.retries + 1 }).onSnd fun v =>
        v.reserved n (u.clk.retryStart q) (20 * q.config.retryInterval) r.length r.zones).noticed
          (.cueClashed n (q.retries + 1) (u.clk.retryStart q))) := by
  obtain ⟨k, hk, hd⟩ := Does.moveReservation (u := u.withCue n { q with phase := .retrying, retries := q.retries + 1 })
    (start := u.clk.retryStart q) (lead := 20 * q.config.retryInterval) hr hqueue hplaying
  refine ⟨1 + (k + 1), by omega, .clk (f := fun c => { c with
    cues := c.cues.set n { q with phase := .retrying, retries := q.retries + 1 } }) (fun q' => ?_) (hd.append (.notice _ _))⟩
  have hlive : (!(decide (q.phase = .reserved) || decide (q.phase = .retrying) || decide (q.phase = .sounding))) = false := by
    rcases hphase with h | h <;> simp [h]
  have hlead : Config.seconds q.config.retryInterval = 20 * q.config.retryInterval := Nat.mul_comm ..
  simp only [clockTake, cueClashed, State.during_clk, hq, hlive, Bool.false_eq_true, if_false, hretries, if_true, hlead]
  rw [State.onClk_mapCue (u := u.during q' []) hq]
  rfl

/-- The slot's messages, as the cue's lead runs out. -/
theorem exec_cueSlot {s w : State} {q : Cue} {k : Nat} (hs : s.quiet = true) (hq : s.clk.cues[n]? = some q)
    (hphase : q.phase = .reserved ∨ q.phase = .retrying)
    (hd : Does k [.snd (.startCue n q.config.pattern q.config.repeats q.config.zones)]
      (s.onSnd fun u => { u with reservations := u.reservations.map fun r => if r.cue = n then { r with lead := 0 } else r }) w)
    (hk : k ≤ 20) (hroom : w.snd.roomDue = s.snd.roomDue) : exec (.cueSlot n) s = .next w := by
  refine settle_event (b := .clk) (v := s.onSnd fun u =>
    { u with reservations := u.reservations.map fun r => if r.cue = n then { r with lead := 0 } else r })
    (s := ownSnd (soundLeadOut n) s) hs ?_ hd (hroom := hroom) (hn := by omega)
  have hlive : (decide (q.phase = .reserved) || decide (q.phase = .retrying)) = true := by
    rcases hphase with h | h <;> simp [h]
  have hget : (ownSnd (soundLeadOut n) s).clk.cues[n]? = some q := hq
  unfold cueSlot
  simp only [hget, hlive, if_true]
  rfl

end

theorem find?_leadOut {l : List Reservation} {n : Nat} {r : Reservation} (h : (l.find? fun r => r.cue == n) = some r) :
    ((l.map fun r => if r.cue = n then { r with lead := 0 } else r).find? fun r => r.cue == n) =
      some { r with lead := 0 } := by
  have hcue : r.cue = n := by simpa using List.find?_some h
  have hsame : ((fun r => r.cue == n) ∘ fun r : Reservation => if r.cue = n then { r with lead := 0 } else r) =
      fun r => r.cue == n := by
    funext x
    by_cases hx : x.cue = n <;> simp [hx]
  rw [List.find?_map, hsame, h, Option.map_some, if_pos hcue]

theorem filter_leadOut (l : List Reservation) (n : Nat) :
    ((l.map fun r => if r.cue = n then { r with lead := 0 } else r).filter fun r => r.cue ≠ n) =
      l.filter fun r => r.cue ≠ n := by
  induction l with
  | nil => rfl
  | cons x l ih =>
    by_cases hx : x.cue = n <;> simp [hx] at ih ⊢ <;> exact ih

/-! ### The lead of a WAITING cue (R135) -/

theorem cueDue_reserves {s : State} {n : Nat} {q : Cue} {o : Occurrence} (hq : s.clk.cues[n]? = some q)
    (hphase : q.phase = .waiting) (ho : q.occurrence = some o) (hroom : s.snd.reservationsFull n = false) :
    cueDue n s = (s.withCue n { q with phase := .reserved, lead := 0 }).post
      [.snd (.enterReservation n o.time (cueLength q s) q.config.zones)] := by
  unfold cueDue cueReserve
  simp only [hq, Option.any_some, hphase, beq_self_eq_true, if_true, hroom, Bool.false_eq_true, if_false, ho, Option.map_some,
    Option.getD_some]
  rw [State.onClk_mapCue hq, ho]

theorem Sounder.reservationsFull_eq_false {u : Sounder} (h : u.reservations.length < 16) (n : Nat) :
    u.reservationsFull n = false := by
  have hroom : ¬ Config.reservationPlaces ≤ u.reservations.length := Nat.not_le.mpr h
  simp [Sounder.reservationsFull, hroom]

end Sys2Proof.Machine
end

section
/-! The clock's second, the reservation and the slot. -/

namespace Sys2Proof.Machine

/-- Settles O44: the second by midnight or not, and the slot by free zones or a clash. -/
theorem clockEvents : Obligations.ClockEvents := by
  refine ⟨fun s hs => ?_, fun s n hs q hq hphase hplaying hroom o ho => ?_, fun s n hs q hq hphase =>
    ⟨fun hfree => ?_, fun hfree hretries hqueue hplaying r hr => ?_⟩⟩
  · have hsecond : clockSecond s = if s.clk.isSet = false then s else s.onClk fun c => { c with
        time := if c.time < 86399 then c.time + 1 else 0
        day := if c.time < 86399 then c.day else (c.day + 1) % 7
        cues := c.cues.map fun q => if q.phase = .waiting then { q with lead := q.lead - 1 } else q } := by
      rw [clockSecond, State.onClk_congr (g := fun _ => s.clk.second) rfl, Clock.second_eq]
      split <;> rfl
    exact settle_event_silent (b := .clk) hs hsecond (by split <;> rfl) (by split <;> rfl) (by split <;> rfl)
  · intro length
    have hfull := Sounder.reservationsFull_eq_false hroom n
    exact settle_event (b := .clk) hs (cueDue_reserves hq hphase ho hfull)
      (Does.enterReservation (u := s.withCue n { q with phase := .reserved, lead := 0 }) (start := o.time)
        (length := length) (zones := q.config.zones) hfull hplaying)
  · exact exec_cueSlot hs hq hphase (Does.startCue_free hq hfree) (by norm_num) rfl
  · intro start
    obtain ⟨k, hk, hd⟩ := Does.clashed_retries (u := s.onSnd fun u =>
      { u with reservations := u.reservations.map fun r => if r.cue = n then { r with lead := 0 } else r })
      hq hphase hretries (find?_leadOut hr) hqueue hplaying
    refine (exec_cueSlot hs hq hphase (Does.startCue_clashes hfree hd) (by omega) rfl).trans ?_
    have hreserved : ({ s.snd with
        reservations := s.snd.reservations.map fun r => if r.cue = n then { r with lead := 0 } else r } : Sounder).reserved n
          start (20 * q.config.retryInterval) r.length r.zones =
        s.snd.reserved n start (20 * q.config.retryInterval) r.length r.zones := by
      simp only [Sounder.reserved, filter_leadOut]
    exact congrArg (fun v : Sounder => Host.Outcome.next
      (({ s.withCue n { q with phase := .retrying, retries := q.retries + 1 } with snd := v } : State).noticed
        (.cueClashed n (q.retries + 1) start))) hreserved

end Sys2Proof.Machine
end

section
/-! PROOF of O45 CueOccurrences. -/

namespace Sys2Proof.Machine

/-! ### The next occurrence (R134) -/

theorem findSome?_ite {α β : Type} (p : α → Bool) (g : α → β) (l : List α) :
    l.findSome? (fun x => if p x then some (g x) else none) = (l.find? p).map g := by
  induction l with
  | nil => rfl
  | cons x l ih =>
    cases h : p x with
    | false => rw [List.findSome?_cons, List.find?_cons_of_neg (Bool.eq_false_iff.mp h), h]; exact ih
    | true => rw [List.findSome?_cons, List.find?_cons_of_pos h, h]; rfl

/-- The cue's time comes `d` days ahead, on a day of its mask. -/
def CueConfig.occursIn (config : CueConfig) (ref : Occurrence) (d : Nat) : Bool :=
  config.days.contains ((ref.day + d) % 7) && (decide (0 < d) || decide (ref.time ≤ config.time))

theorem CueConfig.occursIn_iff {config : CueConfig} {ref : Occurrence} {d : Nat} : config.occursIn ref d = true ↔
    (ref.day + d) % 7 ∈ config.days ∧ (0 < d ∨ ref.time ≤ config.time) := by
  simp [CueConfig.occursIn]

theorem nextOccurrence_eq_find? (config : CueConfig) (ref : Occurrence) : nextOccurrence config ref =
    ((List.range 8).find? (config.occursIn ref)).map fun d =>
      (⟨(ref.day + d) % 7, config.time⟩, d * 86400 + config.time - ref.time) := by
  rw [← findSome?_ite, ← List.head?_filterMap]
  rfl

theorem nextOccurrence_none_iff {config : CueConfig} {ref : Occurrence} (hday : ref.day < 7)
    (hdays : ∀ d ∈ config.days, d < 7) : nextOccurrence config ref = none ↔ config.days = [] := by
  rw [nextOccurrence_eq_find?, Option.map_eq_none_iff, List.find?_eq_none]
  refine ⟨fun h => List.eq_nil_iff_forall_not_mem.mpr fun day hmem => ?_, fun h d _ => by simp [CueConfig.occursIn, h]⟩
  have hlt := hdays day hmem
  -- The day lies one to seven days ahead.
  let d := if ref.day < day then day - ref.day else day + 7 - ref.day
  have hd : 0 < d ∧ d < 8 ∧ (ref.day + d) % 7 = day := by
    simp only [d]
    split <;> omega
  obtain ⟨hpos, hrange, hsame⟩ := hd
  exact h d (List.mem_range.mpr hrange) (CueConfig.occursIn_iff.mpr ⟨hsame ▸ hmem, .inl hpos⟩)

theorem nextOccurrence_some {config : CueConfig} {ref o : Occurrence} {d : Nat}
    (h : nextOccurrence config ref = some (o, d)) : ∃ k < 8, config.occursIn ref k = true ∧
      (∀ j < k, config.occursIn ref j = false) ∧ o = ⟨(ref.day + k) % 7, config.time⟩ ∧
      d = k * 86400 + config.time - ref.time := by
  rw [nextOccurrence_eq_find?] at h
  obtain ⟨k, hk, hod⟩ := Option.map_eq_some_iff.mp h
  obtain ⟨hoccurs, hrange, hfirst⟩ := List.find?_range_eq_some.mp hk
  obtain ⟨rfl, rfl⟩ := Prod.mk.inj hod
  exact ⟨k, List.mem_range.mp hrange, hoccurs, fun j hj => by simpa using hfirst j hj, rfl, rfl⟩

/-- The next occurrence is the first moment of the week ahead on a day of the mask at the cue's time. -/
theorem nextOccurrence_spec {config : CueConfig} {ref o : Occurrence} {d : Nat}
    (htime : ref.time < 86400) (hconfig : config.time < 86400) (hdays : ∀ d ∈ config.days, d < 7)
    (h : nextOccurrence config ref = some (o, d)) : o.day ∈ config.days ∧ o.time = config.time ∧ d < 604800 ∧
      o.inWeek = (ref.inWeek + d) % 604800 ∧
      ∀ e < d, ∀ day ∈ config.days, (ref.inWeek + e) % 604800 ≠ day * 86400 + config.time := by
  obtain ⟨k, hk, hoccurs, hfirst, rfl, rfl⟩ := nextOccurrence_some h
  obtain ⟨hmem, hahead⟩ := CueConfig.occursIn_iff.mp hoccurs
  -- Seven days ahead counts only where the time of today is past.
  have hweek : k = 7 → config.time < ref.time := by
    rintro rfl
    refine not_le.mp fun hle => Bool.eq_false_iff.mp (hfirst 0 (by norm_num)) (CueConfig.occursIn_iff.mpr ⟨?_, .inr hle⟩)
    rwa [show (ref.day + 0) % 7 = (ref.day + 7) % 7 by omega]
  refine ⟨hmem, rfl, by omega, ?_, fun e he day hmem' heq => ?_⟩
  · simp only [Occurrence.inWeek]
    omega
  · have hlt := hdays day hmem'
    simp only [Occurrence.inWeek] at heq
    -- The earlier moment lies a whole number of days ahead.
    have hj : ∃ j < k, (ref.day + j) % 7 = day ∧ (0 < j ∨ ref.time ≤ config.time) := by
      refine ⟨(ref.time + e) / 86400, ?_, ?_, ?_⟩ <;> omega
    obtain ⟨j, hjk, hsame, hjahead⟩ := hj
    exact Bool.eq_false_iff.mp (hfirst j hjk) (CueConfig.occursIn_iff.mpr ⟨hsame ▸ hmem', hjahead⟩)

/-! ### Leads (R134, R138) -/

theorem weekOffset_eq {a b : Occurrence} {d : Nat} (h : circMinus weekSeconds b.inWeek a.inWeek = d) :
    weekOffset a b = if 2 * d < 604800 then (d : Int) else d - 604800 := by
  unfold weekOffset
  rw [h]
  rfl

theorem weekOffset_ahead {a b : Occurrence} {k : Nat} (hk : k ≤ 300) (h : (a.inWeek + k) % 604800 = b.inWeek) :
    weekOffset a b = k := by
  have hd : circMinus weekSeconds b.inWeek a.inWeek = k := by
    simp only [circMinus, weekSeconds]
    omega
  exact (weekOffset_eq hd).trans (if_pos (by omega))

theorem weekOffset_past {a b : Occurrence} {k : Nat} (hk : k ≤ 1232) (hb : b.inWeek < 604800)
    (h : (b.inWeek + k) % 604800 = a.inWeek) : weekOffset a b = -(k : Int) := by
  by_cases hzero : k = 0
  · subst hzero
    simpa using weekOffset_ahead (a := a) (b := b) (k := 0) (by norm_num) (by omega)
  · have hd : circMinus weekSeconds b.inWeek a.inWeek = 604800 - k := by
      simp only [circMinus, weekSeconds]
      omega
    refine (weekOffset_eq hd).trans ((if_neg (by omega)).trans ?_)
    omega

theorem Occurrence.inWeek_lt {o : Occurrence} (hday : o.day < 7) (htime : o.time < 86400) : o.inWeek < 604800 := by
  simp only [Occurrence.inWeek]
  omega

/-! ### An occurrence done (R134) -/

section
variable {u w : State} {n : Nat} {q : Cue} {o o' : Occurrence} {d' : Nat}

theorem Clock.idle_eq_false {c : Clock} {q : Cue} (hset : c.isSet = true) (henabled : q.config.enabled = true)
    (hdays : q.config.days ≠ []) : c.idle q = false := by
  simp [Clock.idle, hset, henabled, hdays]

/-- The cue as it waits for its next occurrence. -/
def Cue.waits (q : Cue) (o : Occurrence) (lead : Nat) : Cue := ⟨q.config, .waiting, some o, lead, 0⟩

/-- The occurrence of a cue is done, `off` seconds from now. -/
theorem cueDone_eq {lead : Nat} (hq : u.clk.cues[n]? = some q) (hidle : u.clk.idle q = false)
    (ho : q.occurrence = some o) (hnext : nextOccurrence q.config o.next = some (o', d'))
    (hlead : (weekOffset u.clk.now o + 1 + d').toNat = lead) : cueDone n u = u.withCue n (q.waits o' lead) := by
  have hafter : u.clk.afterDone q = q.waits o' lead := by
    simp only [Clock.afterDone, hidle, ho, hnext, Option.map_some, Cue.await, hlead, Cue.waits]
  have hhere : cueDone n u = u.onClk fun c => c.mapCue n u.clk.afterDone := State.onClk_congr rfl
  rw [hhere, State.onClk_mapCue hq, hafter]

theorem lead_of_ahead {k : Nat} (hk : k ≤ 300) (h : (u.clk.now.inWeek + k) % 604800 = o.inWeek) (d' : Nat) :
    (weekOffset u.clk.now o + 1 + d').toNat = k + 1 + d' := by
  rw [weekOffset_ahead hk h]
  omega

theorem lead_of_past {k : Nat} (hk : k ≤ 1232) (ho : o.inWeek < 604800)
    (h : (o.inWeek + k) % 604800 = u.clk.now.inWeek) (d' : Nat) :
    (weekOffset u.clk.now o + 1 + d').toNat = 1 + d' - k := by
  rw [weekOffset_past hk ho h]
  omega

/-! ### Reservation and slot (R135, R136, R137) -/

theorem cueDue_skips {lead : Nat} (hphase : q.phase = .waiting) (hq : u.clk.cues[n]? = some q)
    (hfull : u.snd.reservationsFull n = true) (hdone : cueDone n u = u.withCue n (q.waits o' lead)) :
    cueDue n u = (u.withCue n (q.waits o' lead)).post [.lnk (.notice (.cueSkipped n q.occurrence .listFull))] := by
  unfold cueDue cueReserve
  simp only [hq, Option.any_some, hphase, beq_self_eq_true, if_true, hfull, hdone]
  rfl

/-- A clash with no retry left. -/
theorem Does.clashed_lost {lead : Nat} (hq : u.clk.cues[n]? = some q) (hphase : q.phase = .reserved ∨ q.phase = .retrying)
    (hretries : q.config.retryLimit ≤ q.retries) (hqueue : u.snd.queue = [])
    (hdone : ∀ q', cueDone n (u.during q' []) = (u.during q' []).withCue n (q.waits o' lead)) :
    ∃ k ≤ 4, Does k [.clk (.clashed n)] u
      (((u.withCue n (q.waits o' lead)).unreserved n).noticed (.cueLost n q.occurrence (q.config.retryLimit + 1))) := by
  obtain ⟨k, hk, hd⟩ := Does.removeReservation (u := u.withCue n (q.waits o' lead)) (n := n) hqueue
  refine ⟨1 + (k + 1), by omega, .clk (f := fun c => { c with cues := c.cues.set n (q.waits o' lead) }) (fun q' => ?_)
    (hd.append (.notice _ _))⟩
  have hlive : (!(decide (q.phase = .reserved) || decide (q.phase = .retrying) || decide (q.phase = .sounding))) = false := by
    rcases hphase with h | h <;> simp [h]
  simp only [clockTake, cueClashed, State.during_clk, hq, hlive, Bool.false_eq_true, if_false, if_neg (Nat.not_lt.mpr hretries)]
  exact congrArg (State.post · _) (hdone q')

theorem Does.cue_ended {lead : Nat} (hq : u.clk.cues[n]? = some q) (hphase : q.phase = .sounding) (hqueue : u.snd.queue = [])
    (hdone : ∀ q', cueDone n (u.during q' []) = (u.during q' []).withCue n (q.waits o' lead)) :
    ∃ k ≤ 4, Does k [.clk (.ended n)] u
      (((u.withCue n (q.waits o' lead)).unreserved n).noticed (.cueSounded n q.retries)) := by
  obtain ⟨k, hk, hd⟩ := Does.removeReservation (u := u.withCue n (q.waits o' lead)) (n := n) hqueue
  refine ⟨1 + (k + 1), by omega, .clk (f := fun c => { c with cues := c.cues.set n (q.waits o' lead) }) (fun q' => ?_)
    (hd.append (.notice _ _))⟩
  simp only [clockTake, cueEnded, State.during_clk, hq, hphase, if_true]
  exact congrArg (State.post · _) (hdone q')

/-! ### The rebuild rule (R138) -/

/-- The fresh occurrence of a cue that does not sound and has no reservation. -/
theorem cueRebuild_fresh (hq : u.clk.cues[n]? = some q) (hphase : q.phase ≠ .sounding) (cut : Bool) :
    cueRebuild n cut u = cueFresh n q (u.post [.snd (.removeReservation n)]) := by
  have hcut : (cut && q.phase == .sounding) = false := by simp [hphase]
  unfold cueRebuild
  simp only [hq, hcut]
  rfl

theorem cueFresh_waits {d : Nat} (hq : u.clk.cues[n]? = some q) (hidle : u.clk.idle q = false)
    (hnext : nextOccurrence q.config u.clk.now = some (o, d)) (hfar : 300 < d) :
    cueFresh n q u = u.withCue n (q.waits o d) := by
  unfold cueFresh
  simp only [hidle, hnext, State.onClk_mapCue hq, Config.horizon, if_neg (show ¬ d < 300 by omega),
    if_neg (show ¬ d = 300 by omega)]
  rfl

theorem cueFresh_reserves (hq : u.clk.cues[n]? = some q) (hidle : u.clk.idle q = false)
    (hnext : nextOccurrence q.config u.clk.now = some (o, 300)) (hroom : u.snd.reservationsFull n = false) :
    cueFresh n q u = (u.withCue n ⟨q.config, .reserved, some o, 0, 0⟩).post
      [.snd (.enterReservation n o.time (cueLength q u) q.config.zones)] := by
  have hget : (u.withCue n (q.waits o 300)).clk.cues[n]? = some (q.waits o 300) := State.withCue_get hq
  have hreserve : cueReserve n (u.withCue n (q.waits o 300)) = (u.withCue n ⟨q.config, .reserved, some o, 0, 0⟩).post
      [.snd (.enterReservation n o.time (cueLength q u) q.config.zones)] := by
    have hroom' : (u.withCue n (q.waits o 300)).snd.reservationsFull n = false := hroom
    unfold cueReserve
    simp only [hget, hroom', Bool.false_eq_true, if_false, State.onClk_mapCue hget]
    simp only [State.withCue, State.onClk, List.set_set]
    rfl
  unfold cueFresh
  simp only [hidle, hnext, State.onClk_mapCue hq, Config.horizon, lt_irrefl, if_false, if_true]
  exact hreserve

theorem cueFresh_skips {d : Nat} (hq : u.clk.cues[n]? = some q) (hidle : u.clk.idle q = false)
    (hnext : nextOccurrence q.config u.clk.now = some (o, d)) (hnear : d < 300)
    (hweek : (u.clk.now.inWeek + d) % 604800 = o.inWeek) (hnext' : nextOccurrence q.config o.next = some (o', d')) :
    cueFresh n q u = (u.withCue n (q.waits o' (d + 1 + d'))).post [.lnk (.notice (.cueSkipped n (some o) .horizon))] := by
  have hget : (u.withCue n (q.waits o d)).clk.cues[n]? = some (q.waits o d) := State.withCue_get hq
  have hdone : cueDone n (u.withCue n (q.waits o d)) = u.withCue n (q.waits o' (d + 1 + d')) := by
    refine (cueDone_eq (lead := d + 1 + d') hget hidle rfl hnext' (lead_of_ahead (by omega) hweek d')).trans ?_
    simp only [State.withCue, State.onClk, List.set_set]
    rfl
  unfold cueFresh
  simp only [hidle, hnext, State.onClk_mapCue hq, Config.horizon, if_pos hnear]
  exact congrArg (State.post · _) hdone

/-- A cue that sounds is cut short as it becomes IDLE. -/
theorem cueRebuild_cut (hq : u.clk.cues[n]? = some q) (hphase : q.phase = .sounding) (hidle : u.clk.idle q = true) :
    cueRebuild n true u = (u.withCue n (q.await none)).post [.snd (.cancel (.scheduled n)),
      .lnk (.notice (.cueSkipped n q.occurrence .cut)), .snd (.removeReservation n)] := by
  have hcut : (true && q.phase == .sounding) = true := by simp [hphase]
  have hfresh := cueFresh_idle (n := n) (q := q) (s := (u.post [.snd (.cancel (.scheduled n)),
    .lnk (.notice (.cueSkipped n q.occurrence .cut))]).post [.snd (.removeReservation n)]) hidle
  unfold cueRebuild
  simp only [hq, hcut, if_true]
  refine hfresh.trans ((State.onClk_mapCue (u := (u.post [.snd (.cancel (.scheduled n)),
    .lnk (.notice (.cueSkipped n q.occurrence .cut))]).post [.snd (.removeReservation n)]) (q := q) hq _).trans ?_)
  simp only [State.withCue, State.onClk, State.post, List.append_assoc, List.cons_append, List.nil_append]

/-- The one sounding of its origin is cancelled. -/
theorem Does.cancel_playing {o : SoundOrigin} {before after : List Playing} {p : Playing} (hqueue : u.snd.queue = [])
    (hplaying : u.snd.playing = before ++ p :: after) (hfire : p.sounding.cls.isFire = false) (horigin : p.sounding.origin = o)
    (hothers : ∀ x ∈ before ++ after, x.sounding.origin ≠ o) :
    Does 2 [.snd (.cancel o)] u (u.onSnd fun v => { v with playing := before ++ after }) := by
  refine .snd (f := fun v => { v with playing := before ++ after }) (ms := [.snd .startPass]) (fun q' => ?_)
    (.startPass_empty hqueue)
  have hrunning : (u.snd.playing.any fun p => !p.sounding.cls.isFire && p.sounding.origin == o) = true :=
    List.any_eq_true.mpr ⟨p, by simp [hplaying], by simp [hfire, horigin]⟩
  have hkeep : ((before ++ after).filter fun p => p.sounding.cls.isFire || p.sounding.origin != o) = before ++ after :=
    List.filter_eq_self.mpr fun x hx => by simp [hothers x hx]
  have hgone : (u.snd.playing.filter fun p => p.sounding.cls.isFire || p.sounding.origin != o) = before ++ after := by
    rw [hplaying, List.filter_append, List.filter_cons_of_neg (by simp [hfire, horigin]), ← List.filter_append, hkeep]
  have hcancelled : ({ u.snd.remove fun x => x.origin == o with
      playing := u.snd.playing.filter fun p => p.sounding.cls.isFire || p.sounding.origin != o } : Sounder) =
      { u.snd with playing := before ++ after } := by
    simp [Sounder.remove, hqueue, hgone, Config.sounderPlaces]
  simp only [soundTake, soundCancel, State.during_snd, hrunning, if_true]
  exact congrArg (State.post · _) (State.onSnd_congr (s := u.during q' []) hcancelled)

end

end Sys2Proof.Machine
end

section
/-! What a cue comes to. -/

namespace Sys2Proof.Machine

section
variable {s w : State} {cue : Nat} {f : CueFields} {q x : Cue}

theorem CueFields.config_time_lt (h : f.inRange = true) : f.config.time < 86400 := by
  simp only [CueFields.inRange, Bool.and_eq_true, decide_eq_true_eq] at h
  obtain ⟨⟨⟨htime, -⟩, -⟩, -⟩ := h
  exact Nat.lt_succ_of_le htime

theorem CueFields.config_days_lt (f : CueFields) : ∀ d ∈ f.config.days, d < 7 := fun d hd => by
  simp only [CueFields.config, maskSet, List.mem_filter, List.mem_range] at hd
  exact hd.1

/-- The cue's record with the order's configuration. -/
def Cue.set (q : Cue) (f : CueFields) : Cue := { q with config := f.config }

/-- SET CUE replaces the configuration, and what its rebuild does follows. -/
theorem exec_setCue {k : Nat} {ms : List Msg} (hs : s.configReady = true) (hc : cue ≤ 23) (hf : f.inRange = true)
    (hq : s.clk.cues[cue]? = some q)
    (hrebuild : ∀ q', cueRebuild cue true ((s.withCue cue (q.set f)).during q' []) = ((s.withCue cue x).during q' []).post ms)
    (hd : Does k ms (s.withCue cue x) w) (hk : k ≤ 20) (tag : Nat) (hroom : w.snd.roomDue = s.snd.roomDue) :
    exec (.setCue tag cue f) s = .next (w.answered tag (.setCue cue f) (.done f.clamps [])) := by
  have hdoes : Does (1 + k) [.clk (.rebuild cue true)] (s.withCue cue (q.set f)) w := by
    refine .clk (f := fun c => { c with cues := c.cues.set cue x }) (ms := ms) (fun q' => (hrebuild q').trans ?_) ?_
    · simp only [State.withCue, State.onClk, State.during, List.set_set]
    · have hsame : ((s.withCue cue (q.set f)).onClk fun c => { c with cues := c.cues.set cue x }) = s.withCue cue x := by
        simp only [State.withCue, State.onClk, List.set_set]
      rw [hsame]
      exact hd
  refine exec_of_does (v := s.withCue cue (q.set f)) rfl (ready_of_configReady hs) (writing_of_configReady hs) (fun q' => ?_)
    hdoes (hroom := hroom) (hn := by omega)
  refine (orderSetCue_inRange (u := s.during q' []) hc hf).trans ?_
  rw [State.onClk_mapCue (u := s.during q' []) hq]
  rfl

end

/-- Settles O45: the first day ahead for the next occurrence, the rebuild by the lead, and an occurrence skipped, lost or
sounded as the cue that waits anew. -/
theorem cueOccurrences : Obligations.CueOccurrences := by
  refine ⟨fun config ref hday htime hconfig hdays => ⟨nextOccurrence_none_iff hday hdays, fun o d h =>
    nextOccurrence_spec htime hconfig hdays h⟩, ?_, ?_⟩
  · intro s tag cue f hs hc hf hset hday htime q hq at' answer
    have hget : (s.withCue cue (q.set f)).clk.cues[cue]? = some (q.set f) := State.withCue_get hq
    refine ⟨fun hphase hnone henabled o d hnext => ?_, fun hphase hdisabled hqueue before after p hplaying hcls horigin hothers =>
      ?_⟩
    · have hdays : f.config.days ≠ [] := fun h => by
        have hnone := (nextOccurrence_none_iff (ref := ⟨s.clk.day, s.clk.time⟩) hday (CueFields.config_days_lt f)).mpr h
        rw [hnone] at hnext
        cases hnext
      have hidle : s.clk.idle (q.set f) = false := Clock.idle_eq_false hset henabled hdays
      obtain ⟨-, htime', -, hweek, -⟩ := nextOccurrence_spec htime (CueFields.config_time_lt hf) (CueFields.config_days_lt f) hnext
      have hexec {w : State} {x : Cue} {k : Nat} {ms : List Msg} (hfresh : ∀ q', cueFresh cue (q.set f)
          (((s.withCue cue (q.set f)).during q' []).post [.snd (.removeReservation cue)]) =
            ((s.withCue cue x).during q' []).post (.snd (.removeReservation cue) :: ms))
          (hd : Does k ms (s.withCue cue x) w) (hk : k ≤ 10) (hroom : w.snd.roomDue = s.snd.roomDue) :
          exec (.setCue tag cue f) s = .next (answer w) :=
        exec_setCue hs hc hf hq (fun q' => (cueRebuild_fresh (u := (s.withCue cue (q.set f)).during q' []) hget hphase true).trans
          (hfresh q')) ((Does.removeReservation_none (u := s.withCue cue x) hnone).cons hd) (k := 1 + k) (by omega) tag hroom
      have hover (x y : Cue) (q' : List Request) (ms ms' : List Msg) :
          (((((s.withCue cue x).during q' []).post ms).withCue cue y).post ms') =
            ((s.withCue cue y).during q' []).post (ms ++ ms') := by
        simp only [State.withCue, State.onClk, State.post, State.during, List.set_set, List.append_assoc]
      refine ⟨fun hfar => ?_, fun hd hroom hplaying => ?_, fun hnear o' d' hnext' => ?_⟩
      · refine hexec (x := (q.set f).waits o d) (ms := []) (fun q' => ?_) (.nil _) (by norm_num) rfl
        rw [cueFresh_waits (u := ((s.withCue cue (q.set f)).during q' []).post _) hget hidle hnext hfar,
          ← State.post_nil (State.withCue _ _ _), hover]
        rfl
      · intro length
        subst hd
        have hfull := Sounder.reservationsFull_eq_false hroom cue
        have hkept : (s.snd.reservations.filter fun r => r.cue ≠ cue) = s.snd.reservations :=
          List.filter_eq_self.mpr fun r hr => by simpa using hnone r hr
        refine (hexec (x := ⟨f.config, .reserved, some o, 0, 0⟩) (fun q' => ?_)
          (Does.enterReservation (u := s.withCue cue ⟨f.config, .reserved, some o, 0, 0⟩) (start := o.time) (length := length)
            (zones := f.config.zones) hfull hplaying) (by norm_num) rfl).trans ?_
        · rw [cueFresh_reserves (u := ((s.withCue cue (q.set f)).during q' []).post _) hget hidle hnext hfull, hover]
          rfl
        · exact congrArg (fun l : List Reservation => Host.Outcome.next (answer { at' .reserved (some o) 0 with
            snd := { s.snd with reservations := insertBy reservationBefore _ l } })) hkept
      · refine hexec (x := (q.set f).waits o' (d + 1 + d')) (fun q' => ?_) (.notice _ _) (by norm_num) rfl
        rw [cueFresh_skips (u := ((s.withCue cue (q.set f)).during q' []).post _) hget hidle hnext hnear hweek.symm hnext', hover]
        rfl
    · have hidle : s.clk.idle (q.set f) = true := Clock.idle_of_disabled hdisabled
      obtain ⟨k, hk, hremove⟩ := Does.removeReservation (n := cue) (u := ((s.withCue cue ((q.set f).await none)).onSnd fun u =>
        { u with playing := before ++ after }).noticed (.cueSkipped cue q.occurrence .cut)) hqueue
      have hcancel := Does.cancel_playing (u := s.withCue cue ((q.set f).await none)) hqueue hplaying (by rw [hcls]; rfl)
        horigin hothers
      refine (exec_setCue hs hc hf hq (fun q' => ?_) (hcancel.cons ((Does.notice _ _).cons hremove)) (k := 2 + (1 + k)) (by omega) tag rfl).trans rfl
      rw [cueRebuild_cut (u := (s.withCue cue (q.set f)).during q' []) hget hphase hidle]
      simp only [State.withCue, State.onClk, State.post, State.during, List.set_set]
      rfl
  · intro s n k hs hset hqueue q hq henabled hdays o ho o' d' hnext hday htime hoday hotime now waits removed
    have hidle : s.clk.idle q = false := Clock.idle_eq_false hset henabled hdays
    refine ⟨fun hk hweek hphase hlen hnone => ?_, fun hk hweek => ?_⟩
    · have hfull : s.snd.reservationsFull n = true := by
        have hany : (s.snd.reservations.any fun r => r.cue == n) = false := by simpa using hnone
        simp [Sounder.reservationsFull, hlen, hany, Config.reservationPlaces]
      have hdone := cueDone_eq hq hidle ho hnext (lead_of_ahead hk hweek d')
      have hskip := cueDue_skips hphase hq hfull hdone
      rw [ho] at hskip
      exact settle_event (b := .clk) hs hskip (.notice _ _)
    · have hdone {u : State} (hclk : u.clk = s.clk) (q' : List Request) : cueDone n (u.during q' []) =
          (u.during q' []).withCue n (q.waits o' (1 + d' - k)) := by
        have hclk' : (u.during q' []).clk = s.clk := hclk
        refine cueDone_eq (by rw [hclk']; exact hq) (by rw [hclk']; exact hidle) ho hnext ?_
        refine lead_of_past hk (Occurrence.inWeek_lt hoday hotime) ?_ d'
        rw [hclk']
        exact hweek
      refine ⟨fun hphase hretries hfree => ?_, fun hphase before after p hplaying hcls horigin hone => ?_⟩
      · obtain ⟨j, hj, hd⟩ := Does.clashed_lost (u := s.onSnd fun u =>
          { u with reservations := u.reservations.map fun r => if r.cue = n then { r with lead := 0 } else r })
          hq hphase hretries hqueue (hdone rfl)
        refine (exec_cueSlot hs hq hphase (Does.startCue_clashes hfree hd) (by omega) rfl).trans ?_
        have hremoved := filter_leadOut s.snd.reservations n
        rw [ho]
        exact congrArg (fun l : List Reservation => Host.Outcome.next
          (({ waits (1 + d' - k) with snd := { s.snd with reservations := l } } : State).noticed
            (.cueLost n (some o) (q.config.retryLimit + 1)))) hremoved
      · have hend := soundEnd_one hplaying (by rw [hcls]; rfl) hone
        rw [horigin] at hend
        obtain ⟨j, hj, hd⟩ := Does.cue_ended (u := s.onSnd fun u => { u with playing := before ++ after }) hq hphase hqueue
          (hdone rfl)
        exact settle_event (b := .snd) hs hend (hd.append (.startPass_empty hqueue)) (hn := by omega)

end Sys2Proof.Machine
end

section
/-! PROOF of O47 ProgrammeTimers; the sounding of a programme, and the SWEEP call found open (R146, R147). -/

namespace Sys2Proof.Machine

theorem Programme.isAt_iff {p : Programme} {st : ProgrammeStep} : p.isAt st = true ↔ p.kind ≠ .none ∧ p.step = some st := by
  simp [Programme.isAt, Programme.running]

/-! ### Soundings -/

section
variable {u : State} {st : ProgrammeStep} {pattern : Nat} {zones : List Nat}

theorem Does.sounding_queued (hat : u.prg.isAt st = true) (hsounding : u.prg.sounding = some .queued) :
    Does 1 [.prg (.sounding st .queued)] u u :=
  .prg (f := id) (ms := []) (fun q => by
    simp only [programmeTake, programmeReport, State.during_prg, hat, hsounding, Option.isSome_some, Bool.and_self, Bool.not_true,
      Bool.false_eq_true, if_false, State.post_nil]
    exact State.onPrg_congr (by rw [State.during_prg, ← hsounding]; rfl)) (.nil _)

theorem Does.sounding_started (hat : u.prg.isAt st = true) (hsounding : u.prg.sounding = some .queued) :
    Does 1 [.prg (.sounding st .started)] u (u.onPrg fun p => { p with sounding := some .started }) :=
  .prg (ms := []) (fun q => by
    simp only [programmeTake, programmeReport, State.during_prg, hat, hsounding, Option.isSome_some, Bool.and_self, Bool.not_true,
      Bool.false_eq_true, if_false, State.post_nil]) (.nil _)

/-- The programme sounding asked for on a silent line starts at once (R102, R103, R146). -/
theorem Does.programme_sounds (hat : u.prg.isAt st = true) (hsounding : u.prg.sounding = some .queued)
    (hsilent : u.snd.silent = true) : Does 5 [.snd (.arrive .cue pattern zones 1 (.programme st))] u
      ((u.onPrg fun p => { p with sounding := some .started }).onSnd fun v =>
        v.arrived (v.cue pattern zones 1 (.programme st))) := by
  obtain ⟨hqueue, hplaying⟩ : u.snd.queue = [] ∧ u.snd.playing = [] := by
    simpa [Sounder.silent, List.isEmpty_iff] using hsilent
  set x := u.snd.cue pattern zones 1 (.programme st)
  set v := u.onSnd fun v => { v with queue := [x], nextStamp := v.nextStamp + 1 }
  have hcan : v.snd.canStart x = true := by
    have hfree : v.snd.zonesFree x.zones = true := (Sounder.zonesFree_iff ..).mpr (by
      simp [Sounder.free, v, hplaying])
    rw [Sounder.canStart, hfree]
    rfl
  set w := v.onSnd fun v => { v with queue := [], playing := v.playing ++ [v.begun x] }
  set z := w.onPrg fun p => { p with sounding := some .started }
  have hend : ((u.onPrg fun p => { p with sounding := some .started }).onSnd fun v =>
      v.arrived (v.cue pattern zones 1 (.programme st))) = z := by
    have hfree : u.snd.free x.zones = true := by simp [Sounder.free, hplaying]
    have hsnd : u.snd.arrived x = w.snd := by
      rw [Sounder.arrived, if_pos hfree]
      simp only [w, v, State.onSnd, ← hqueue]
      rfl
    exact congrArg (fun p => ({ u with prg := { u.prg with sounding := some .started }, snd := p } : State)) hsnd
  rw [hend]
  have hstart : Does (1 + (1 + 1)) [.snd .startPass] v z := by
    refine .snd (m := .startPass) (f := fun v => { v with queue := [], playing := v.playing ++ [v.begun x] })
      (ms := [.prg (.sounding st .started), .snd .startPass]) (fun q => ?_)
      ((Does.sounding_started (u := w) hat hsounding).cons (.startPass_empty (u := z) rfl))
    refine (soundStartPass_starts (s := v.during q []) rfl hcan).trans ?_
    exact congrArg (State.post · _) (State.onSnd_congr (Sounder.moveTeam_of_no_call rfl _))
  exact .snd (m := .arrive .cue pattern zones 1 (.programme st)) (f := fun v => { v with queue := [x], nextStamp := v.nextStamp + 1 })
    (ms := [.prg (.sounding st .queued), .snd .startPass]) (fun q => soundNew_empty (s := u.during q []) hqueue ..)
    ((Does.sounding_queued (u := v) hat hsounding).cons hstart)

end

/-! ### The SWEEP call -/

/-- A SWEEP call that is open for the floor already is the one the programme goes on with. -/
theorem Does.sweep_found {u : State} {f : Nat} {r : Call} (hat : u.prg.isAt .sweep = true) (hf : u.prg.floor? = some f)
    (hclosing : u.flr.isIn f .closing = true)
    (hr : (u.cal.calls.find? fun r => r.cls == .sweep && r.origin == .floor f) = some r) :
    Does 2 [.cal (.placeSweep f)] u (u.onPrg fun p => { p with sweepCall := some r.number, placingRetry := .stopped }) := by
  have hfound : u.cal.ofFloor .sweep f = some r := hr
  have hanswer : Does 1 [.prg (.sweepAnswer f (.placed r.number))] u
      (u.onPrg fun p => { p with sweepCall := some r.number, placingRetry := .stopped }) :=
    .prg (ms := []) (fun q => by
      simp only [programmeTake, programmeSweepAnswer, State.during_prg, hat, hf, decide_true, Bool.and_self, Bool.not_true,
        Bool.false_eq_true, if_false, State.post_nil]) (.nil _)
  refine .cal (m := .placeSweep f) (f := id) (ms := [.prg (.sweepAnswer f (.placed r.number))]) (fun q => ?_) hanswer
  simp only [callTake, callPlaceSweep, State.during_flr, State.during_cal, hclosing, hfound, Bool.not_true, Bool.false_eq_true,
    if_false]
  rfl

theorem Floors.isIn_of_get {t : Floors} {f : Nat} {st : FloorState} (h : ∀ r ∈ t.table[f]?, r.state = st)
    (hsome : t.table[f]? ≠ none) : t.isIn f st = true := by
  obtain ⟨r, hr⟩ := Option.ne_none_iff_exists'.mp hsome
  simp [Floors.isIn, Floors.state?, Floors.get?, hr, h r hr]

end Sys2Proof.Machine
end

section
/-! The timers. -/

namespace Sys2Proof.Machine

/-- A warning step after the first. -/
theorem programmeWarn_eq (st : ProgrammeStep) (pattern : Nat) (s : State) : programmeWarn st pattern s =
    (s.onPrg fun p => { p with step := some st, deadline := .stopped, placingRetry := .stopped, sounding := some .queued }).post
      [.lnk (.notice (.programmeStep s.prg.kind st s.prg.floor?)),
        .snd (.arrive .cue pattern (s.flr.zoneUnion s.prg.floors) 1 (.programme st))] := by
  simp only [programmeWarn, programmeSound, programmeStep, State.notify, State.post, State.onPrg, List.append_assoc]
  rfl

/-- The next floor of the list is swept. -/
theorem programmeNextSweep_eq {k f : Nat} {s : State} (hk : s.prg.cursor = some k) (hf : s.prg.floors[k + 1]? = some f) :
    programmeNextSweep s = (s.onPrg fun p => { p with
      step := some .sweep, cursor := some (k + 1), overdue := false, placingRetry := .stopped, sweepCall := none
      deadline := Timer.start p.settings.sweepTimeout }).post
        [.lnk (.notice (.programmeStep s.prg.kind .sweep (some f))), .cal (.placeSweep f)] := by
  have hfloor : (s.prg.cursor.map (· + 1)).bind (fun k => s.prg.floors[k]?) = some f := by
    rw [hk]
    exact hf
  simp only [programmeNextSweep, programmeSweep, programmeDeadline, programmeStep, Programme.floor?, State.notify, State.post,
    State.onPrg, hfloor, Option.toList_some, List.map_cons, List.map_nil, List.append_assoc]
  rw [hk]
  rfl

theorem programmeDeadlineExpiry_warns {s : State} {st : ProgrammeStep} (hkind : s.prg.kind ≠ .none) (hst : s.prg.step = some st)
    (hgap : st = .gap1 ∨ st = .gap2) (ht : s.prg.deadline.isRunning = true) : programmeDeadlineExpiry s =
      programmeWarn (if st = .gap1 then .secondWarning else .finalBells)
        (if st = .gap1 then s.prg.settings.secondPattern else s.prg.settings.finalPattern) s := by
  have hruns : (!(s.prg.running && s.prg.deadline.isRunning)) = false := by simp [Programme.running, hkind, ht]
  unfold programmeDeadlineExpiry
  simp only [hruns, Bool.false_eq_true, if_false, hst]
  rcases hgap with rfl | rfl <;> rfl

/-- Settles O47: the warning after a gap, the sweep deadline, and the SWEEP call found open by the retry and after the
dwell. -/
theorem programmeTimers : Obligations.ProgrammeTimers := by
  intro s hs hclosing
  have hkind : s.prg.kind ≠ .none := by simp [hclosing]
  refine ⟨fun st hst hgap ht hsilent => ?_, fun hstep k hk f hf => ⟨fun ht => ?_, fun ht hfloor hsome r hr => ?_⟩,
    fun hstep ht k hk f hf hfloor hsome r hr => ?_⟩
  · intro next pattern
    set v := s.onPrg fun p =>
      { p with step := some next, deadline := .stopped, placingRetry := .stopped, sounding := some .queued }
    have hsounds := Does.programme_sounds (u := v.noticed (.programmeStep .closing next s.prg.floor?)) (st := next)
      (pattern := pattern) (zones := s.flr.zoneUnion s.prg.floors) (Programme.isAt_iff.mpr ⟨hkind, rfl⟩) rfl hsilent
    refine (settle_event (b := .prg) (v := v) hs ?_ ((Does.notice v _).cons hsounds)
      (hroom := Sounder.arrived_roomDue ..)).trans rfl
    refine (programmeDeadlineExpiry_warns hkind hst hgap ht).trans ((programmeWarn_eq ..).trans ?_)
    rewrite [hclosing]
    rfl
  · have hat : s.prg.isAt .sweep = true := Programme.isAt_iff.mpr ⟨hkind, hstep⟩
    have hfloor : s.prg.floor? = some f := Option.bind_eq_some_iff.mpr ⟨k, hk, hf⟩
    refine settle_event (b := .prg) (v := s.onPrg fun p => { p with overdue := true, deadline := .stopped }) hs ?_ (.notice _ _)
    unfold programmeSweepTimeout
    simp only [hat, ht, Bool.and_self, hfloor]
    rfl
  · have hat : s.prg.isAt .sweep = true := Programme.isAt_iff.mpr ⟨hkind, hstep⟩
    have hfloor' : s.prg.floor? = some f := Option.bind_eq_some_iff.mpr ⟨k, hk, hf⟩
    refine settle_event (b := .prg) (v := s.onPrg fun p => { p with placingRetry := .stopped }) hs ?_
      (Does.sweep_found (u := s.onPrg fun p => { p with placingRetry := .stopped }) hat hfloor'
        (Floors.isIn_of_get hfloor hsome) hr)
    unfold programmePlacingRetry
    simp only [hat, ht, Bool.and_self, if_true, hfloor', Option.toList_some, List.map_cons, List.map_nil]
  · have hat : s.prg.isAt .dwell = true := Programme.isAt_iff.mpr ⟨hkind, hstep⟩
    set v := s.onPrg fun p => { p with
      step := some .sweep, cursor := some (k + 1), overdue := false, placingRetry := .stopped, sweepCall := none
      deadline := .running (20 * p.settings.sweepTimeout) }
    have hfloor' : v.prg.floor? = some f := Option.bind_eq_some_iff.mpr ⟨k + 1, rfl, hf⟩
    have hfound := Does.sweep_found (u := v.noticed (.programmeStep .closing .sweep (some f)))
      (Programme.isAt_iff.mpr ⟨hkind, rfl⟩) hfloor' (Floors.isIn_of_get hfloor hsome) hr
    refine (settle_event (b := .prg) (v := v) hs ?_ ((Does.notice v _).cons hfound)).trans rfl
    have hdwell : programmeDwellExpiry s = programmeNextSweep s := if_pos (Bool.and_eq_true_iff.mpr ⟨hat, ht⟩)
    have htimer (secs : Nat) : Timer.start secs = .running (20 * secs) := congrArg Timer.running (Nat.mul_comm ..)
    refine hdwell.trans ((programmeNextSweep_eq hk hf).trans ?_)
    simp only [htimer, hclosing, v]

end Sys2Proof.Machine
end

section
/-! SUPPORT. Several notices, and the changes of floors that a programme orders (R81, R146). -/

namespace Sys2Proof.Machine

/-! ### Several notices -/

/-- The notices are handed to the service link one after another. -/
def State.noticedAll (u : State) (bs : List NoticeBody) : State := bs.foldl State.noticed u

section
variable (u : State) (bs : List NoticeBody)

@[simp] theorem State.noticedAll_nil : u.noticedAll [] = u := rfl
@[simp] theorem State.noticedAll_cons (b : NoticeBody) : u.noticedAll (b :: bs) = (u.noticed b).noticedAll bs := rfl

theorem State.noticedAll_append (cs : List NoticeBody) : u.noticedAll (bs ++ cs) = (u.noticedAll bs).noticedAll cs :=
  List.foldl_append

theorem State.foldl_noticed {α : Type} (b : α → NoticeBody) (l : List α) :
    l.foldl (fun u x => State.noticed u (b x)) u = u.noticedAll (l.map b) := by
  rw [State.noticedAll, List.foldl_map]

/-- Notices change the service link's record alone, and by that record alone. -/
theorem State.noticedAll_eq : u.noticedAll bs = { u with lnk := (u.noticedAll bs).lnk } := by
  induction bs generalizing u with
  | nil => rfl
  | cons b bs ih => exact ih (u.noticed b)

theorem State.noticedAll_comm {h : State → State} (hh : ∀ u b, h (State.noticed u b) = (h u).noticed b) :
    h (u.noticedAll bs) = (h u).noticedAll bs := by
  induction bs generalizing u with
  | nil => rfl
  | cons b bs ih => rw [State.noticedAll_cons, ih, hh, State.noticedAll_cons]

theorem State.noticedAll_onFlr (f : Floors → Floors) : (u.noticedAll bs).onFlr f = (u.onFlr f).noticedAll bs :=
  u.noticedAll_comm bs (h := (State.onFlr · f)) fun _ _ => rfl

theorem State.noticedAll_onPrg (f : Programme → Programme) : (u.noticedAll bs).onPrg f = (u.onPrg f).noticedAll bs :=
  u.noticedAll_comm bs (h := (State.onPrg · f)) fun _ _ => rfl

theorem State.noticedAll_onSnd (f : Sounder → Sounder) : (u.noticedAll bs).onSnd f = (u.onSnd f).noticedAll bs :=
  u.noticedAll_comm bs (h := (State.onSnd · f)) fun _ _ => rfl

theorem State.noticedAll_onSht (f : Shutters → Shutters) : (u.noticedAll bs).onSht f = (u.onSht f).noticedAll bs :=
  u.noticedAll_comm bs (h := (State.onSht · f)) fun _ _ => rfl

@[simp] theorem State.noticedAll_prg : (u.noticedAll bs).prg = u.prg := by rw [State.noticedAll_eq]
@[simp] theorem State.noticedAll_snd : (u.noticedAll bs).snd = u.snd := by rw [State.noticedAll_eq]
@[simp] theorem State.noticedAll_flr : (u.noticedAll bs).flr = u.flr := by rw [State.noticedAll_eq]

end

/-! ### A floor's report to the programme (R92) -/

/-- A change of a floor's state that the programme's step does not wait for. -/
theorem Does.floorReport_unasked {u : State} {left entered : FloorState} (f : Nat)
    (hsweep : entered = .swept → u.prg.isAt .sweep = false) (hsecure : entered = .shut → u.prg.isAt .secure = false)
    (hraise : left = .opening → u.prg.isAt .raise = false) : Does 1 [.prg (.floorReport f left entered)] u u :=
  .prg_same fun q => by
    have hnot {st : ProgrammeStep} {p : Bool} (h : p = true → u.prg.isAt st = false) : (u.prg.isAt st && p) = false := by
      cases p
      · exact Bool.and_false _
      · rw [h rfl, Bool.false_and]
    simp only [programmeTake, programmeFloorReport, State.during_prg, hnot (fun h => hsweep (beq_iff_eq.mp h)),
      hnot (fun h => hsecure (beq_iff_eq.mp h)), hnot (fun h => hraise (beq_iff_eq.mp h)), Bool.false_eq_true, if_false, ite_self]

/-! ### The first warning (R81) -/

section
variable {u : State} {f : Nat}

theorem Floors.isIn_iff {t : Floors} {st : FloorState} : t.isIn f st = true ↔ ∃ r, t.table[f]? = some r ∧ r.state = st := by
  simp [Floors.isIn, Floors.state?, Floors.get?]

/-- The notice of a floor whose closing begins. -/
def closingNotice (f : Nat) : NoticeBody := .floorState f .trading .closing .programme none none none

theorem Does.beginClosing (hf : u.flr.isIn f .trading = true) (hstep : u.prg.isAt .raise = false) :
    Does 3 [.flr (.beginClosing f)] u ((u.onFlr fun t => t.modify f (Floor.entering .closing none)).noticed
      (closingNotice f)) := by
  have hstate : u.flr.state? f = some .trading := beq_iff_eq.mp hf
  set v := u.onFlr fun t => t.modify f (Floor.entering .closing none)
  refine .flr (f := fun t => t.modify f (Floor.entering .closing none)) (fun q => ?_) ((Does.notice v (closingNotice f)).cons
    (Does.floorReport_unasked (u := v.noticed (closingNotice f)) (left := .trading) (entered := .closing) f (by simp) (by simp)
      fun _ => hstep))
  refine (if_pos hf).trans ?_
  exact floorEnter_eq (s := u.during q []) hstate .closing .programme none none none

/-- One floor after another begins its closing. -/
theorem Does.beginClosings (fs : List Nat) (hnodup : fs.Nodup) (hfs : ∀ f ∈ fs, u.flr.isIn f .trading = true)
    (hstep : u.prg.isAt .raise = false) : Does (fs.length * 3) (fs.map fun f => Msg.flr (.beginClosing f)) u
      ((u.onFlr fun t => fs.foldl (fun t f => t.modify f (Floor.entering .closing none)) t).noticedAll
        (fs.map closingNotice)) := by
  induction fs generalizing u with
  | nil => exact .nil u
  | cons f fs ih =>
    obtain ⟨hnew, hnodup⟩ := List.nodup_cons.mp hnodup
    set v := (u.onFlr fun t => t.modify f (Floor.entering .closing none)).noticed (closingNotice f)
    have hothers : ∀ g ∈ fs, v.flr.isIn g .trading = true := fun g hg => by
      obtain ⟨r, hr, hst⟩ := Floors.isIn_iff.mp (hfs g (List.mem_cons_of_mem _ hg))
      refine Floors.isIn_iff.mpr ⟨r, ?_, hst⟩
      have hne : f ≠ g := fun h => hnew (h ▸ hg)
      exact (List.getElem?_modify_ne _ _ hne).trans hr
    rw [List.length_cons, Nat.succ_mul, Nat.add_comm]
    exact (Does.beginClosing (hfs f List.mem_cons_self) hstep).cons (ih (u := v) hnodup hothers hstep)

/-- The records of a list's places, each changed once. -/
theorem foldl_modify_getElem? {α : Type} (g : α → α) (fs : List Nat) (hnodup : fs.Nodup) (l : List α) (k : Nat) :
    (fs.foldl (fun l f => l.modify f g) l)[k]? = if k ∈ fs then l[k]?.map g else l[k]? := by
  induction fs generalizing l with
  | nil => rfl
  | cons f fs ih =>
    obtain ⟨hnew, hnodup⟩ := List.nodup_cons.mp hnodup
    rw [List.foldl_cons, ih hnodup, List.getElem?_modify]
    by_cases hk : k = f
    · subst hk
      simp [hnew]
    · have hk' : ¬ f = k := fun h => hk h.symm
      simp [hk, hk']

theorem Floors.foldl_modify (t : Floors) (g : Floor → Floor) (fs : List Nat) :
    fs.foldl (fun t f => t.modify f g) t = { table := fs.foldl (fun l f => l.modify f g) t.table } := by
  induction fs generalizing t with
  | nil => rfl
  | cons f fs ih => exact ih _

theorem numbersWhere_nodup {α : Type} (l : List α) (p : α → Bool) : (numbersWhere l p).Nodup :=
  List.nodup_range.filter _

/-- Every record that meets `p` changed once is the table with those records changed. -/
theorem foldl_modify_where {α : Type} (g : α → α) (p : α → Bool) (l : List α) :
    (numbersWhere l p).foldl (fun l f => l.modify f g) l = l.map fun x => if p x then g x else x := by
  refine List.ext_getElem? fun k => ?_
  rw [foldl_modify_getElem? g _ (numbersWhere_nodup l p), List.getElem?_map]
  cases hx : l[k]? with
  | none => simp
  | some x =>
    cases hp : p x with
    | false =>
      have hnot : k ∉ numbersWhere l p := fun h => by
        obtain ⟨y, hy, hpy⟩ := mem_numbersWhere.mp h
        rw [hx, Option.some.injEq] at hy
        rw [← hy, hp] at hpy
        cases hpy
      simp [hnot, hp]
    | true => simp [mem_numbersWhere.mpr ⟨x, hx, hp⟩, hp]

end

end Sys2Proof.Machine
end

section
/-! START CLOSING and ABORT PROGRAMME. -/

namespace Sys2Proof.Machine

section
variable {s : State}

theorem orderStartClosing_busy (h : s.prg.kind ≠ .none) : orderStartClosing s = declined .busy s := by
  have hruns : s.prg.running = true := by simp [Programme.running, h]
  simp only [orderStartClosing, hruns, if_true]

theorem orderStartClosing_fireLock (h : s.prg.kind = .none) (hfire : s.fir.condition ≠ .normal) :
    orderStartClosing s = declined .fireLock s := by
  simp [orderStartClosing, Programme.running, h, hfire]

theorem orderStartClosing_wrong (h : s.prg.kind = .none) (hfire : s.fir.condition = .normal)
    (hnone : s.flr.inState .trading = []) : orderStartClosing s = declined .wrongState s := by
  simp [orderStartClosing, Programme.running, h, hfire, hnone]

/-- The programme unit's record as a closing programme starts. -/
def Programme.closes (p : Programme) (floors : List Nat) (wasRunning : Bool) : Programme :=
  { p.started .closing .firstWarning floors (some 0) wasRunning with sounding := some .queued }

theorem orderStartClosing_starts {floors : List Nat} (h : s.prg.kind = .none) (hfire : s.fir.condition = .normal)
    (hsome : s.flr.inState .trading ≠ [])
    (hfloors : (closingOrder s.prg.settings.street).filter (fun f => (s.flr.inState .trading).contains f) = floors) :
    orderStartClosing s = taken ((s.onPrg fun p =>
      p.closes floors (s.chn.state == .starting || s.chn.state == .running)).post
        ((s.flr.inState .trading).map (fun f => Msg.flr (.beginClosing f)) ++
          [.snd (.arrive .cue s.prg.settings.firstPattern (s.flr.zoneUnion floors) 1 (.programme .firstWarning)),
            .lnk (.notice (.programmeStarted .closing floors))])) := by
  have hempty : (s.flr.inState .trading).isEmpty = false := by simpa [List.isEmpty_iff] using hsome
  simp only [orderStartClosing, Programme.running, h, hfire, hempty, hfloors, bne_self_eq_false, Bool.false_eq_true, if_false,
    programmeSound, State.notify, State.post, State.onPrg, List.append_assoc]
  rfl

/-- START CLOSING on a silent line. -/
theorem exec_startClosing {floors : List Nat} (hs : s.ready = true) (h : s.prg.kind = .none)
    (hfire : s.fir.condition = .normal) (hsome : s.flr.inState .trading ≠ []) (hsilent : s.snd.silent = true)
    (hlen : s.flr.table.length = 8)
    (hfloors : (closingOrder s.prg.settings.street).filter (fun f => (s.flr.inState .trading).contains f) = floors)
    (tag : Nat) : exec (.startClosing tag) s = .next
      (((((((s.onFlr fun u => { table := u.table.map fun r =>
              if r.state = .trading then { r with state := .closing, inStep := false, confirmation := none } else r }).onPrg
            fun p => { p.closes floors (s.chn.state == .starting || s.chn.state == .running) with
              sounding := some .started }).onSnd fun u =>
            u.arrived (u.cue s.prg.settings.firstPattern (s.flr.zoneUnion floors) 1
              (.programme .firstWarning)))).noticedAll ((s.flr.inState .trading).map closingNotice)).noticed
        (.programmeStarted .closing floors)).answered tag .startClosing (.taken false)) := by
  set wasRunning := s.chn.state == .starting || s.chn.state == .running
  set v := s.onPrg fun p => p.closes floors wasRunning
  have hclosings := Does.beginClosings (u := v) (s.flr.inState .trading) (numbersWhere_nodup _ _) (fun f hf => by
    obtain ⟨r, hr, hst⟩ := mem_numbersWhere.mp hf
    exact Floors.isIn_iff.mpr ⟨r, hr, beq_iff_eq.mp hst⟩) rfl
  have htable : (v.onFlr fun t => (s.flr.inState .trading).foldl (fun t f => t.modify f (Floor.entering .closing none)) t) =
      v.onFlr fun u => { table := u.table.map fun r =>
        if r.state = .trading then { r with state := .closing, inStep := false, confirmation := none } else r } := by
    refine State.onFlr_congr ((Floors.foldl_modify ..).trans (congrArg Floors.mk ?_))
    refine (foldl_modify_where ..).trans (List.map_congr_left fun r _ => ?_)
    simp only [beq_iff_eq]
    rfl
  rw [htable] at hclosings
  set w := (v.onFlr fun u => { table := u.table.map fun r =>
    if r.state = .trading then { r with state := .closing, inStep := false, confirmation := none } else r }).noticedAll
      ((s.flr.inState .trading).map closingNotice)
  have hprg : w.prg = v.prg := State.noticedAll_prg ..
  have hsnd : w.snd = s.snd := State.noticedAll_snd ..
  have hsounds := Does.programme_sounds (u := w) (st := .firstWarning) (pattern := s.prg.settings.firstPattern)
    (zones := s.flr.zoneUnion floors) (by rw [hprg]; rfl) (by rw [hprg]; rfl) (by rw [hsnd]; exact hsilent)
  have hcount : (s.flr.inState .trading).length ≤ 8 :=
    (List.length_filter_le ..).trans (by rw [List.length_range, hlen])
  have hroom : ∀ x, (w.snd.arrived x).roomDue = s.snd.roomDue := fun x =>
    (Sounder.arrived_roomDue ..).trans (congrArg Sounder.roomDue hsnd)
  have hexec : exec (.startClosing tag) s = _ := exec_of_does (v := v) rfl hs (fun hw => absurd hw Bool.false_ne_true)
    (fun q => (orderStartClosing_starts (s := s.during q []) h hfire hsome hfloors).trans rfl)
    (hclosings.append (hsounds.cons (.notice _ _))) (hroom := hroom _) (hn := by omega)
  refine hexec.trans (congrArg (fun u : State => Host.Outcome.next ((u.noticed (.programmeStarted .closing floors)).answered tag
    .startClosing (.taken false))) ?_)
  simp only [w, State.noticedAll_onPrg, State.noticedAll_onSnd]
  rfl

/-! ### ABORT PROGRAMME (R156) -/

theorem orderAbortProgramme_silent {st : ProgrammeStep} (h : s.prg.kind ≠ .none) (hstep : s.prg.step = some st)
    (hsounding : s.prg.sounding = none) : orderAbortProgramme s =
      ((s.onPrg fun p => p.ended .aborted).post [.lnk (.notice (.programmeEnded s.prg.kind .aborted (some st) s.prg.floor?
        s.prg.faulted s.prg.skipped (if s.prg.kind = .opening then some s.prg.opened else none)))],
        .done false (field 1 s.prg.kind.code ++ field 1 st.code ++ field? 1 s.prg.floor?)) := by
  have hruns : s.prg.running = true := by simp [Programme.running, h]
  simp only [orderAbortProgramme, programmeAbort, hruns, Bool.not_true, Bool.false_eq_true, if_false, hstep, hsounding,
    State.post_nil]
  unfold programmeEnd
  simp only [hstep]
  rfl

end

end Sys2Proof.Machine
end

section
/-! START OPENING (R85, R153): the chain brought to rest, and the shutters of the first floor raised. -/

namespace Sys2Proof.Machine

/-! ### The chain is stopped (R153) -/

section
variable {u : State}

theorem Does.chainState_moving {st : ChainState} (h : st.moving = true) : Does 1 [.prg (.chainState st)] u u :=
  .prg_same fun q => by simp [programmeTake, programmeChainState, h]

theorem Does.stopForProgramme (hconfigured : u.chn.config.configured = true) (hclearance : u.chn.clearance = [])
    (hstate : u.chn.state = .starting ∨ u.chn.state = .running ∨ u.chn.state = .stopping ∨ u.chn.state = .creeping ∨
      u.chn.state = .homing) (hfire : u.peaceful = true) (hsettles : u.sup.settles = true) :
    Does 5 [.chn .stopForProgramme] u
      ((u.onChn fun c => { c.into .braking with plan := none }).onSup fun p => p.ended .chain) := by
  set v := u.onChn fun c => { c.into .braking with plan := none }
  set w := v.onSup fun p => p.ended .chain
  have hended : Does 1 [.sup (.ended .chain)] v w := Does.ended (u := v) hsettles .chain
  have hstop : Does 1 [.prg (.stopAnswer (.taken false))] w w := .prg_same fun q => by
    simp [programmeTake, programmeStopAnswer]
  refine .chn (m := .stopForProgramme) (f := fun c => { c.into .braking with plan := none })
    (ms := [.sup (.ended .chain), .prg (.chainState .braking), .fir .chainChanged, .prg (.stopAnswer (.taken false))])
    (fun q => ?_) (hended.cons ((Does.chainState_moving rfl).cons ((Does.chainChanged (u := w) hfire).cons hstop)))
  have horder : orderStopChain 0 (u.during q []) = taken (chainBrake (u.during q [])) := by
    refine (orderStopChain_configured (s := u.during q []) hconfigured (fun k _ h => by simp at h)).trans
      ((chainStopOrder_empty (s := u.during q []) ?_).trans ?_)
    · rw [State.during_chn, hclearance]
      rfl
    · rcases hstate with h | h | h | h | h <;> simp only [chainStopEmpty, State.during_chn, h]
  simp only [chainTake, chainStopForProgramme, horder, taken, chainBrake_during]
  rfl

/-! ### Raises (R53, R68, R69) -/

section
variable {n f : Nat} {r : Shutter}

theorem Does.raise {w : State} {k : Nat} (hr : u.sht.get? n = some r) (hlock : fireLocked u.flr u.fir.condition r = false)
    (hst : r.state = .closed ∨ r.state = .partOpen) (hstill : r.isLanding = true → u.chn.state.moving = false)
    (hroom : u.sup.full (.shutter n) r.config.group = false)
    (hd : Does k ([.sup (.request (.shutter n) .raise r.config.group), .sup (.pass r.config.group)] ++
      alterMsgs n r (r.resting .waitSupply) u.sht.permit) (u.onSht fun t => t.set n (some (r.resting .waitSupply))) w) :
    Does (1 + k) [.sht (.raise n)] u w :=
  .sht (m := .raise n) (f := fun t => t.set n (some (r.resting .waitSupply))) (fun q => by
    have hraise := shutterRaise_asks (s := u.during q []) hr rfl hlock hst hstill hroom
    simp only [shutterTake, shutterRaiseQuiet, hraise]
    rfl) hd

/-- The last part of a step, with a shutter of the floor on its way (R85). -/
theorem Does.endStep (hr : u.sht.get? n = some r) (hfloor : r.config.floor = f) (hst : r.state.inUse = true) :
    Does 1 [.flr (.endStep f)] u (u.onFlr fun t => t.modify f fun r => { r with inStep := false }) :=
  .flr (m := .endStep f) (ms := []) (fun q =>
    (floorTest_of_inUse (s := (u.during q []).onFlr _) hr hfloor hst).trans (State.post_nil _).symm) (.nil _)

/-- A request joins the queue of a group. -/
def Supply.joined (u : Supply) (g n : Nat) : Supply :=
  u.modify g fun r => { r with queue := r.queue ++ [⟨.shutter n, .raise⟩] }

/-- The shutter stands CLOSED or PART_OPEN, and its group's queue keeps `k` places for raises. -/
structure State.RaiseWaits (u : State) (grp : Nat → Nat) (f k n : Nat) (r : Shutter) : Prop where
  present : u.sht.get? n = some r
  floor : r.config.floor = f
  group : r.config.group = grp n
  state : r.state = .closed ∨ r.state = .partOpen
  room : ∃ g, u.sup.groups[grp n]? = some g ∧ (u.sup.mode ≠ .steady ∨ g.config.capacity ≤ g.moves.length) ∧
    g.queue.length + k ≤ 16 ∧ ∀ x ∈ g.queue, x.owner ≠ .shutter n

/-- A raise that waits in its group's queue leaves the places of the others. -/
theorem State.RaiseWaits.kept {grp : Nat → Nat} {k m : Nat} (x : Shutter)
    (h : u.RaiseWaits grp f (k + 1) n r) (hne : n ≠ m) :
    ((u.onSht fun t => t.set m (some (x.resting .waitSupply))).onSup fun p => p.joined (grp m) m).RaiseWaits grp f k n r := by
  obtain ⟨g, hg, hholds, hroom, hnew⟩ := h.room
  refine ⟨?_, h.floor, h.group, h.state, ?_⟩
  · exact (Shutters.get?_set_ne (Ne.symm hne) ..).trans h.present
  · by_cases hsame : grp m = grp n
    · refine ⟨{ g with queue := g.queue ++ [⟨.shutter m, .raise⟩] }, ?_, hholds, ?_, fun y hy => ?_⟩
      · rw [hsame]
        exact (List.getElem?_modify_eq ..).trans (congrArg _ hg)
      · rw [List.length_append, List.length_singleton]
        omega
      · rcases List.mem_append.mp hy with hy | hy
        · exact hnew y hy
        · rw [List.mem_singleton.mp hy]
          exact fun h => hne (MoveOwner.shutter.inj h).symm
    · exact ⟨g, (List.getElem?_modify_ne _ _ hsame).trans hg, hholds, by omega, hnew⟩

/-- The raises of a floor's shutters, all of which wait in their groups' queues. -/
theorem Does.raises_wait {grp : Nat → Nat} (ns : List Nat) (hnodup : ns.Nodup)
    (hns : ∀ n ∈ ns, ∃ r, u.RaiseWaits grp f ns.length n r) (hfire : u.flr.isIn f .fire = false)
    (hcondition : u.fir.condition = .normal) (hstill : u.chn.state.moving = false) :
    ∃ k ≤ ns.length * 5, Does k (ns.map fun n => Msg.sht (.raise n)) u
      ((u.onSht fun t => { table := ns.foldl (fun l n => l.modify n (Option.map (Shutter.resting · .waitSupply))) t.table }).onSup
        fun p => ns.foldl (fun p n => p.joined (grp n) n) p) := by
  induction ns generalizing u with
  | nil => exact ⟨0, le_rfl, .nil u⟩
  | cons n ns ih =>
    obtain ⟨hnew, hnodup⟩ := List.nodup_cons.mp hnodup
    obtain ⟨r, h⟩ := hns n List.mem_cons_self
    obtain ⟨g, hg, hholds, hroom, hqueue⟩ := h.room
    rw [← h.group] at hg
    rw [List.length_cons] at hroom
    have hsteady : u.sup.holds r.config.group = true :=
      Supply.holds_iff.mpr ⟨g, hg, by omega, fun hmode => hholds.resolve_left (not_not.mpr hmode)⟩
    have hlock : fireLocked u.flr u.fir.condition r = false := by
      simp [fireLocked, h.floor, hfire, hcondition]
    obtain ⟨j, hj, hd⟩ := Does.asks_holds h.present (by rcases h.state with hst | hst <;> simp [hst])
      (fun _ => .inl (by rcases h.state with hst | hst <;> simp [hst, ShutterState.permits])) (fun x hx => by
        rw [hg] at hx
        obtain rfl := Option.some.inj hx
        exact hqueue) hsteady
    have hraise := Does.raise h.present hlock h.state (fun _ => hstill) (Supply.full_eq_false hg (by omega)) hd
    rw [h.group] at hraise
    obtain ⟨k, hk, hrest⟩ := ih (u := (u.onSht fun t => t.set n (some (r.resting .waitSupply))).onSup fun p => p.joined (grp n) n)
      hnodup (fun m hm => by
        obtain ⟨x, hx⟩ := hns m (List.mem_cons_of_mem _ hm)
        exact ⟨x, hx.kept r fun heq => hnew (heq ▸ hm)⟩) hfire hcondition hstill
    refine ⟨1 + j + k, by rw [List.length_cons]; omega, ?_⟩
    have hset : (u.sht.set n (some (r.resting .waitSupply))).table =
        u.sht.table.modify n (Option.map (Shutter.resting · .waitSupply)) :=
      (modify_eq_set (present?_eq_some.mp h.present) (Option.map (Shutter.resting · .waitSupply))).symm
    have hend := hraise.cons hrest
    simp only [State.onSht, State.onSup, hset] at hend
    exact hend

end

end

/-! ### Every request in its queue -/

theorem Supply.foldl_joined (grp : Nat → Nat) (ns : List Nat) (u : Supply) :
    ns.foldl (fun p n => p.joined (grp n) n) u = { u with
      groups := u.groups.mapIdx fun g r => { r with
        queue := r.queue ++ (ns.filter fun n => grp n == g).map fun n => (⟨.shutter n, .raise⟩ : MoveRequest) } } := by
  induction ns generalizing u with
  | nil =>
    have hsame : (u.groups.mapIdx fun g r => { r with
        queue := r.queue ++ (([] : List Nat).filter fun n => grp n == g).map fun n =>
          (⟨.shutter n, .raise⟩ : MoveRequest) }) = u.groups :=
      List.ext_getElem? fun k => by simp [List.getElem?_mapIdx]
    rw [List.foldl_nil, hsame]
  | cons n ns ih =>
    rw [List.foldl_cons, ih]
    refine congrArg (fun l => ({ u with groups := l } : Supply)) (List.ext_getElem? fun k => ?_)
    simp only [Supply.joined, Supply.modify, List.getElem?_mapIdx, List.getElem?_modify]
    cases u.groups[k]? with
    | none => rfl
    | some r =>
      by_cases hk : grp n = k
      · simp [hk]
      · simp [hk]

theorem Shutters.foldl_waits (t : Shutters) (f : Nat) :
    (t.ofFloor f).foldl (fun l n => l.modify n (Option.map (Shutter.resting · .waitSupply))) t.table =
      t.table.map fun o => o.map fun q => if q.config.floor = f then q.resting .waitSupply else q := by
  refine (foldl_modify_where ..).trans (List.map_congr_left fun o _ => ?_)
  cases o with
  | none => rfl
  | some q =>
    by_cases hq : q.config.floor = f
    · simp [hq]
    · simp [hq]

/-! ### START OPENING -/

section
variable {s : State} {floors : List Nat}

theorem orderStartOpening_wrong (h : s.prg.kind = .none) (hfire : s.fir.condition = .normal)
    (hnone : s.flr.inState .shut = []) : orderStartOpening s = declined .wrongState s := by
  simp [orderStartOpening, Programme.running, h, hfire, hnone]

theorem orderStartOpening_takes (h : s.prg.kind = .none) (hfire : s.fir.condition = .normal)
    (hsome : s.flr.inState .shut ≠ [])
    (hfloors : (openingOrder s.prg.settings.street).filter (fun f => (s.flr.inState .shut).contains f) = floors) :
    orderStartOpening s =
      let t := (s.onPrg fun p => p.started .opening .chainStop floors none false).notify (.programmeStarted .opening floors)
      taken (if t.chn.state.moving then t.post [.chn .stopForProgramme] else programmeChainStopped t) := by
  have hempty : (s.flr.inState .shut).isEmpty = false := by simpa [List.isEmpty_iff] using hsome
  simp only [orderStartOpening, Programme.running, h, hfire, hempty, hfloors, bne_self_eq_false, Bool.false_eq_true, if_false]

/-- START OPENING while the chain moves. -/
theorem exec_startOpening_moving (hs : s.ready = true) (halone : s.alone = true) (hsome : s.flr.inState .shut ≠ [])
    (hconfigured : s.chn.config.configured = true) (hclearance : s.chn.clearance = [])
    (hstate : s.chn.state = .starting ∨ s.chn.state = .running ∨ s.chn.state = .stopping ∨ s.chn.state = .creeping ∨
      s.chn.state = .homing)
    (hfloors : (openingOrder s.prg.settings.street).filter (fun f => (s.flr.inState .shut).contains f) = floors) (tag : Nat) :
    exec (.startOpening tag) s = .next
      (({ s with
        chn := { s.chn.into .braking with plan := none }, sup := s.sup.ended .chain
        prg := s.prg.started .opening .chainStop floors none false }.noticed (.programmeStarted .opening floors)).answered tag
          .startOpening (.taken false)) := by
  obtain ⟨hidle, hfire, hsettles⟩ := s.alone_iff.mp halone
  have hmoving : s.chn.state.moving = true := by rcases hstate with h | h | h | h | h <;> rw [h] <;> rfl
  set v := s.onPrg fun p => p.started .opening .chainStop floors none false
  have hstops := Does.stopForProgramme (u := v.noticed (.programmeStarted .opening floors)) hconfigured hclearance hstate hfire
    hsettles
  refine exec_of_does (v := v) (ms := [.lnk (.notice (.programmeStarted .opening floors)), .chn .stopForProgramme]) rfl hs
    (fun hw => absurd hw Bool.false_ne_true) (fun q => ?_) ((Does.notice v _).cons hstops)
  refine (orderStartOpening_takes (s := s.during q []) (s.idleProgramme_iff.mp hidle) (s.peaceful_iff.mp hfire).1 hsome
    hfloors).trans ?_
  exact congrArg taken (if_pos hmoving)

/-- The raise step for the floor at the cursor (R154). -/
theorem programmeRaise_shut {f : Nat} (hf : s.prg.floor? = some f) (hshut : s.flr.isIn f .shut = true) : programmeRaise s =
    (s.onPrg fun p => { p with step := some .raise, deadline := .stopped, placingRetry := .stopped }).post
      [.lnk (.notice (.programmeStep s.prg.kind .raise (some f))), .flr (.raise f)] := by
  have hfloor : ({ s.prg with step := some .raise, deadline := .stopped, placingRetry := .stopped } : Programme).floor? =
    some f := hf
  unfold programmeRaise
  simp only [hf, hshut, if_true, programmeStep, State.notify, State.post, State.onPrg, hfloor, List.append_assoc,
    List.cons_append, List.nil_append]

/-- The raise step of a floor (R85). -/
theorem floorRaise_eq {f : Nat} {r : Floor} (hr : s.flr.table[f]? = some r) (hst : r.state = .shut) : floorRaise f s =
    (s.onFlr fun t => { table := t.table.set f { r with state := .opening, inStep := true, faulted := 0 } }).post
      ([.lnk (.notice (.floorState f .shut .opening .programme none none none)), .prg (.floorReport f .shut .opening)] ++
        ((s.sht.ofFloor f).map (fun n => Msg.sht (.raise n)) ++ [.flr (.endStep f)])) := by
  have hstate : s.flr.state? f = some .shut := by simp [Floors.state?, Floors.get?, hr, hst]
  have henter := floorEnter_eq hstate .opening .programme (some 0) none none
  have hnow : (s.flr.table.modify f (Floor.entering .opening (some 0))).modify f (fun r => { r with inStep := true }) =
      s.flr.table.set f { r with state := .opening, inStep := true, faulted := 0 } := by
    rw [List.modify_modify_eq, modify_eq_set hr]
    rfl
  have hshut : s.flr.isIn f .shut = true := beq_iff_eq.mpr hstate
  unfold floorRaise
  rw [if_pos hshut, henter]
  simp only [State.onFlr, State.post, Floors.modify, hnow, List.append_assoc]
  rfl

/-- The raises of a floor's shutters leave the part with the shutters' records and the supply as given. -/
def State.RaisesTo (s : State) (f j : Nat) (sht : Shutters) (sup : Supply) : Prop :=
  ∀ u : State, u.sht = s.sht → u.sup = s.sup → u.chn = s.chn → u.fir = s.fir → u.flr.isIn f .fire = false →
    ∃ k ≤ j, Does k ((s.sht.ofFloor f).map fun n => Msg.sht (.raise n)) u { u with sht := sht, sup := sup }

/-- The floor's record once its shutters have been told to rise. -/
def Floor.rises (r : Floor) : Floor := { r with state := .opening, inStep := false, faulted := 0 }

/-- The raise step of a floor, a shutter of which is on its way after it (R85). -/
theorem Does.floor_raises {f j n : Nat} {r : Floor} {x : Shutter} {sht : Shutters} {sup : Supply}
    (hr : s.flr.table[f]? = some r) (hst : r.state = .shut) (hd : s.RaisesTo f j sht sup)
    (hx : sht.get? n = some x) (hfloor : x.config.floor = f) (huse : x.state.inUse = true) :
    ∃ k ≤ j + 4, Does k [.flr (.raise f)] s (({ s with
      sht := sht, sup := sup, flr := { table := s.flr.table.set f r.rises } } : State).noticed
        (.floorState f .shut .opening .programme none none none)) := by
  have hlen : f < s.flr.table.length := (List.getElem?_eq_some_iff.mp hr).1
  set r' : Floor := { r with state := .opening, inStep := true, faulted := 0 }
  set v := (s.onFlr fun t => { table := t.table.set f r' }).noticed (.floorState f .shut .opening .programme none none none)
    with hv
  have hfire : v.flr.isIn f .fire = false := by
    have hget : v.flr.state? f = some .opening := by simp [v, Floors.state?, Floors.get?, hlen, r']
    simp [Floors.isIn, hget]
  have hreport : Does 1 [.prg (.floorReport f .shut .opening)] v v :=
    Does.floorReport_unasked f (by simp) (by simp) (by simp)
  obtain ⟨k, hk, hraises⟩ := hd v rfl rfl rfl rfl hfire
  have hend := Does.endStep (u := { v with sht := sht, sup := sup }) hx hfloor huse
  have htable : (s.flr.table.set f r').modify f (fun r => { r with inStep := false }) = s.flr.table.set f r.rises := by
    rw [modify_eq_set (List.getElem?_set_self hlen), List.set_set]
    rfl
  have hstate : ({ v with sht := sht, sup := sup } : State).onFlr (fun t => t.modify f fun r => { r with inStep := false }) =
      ({ s with sht := sht, sup := sup, flr := { table := s.flr.table.set f r.rises } } : State).noticed
        (.floorState f .shut .opening .programme none none none) :=
    congrArg (fun l : List Floor => ({ s with sht := sht, sup := sup, flr := { table := l } } : State).noticed
      (.floorState f .shut .opening .programme none none none)) htable
  rw [hstate] at hend
  have hall := (Does.notice (s.onFlr fun t => { table := t.table.set f r' })
    (.floorState f .shut .opening .programme none none none)).cons (hreport.cons (hraises.append hend))
  refine ⟨1 + (1 + (1 + (k + 1))), by omega, ?_⟩
  exact .flr (m := .raise f) (f := fun t => { table := t.table.set f r' })
    (fun q => (floorRaise_eq (s := s.during q []) hr hst).trans rfl) hall

/-- START OPENING with the chain at rest: the shutters of the first floor are raised. -/
theorem exec_startOpening_raises {f j n : Nat} {r : Floor} {x : Shutter} {sht : Shutters} {sup : Supply} (hs : s.ready = true)
    (h : s.prg.kind = .none) (hfire : s.fir.condition = .normal) (hstill : s.chn.state.moving = false)
    (hfloors : (openingOrder s.prg.settings.street).filter (fun f => (s.flr.inState .shut).contains f) = floors)
    (hf : floors.head? = some f) (hr : s.flr.table[f]? = some r) (hd : s.RaisesTo f j sht sup) (hj : j ≤ 1000)
    (hx : sht.get? n = some x) (hfloor : x.config.floor = f) (huse : x.state.inUse = true) (tag : Nat) :
    exec (.startOpening tag) s = .next
      (((({ s with
        prg := s.prg.started .opening .raise floors (some 0) false, sht := sht, sup := sup
        flr := { table := s.flr.table.set f r.rises } }.noticed
      (.programmeStarted .opening floors)).noticed (.programmeStep .opening .raise (some f))).noticed
      (.floorState f .shut .opening .programme none none none)).answered tag .startOpening (.taken false)) := by
  have hmem : f ∈ s.flr.inState .shut := by
    have := List.mem_of_mem_head? hf
    rw [← hfloors] at this
    simpa using (List.mem_filter.mp this).2
  have hst : r.state = .shut := by
    obtain ⟨y, hy, hshut⟩ := mem_numbersWhere.mp hmem
    rw [hr] at hy
    rw [Option.some.inj hy]
    exact beq_iff_eq.mp hshut
  have hsome : s.flr.inState .shut ≠ [] := List.ne_nil_of_mem hmem
  have hshut : s.flr.isIn f .shut = true := Floors.isIn_iff.mpr ⟨r, hr, hst⟩
  -- CHAIN_STOP ends at once, the cursor on the first floor.
  set v := s.onPrg fun p => p.started .opening .chainStop floors (some 0) false
  set v₁ := v.noticed (.programmeStarted .opening floors)
  have hfloor₁ : v₁.prg.floor? = some f := by
    rw [← hf, List.head?_eq_getElem?]
    rfl
  set v₂ := v₁.onPrg fun p => { p with step := some .raise, deadline := .stopped, placingRetry := .stopped }
  obtain ⟨k, hk, hraise⟩ := Does.floor_raises (s := v₂.noticed (.programmeStep .opening .raise (some f))) hr hst hd hx hfloor huse
  have hnext := Does.prg (u := v₁) (m := .raiseNext)
    (ms := [.lnk (.notice (.programmeStep .opening .raise (some f))), .flr (.raise f)])
    (f := fun p => { p with step := some .raise, deadline := .stopped, placingRetry := .stopped })
    (fun q => programmeRaise_shut (s := v₁.during q []) hfloor₁ hshut)
    ((Does.notice v₂ (.programmeStep .opening .raise (some f))).cons hraise)
  have hexec : exec (.startOpening tag) s = _ := exec_of_does (v := v)
    (ms := [.lnk (.notice (.programmeStarted .opening floors)), .prg .raiseNext]) rfl hs
    (fun hw => absurd hw Bool.false_ne_true) (fun q => by
      refine (orderStartOpening_takes (s := s.during q []) h hfire hsome hfloors).trans ?_
      exact congrArg taken (if_neg (Bool.eq_false_iff.mp hstill)))
    ((Does.notice v _).cons hnext) (hn := by omega)
  exact hexec

end

end Sys2Proof.Machine
end

section
/-! SKIP FLOOR (R82, R83, R148): the floor is SWEPT by order and SECURING at once, and its shutters begin their drops. -/

namespace Sys2Proof.Machine

/-! ### Drops -/

/-- The shutter's record once its floor's shutters have been dropped. -/
def Shutter.droppedAt (f : Nat) (q : Shutter) : Shutter :=
  if q.config.floor = f ∧ (q.state = .opened ∨ q.state = .partOpen) then q.falls else q

/-- A shutter whose drop needs nobody's leave: it waits for no raise, and stands clear of the chain if it is to fall. -/
structure State.DropsClear (u : State) (f n : Nat) (q : Shutter) : Prop where
  present : u.sht.get? n = some q
  floor : q.config.floor = f
  free : q.state ≠ .waitSupply ∧ q.state ≠ .raising
  clear : q.state = .opened ∨ q.state = .partOpen →
    ∀ l ∈ q.landing?, u.chn.state = .parked ∧ ∃ p ∈ u.chn.park, l ∈ p.set

section
variable {u : State} {f n : Nat} {q : Shutter}

theorem Does.drop (h : u.DropsClear f n q) :
    ∃ k ≤ 5, Does k [.sht (.drop n)] u (u.onSht fun t => t.set n (some (q.droppedAt f))) := by
  by_cases hst : q.state = .opened ∨ q.state = .partOpen
  · have hfalls : q.droppedAt f = q.falls := if_pos ⟨h.floor, hst⟩
    rw [hfalls]
    obtain ⟨k, hk, hd⟩ := Does.warnMsgs (u := u.onSht fun t => t.set n (some q.falls)) (n := n) (r := q)
      (Shutters.get?_set_self h.present _) (by rcases hst with h | h <;> simp [h]) u.sht
    refine ⟨1 + k, by omega, .sht (m := .drop n) (f := fun t => t.set n (some q.falls)) (fun q' => ?_) hd⟩
    simp only [shutterTake, shutterDrop_held (s := u.during q' []) h.present hst, taken]
    exact (shutterFall_warns (s := u.during q' []) h.present (h.clear hst)).trans
      (shutterWarn_eq (s := u.during q' []) h.present)
  · have hkept : q.droppedAt f = q := if_neg fun h => hst h.2
    have hsame : (u.onSht fun t => t.set n (some q)) = u := State.onSht_congr (g := id)
      (congrArg Shutters.mk (set_same (present?_eq_some.mp h.present)))
    rw [hkept, hsame]
    refine ⟨1, by norm_num, .sht_same fun q' => ?_⟩
    obtain ⟨hwait, hraise⟩ := h.free
    simp only [shutterTake]
    cases hq : q.state with
    | opened => exact absurd (.inl hq) hst
    | partOpen => exact absurd (.inr hq) hst
    | waitSupply => exact absurd hq hwait
    | raising => exact absurd hq hraise
    | closed => rw [shutterDrop_closed (s := u.during q' []) h.present hq]; rfl
    | unseen => rw [shutterDrop_wrong (s := u.during q' []) h.present (.inr hq)]; rfl
    | fault => rw [shutterDrop_wrong (s := u.during q' []) h.present (.inl hq)]; rfl
    | awaitClear => rw [shutterDrop_takes (s := u.during q' []) h.present (by simp [hq])]; rfl
    | warning => rw [shutterDrop_takes (s := u.during q' []) h.present (by simp [hq])]; rfl
    | descending => rw [shutterDrop_takes (s := u.during q' []) h.present (by simp [hq])]; rfl
    | arrested => rw [shutterDrop_takes (s := u.during q' []) h.present (by simp [hq])]; rfl

/-- One shutter after another is dropped. -/
theorem Does.drops (ns : List Nat) (hnodup : ns.Nodup) (hns : ∀ n ∈ ns, ∃ q, u.DropsClear f n q) :
    ∃ k ≤ ns.length * 5, Does k (ns.map fun n => Msg.sht (.drop n)) u
      (u.onSht fun t => { table := ns.foldl (fun l n => l.modify n (Option.map (Shutter.droppedAt f))) t.table }) := by
  induction ns generalizing u with
  | nil => exact ⟨0, le_rfl, .nil u⟩
  | cons n ns ih =>
    obtain ⟨hnew, hnodup⟩ := List.nodup_cons.mp hnodup
    obtain ⟨q, hq⟩ := hns n List.mem_cons_self
    obtain ⟨j, hj, hd⟩ := Does.drop hq
    obtain ⟨k, hk, hrest⟩ := ih (u := u.onSht fun t => t.set n (some (q.droppedAt f))) hnodup fun m hm => by
      obtain ⟨x, hx⟩ := hns m (List.mem_cons_of_mem _ hm)
      have hne : n ≠ m := fun heq => hnew (heq ▸ hm)
      exact ⟨x, (Shutters.get?_set_ne hne ..).trans hx.present, hx.floor, hx.free, hx.clear⟩
    refine ⟨j + k, by rw [List.length_cons]; omega, ?_⟩
    have hset : (u.sht.set n (some (q.droppedAt f))).table = u.sht.table.modify n (Option.map (Shutter.droppedAt f)) :=
      (modify_eq_set (present?_eq_some.mp hq.present) (Option.map (Shutter.droppedAt f))).symm
    have hend := hd.cons hrest
    simp only [State.onSht, hset] at hend
    exact hend

end

theorem Shutters.foldl_dropped (t : Shutters) (f : Nat) :
    (t.ofFloor f).foldl (fun l n => l.modify n (Option.map (Shutter.droppedAt f))) t.table =
      t.table.map fun o => o.map (Shutter.droppedAt f) := by
  refine (foldl_modify_where ..).trans (List.map_congr_left fun o _ => ?_)
  cases o with
  | none => rfl
  | some q =>
    by_cases hq : q.config.floor = f
    · simp [hq]
    · simp [hq, Shutter.droppedAt]

/-- A drop leaves the shutters of a floor that is not all closed so. -/
theorem Shutters.allClosed_dropped (t : Shutters) (f : Nat) :
    ({ table := t.table.map fun o => o.map (Shutter.droppedAt f) } : Shutters).allClosed f = t.allClosed f := by
  have hone (q : Shutter) : (q.droppedAt f).countsClosed = q.countsClosed ∧ (q.droppedAt f).config = q.config := by
    unfold Shutter.droppedAt
    split
    · next h =>
      obtain ⟨-, hst⟩ := h
      have hclosed : q.falls.countsClosed = false := by
        unfold Shutter.falls
        split <;> rfl
      rw [hclosed]
      exact ⟨by rcases hst with h | h <;> simp [Shutter.countsClosed, h], q.falls_config⟩
    · exact ⟨rfl, rfl⟩
  unfold Shutters.allClosed Shutters.everyOf
  rw [List.all_map]
  congr 1
  funext o
  cases o with
  | none => rfl
  | some q =>
    obtain ⟨hclosed, hconfig⟩ := hone q
    simp [hclosed, hconfig]

/-! ### The secure step (R83) -/

section
variable {s : State} {f : Nat} {r : Floor}

/-- The floor's record once its shutters have been told to drop. -/
def Floor.secures (r : Floor) : Floor := { r with state := .securing, inStep := false, faulted := 0 }

theorem floorSecure_eq (hr : s.flr.table[f]? = some r) (hst : r.state = .swept) : floorSecure f s =
    (s.onFlr fun t => { table := t.table.set f { r.secures with inStep := true } }).post
      ([.cal (.flush f), .lnk (.notice (.floorState f .swept .securing .programme none (some (s.sht.declining f)) none)),
        .prg (.floorReport f .swept .securing)] ++
        ((s.sht.ofFloor f).map (fun n => Msg.sht (.drop n)) ++ [.flr (.endStep f)])) := by
  have hstate : s.flr.state? f = some .swept := by simp [Floors.state?, Floors.get?, hr, hst]
  have henter := floorEnter_eq hstate .securing .programme (some 0) (some (s.sht.declining f)) none
  have hnow : (s.flr.table.modify f (Floor.entering .securing (some 0))).modify f (fun r => { r with inStep := true }) =
      s.flr.table.set f { r.secures with inStep := true } := by
    rw [List.modify_modify_eq, modify_eq_set hr]
    rfl
  have hswept : s.flr.isIn f .swept = true := beq_iff_eq.mpr hstate
  unfold floorSecure
  rw [if_pos hswept, henter]
  simp only [State.onFlr, State.post, Floors.modify, hnow, List.append_assoc]
  rfl

theorem Does.endStep_securing (hr : s.flr.table[f]? = some r) (hst : r.state = .securing) (hopen : s.sht.allClosed f = false) :
    Does 1 [.flr (.endStep f)] s (s.onFlr fun t => t.modify f fun r => { r with inStep := false }) :=
  .flr (m := .endStep f) (ms := []) (fun q => by
    have hget : ((s.during q []).onFlr fun t => t.modify f fun r => { r with inStep := false }).flr.get? f =
        some { r with inStep := false } := by
      refine (List.getElem?_modify_eq ..).trans ?_
      exact congrArg (Option.map _) hr
    have hopen' : ((s.during q []).onFlr fun t => t.modify f fun r => { r with inStep := false }).sht.allClosed f = false :=
      hopen
    simp only [floorTake, floorEndStep, floorTest, hget, hst, hopen', Bool.false_eq_true, if_false, State.post_nil]) (.nil _)

/-- The secure step of a floor that is not all closed. -/
theorem Does.floor_secures (hr : s.flr.table[f]? = some r) (hst : r.state = .swept) (hcalls : s.cal.calls = [])
    (hopen : s.sht.allClosed f = false) (hlen : s.sht.table.length = 48)
    (hns : ∀ n q, s.sht.get? n = some q → q.config.floor = f → s.DropsClear f n q) :
    ∃ k ≤ 300, Does k [.flr (.secure f)] s (({ s with
      sht := { table := s.sht.table.map fun o => o.map (Shutter.droppedAt f) }
      flr := { table := s.flr.table.set f r.secures } } : State).noticed
        (.floorState f .swept .securing .programme none (some (s.sht.declining f)) none)) := by
  have hflen : f < s.flr.table.length := (List.getElem?_eq_some_iff.mp hr).1
  set b : NoticeBody := .floorState f .swept .securing .programme none (some (s.sht.declining f)) none
  set v := s.onFlr fun t => { table := t.table.set f { r.secures with inStep := true } }
  set w := v.noticed b
  have hreport : Does 1 [.prg (.floorReport f .swept .securing)] w w :=
    Does.floorReport_unasked f (by simp) (by simp) (by simp)
  obtain ⟨k, hk, hdrops⟩ := Does.drops (u := w) (f := f) (s.sht.ofFloor f) (numbersWhere_nodup _ _) fun n hn => by
    obtain ⟨o, ho, hfloor⟩ := mem_numbersWhere.mp hn
    obtain ⟨q, rfl, hq⟩ := Option.any_eq_true _ _ |>.mp hfloor
    obtain ⟨hpresent, hfloor, hfree, hclear⟩ := hns n q (present?_eq_some.mpr ho) (beq_iff_eq.mp hq)
    exact ⟨q, hpresent, hfloor, hfree, hclear⟩
  have htable : (w.onSht fun t => { table := ((s.sht.ofFloor f).foldl
      (fun l n => l.modify n (Option.map (Shutter.droppedAt f))) t.table) }) =
      w.onSht fun t => { table := t.table.map fun o => o.map (Shutter.droppedAt f) } :=
    State.onSht_congr (congrArg Shutters.mk (Shutters.foldl_dropped s.sht f))
  rw [htable] at hdrops
  have hend := Does.endStep_securing (s := w.onSht fun t => { table := t.table.map fun o => o.map (Shutter.droppedAt f) })
    (r := { r.secures with inStep := true }) (List.getElem?_set_self hflen) rfl ((Shutters.allClosed_dropped _ _).trans hopen)
  have hflr : (s.flr.table.set f { r.secures with inStep := true }).modify f (fun r => { r with inStep := false }) =
      s.flr.table.set f r.secures := by
    rw [modify_eq_set (List.getElem?_set_self hflen), List.set_set]
    rfl
  have hstate : ((w.onSht fun t => { table := t.table.map fun o => o.map (Shutter.droppedAt f) }).onFlr fun t =>
      t.modify f fun r => { r with inStep := false }) = ({ s with
      sht := { table := s.sht.table.map fun o => o.map (Shutter.droppedAt f) }
      flr := { table := s.flr.table.set f r.secures } } : State).noticed b :=
    congrArg (fun l : List Floor => ({ s with
      sht := { table := s.sht.table.map fun o => o.map (Shutter.droppedAt f) }, flr := { table := l } } : State).noticed b) hflr
  rw [hstate] at hend
  have hcount : (s.sht.ofFloor f).length ≤ 48 := (List.length_filter_le ..).trans (by rw [List.length_range, hlen])
  refine ⟨1 + (1 + (1 + (1 + (k + 1)))), by omega, ?_⟩
  exact .flr (m := .secure f) (f := fun t => { table := t.table.set f { r.secures with inStep := true } })
    (fun q => (floorSecure_eq (s := s.during q []) hr hst).trans rfl)
    ((Does.flush_none (u := v) hcalls f).cons ((Does.notice v b).cons (hreport.cons (hdrops.append hend))))

/-! ### The order -/

theorem floorConfirm_order (hr : s.flr.table[f]? = some r) (hst : r.state = .closing) : floorConfirm f .order s =
    (s.onFlr fun t => { table := t.table.set f { r with state := .swept, inStep := false, confirmation := some .order } }).post
      [.cal (.withdrawSweep f), .lnk (.notice (.floorState f .closing .swept .sweepSkipped none none none)),
        .prg (.floorReport f .closing .swept)] := by
  have hclosing : s.flr.isIn f .closing = true := Floors.isIn_iff.mpr ⟨r, hr, hst⟩
  have hstate : (s.onFlr fun t => t.modify f fun r => { r with confirmation := some .order }).flr.state? f = some .closing := by
    simp [Floors.state?, Floors.get?, Floors.modify, hr, hst]
  have henter := floorEnter_eq hstate .swept .sweepSkipped none none none
  have hnow : (s.flr.table.modify f (fun r => { r with confirmation := some .order })).modify f (Floor.entering .swept none) =
      s.flr.table.set f { r with state := .swept, inStep := false, confirmation := some .order } := by
    rw [List.modify_modify_eq, modify_eq_set hr]
    rfl
  unfold floorConfirm
  rw [if_pos hclosing]
  refine henter.trans ?_
  simp only [State.onFlr, State.post, Floors.modify, hnow]
  rfl

/-- The secure step of the programme (R149). -/
theorem programmeFloorReport_swept (hf : s.prg.floor? = some f) (hat : s.prg.isAt .sweep = true)
    (hswept : s.flr.isIn f .swept = true) : programmeFloorReport f .closing .swept s =
      (s.onPrg fun p => { p with step := some .secure, deadline := .stopped, placingRetry := .stopped, sweepCall := none }).post
        [.lnk (.notice (.programmeStep s.prg.kind .secure (some f))), .flr (.secure f)] := by
  have hfloor : ({ s.prg with
      sweepCall := none, step := some .secure, deadline := .stopped, placingRetry := .stopped } : Programme).floor? =
    some f := hf
  have hfloor' : (s.prg.floor? != some f) = false := by simp [hf]
  unfold programmeFloorReport
  simp only [hfloor', hat, Bool.false_eq_true, if_false, beq_self_eq_true, Bool.and_self, if_true, programmeSecure, programmeStep,
    State.notify, State.post, State.onPrg, hswept, hfloor, List.append_assoc, List.cons_append, List.nil_append]

theorem exec_skipFloor {k : Nat} (hs : s.ready = true) (hkind : s.prg.kind = .closing) (hstep : s.prg.step = some .sweep)
    (hcursor : s.prg.cursor = some k) (hf : s.prg.floors[k]? = some f) (hcalls : s.cal.calls = [])
    (hr : s.flr.table[f]? = some r) (hst : r.state = .closing) (hopen : s.sht.allClosed f = false)
    (hlen : s.sht.table.length = 48) (hns : ∀ n q, s.sht.get? n = some q → q.config.floor = f → s.DropsClear f n q)
    (tag : Nat) : exec (.skipFloor tag) s = .next
      (((({ s with
        flr := { table := s.flr.table.set f { r.secures with confirmation := some .order } }
        prg := { s.prg with step := some .secure, deadline := .stopped, placingRetry := .stopped, sweepCall := none }
        sht := { table := s.sht.table.map fun o => o.map (Shutter.droppedAt f) } } : State).noticed
        (.floorState f .closing .swept .sweepSkipped none none none)).noticed
        (.programmeStep .closing .secure (some f))).noticed
        (.floorState f .swept .securing .programme none (some (s.sht.declining f)) none) |>.answered tag .skipFloor
        (.done false (field 1 f))) := by
  have hfloor : s.prg.floor? = some f := Option.bind_eq_some_iff.mpr ⟨k, hcursor, hf⟩
  have hat : s.prg.isAt .sweep = true := Programme.isAt_iff.mpr ⟨by simp [hkind], hstep⟩
  have hflen : f < s.flr.table.length := (List.getElem?_eq_some_iff.mp hr).1
  set r' : Floor := { r with state := .swept, inStep := false, confirmation := some .order }
  set v := s.onFlr fun t => { table := t.table.set f r' }
  set w := v.noticed (.floorState f .closing .swept .sweepSkipped none none none)
  have hr' : w.flr.table[f]? = some r' := List.getElem?_set_self hflen
  set x := w.onPrg fun p => { p with step := some .secure, deadline := .stopped, placingRetry := .stopped, sweepCall := none }
  obtain ⟨j, hj, hsecure⟩ := Does.floor_secures (s := x.noticed (.programmeStep .closing .secure (some f))) (f := f) (r := r')
    hr' rfl hcalls hopen hlen fun n q hq hfloor => by
      obtain ⟨hpresent, hfloor, hfree, hclear⟩ := hns n q hq hfloor
      exact ⟨hpresent, hfloor, hfree, hclear⟩
  have hreport := Does.prg (u := w) (m := .floorReport f .closing .swept)
    (ms := [.lnk (.notice (.programmeStep .closing .secure (some f))), .flr (.secure f)])
    (f := fun p => { p with step := some .secure, deadline := .stopped, placingRetry := .stopped, sweepCall := none })
    (fun q => by
      rw [← hkind]
      exact programmeFloorReport_swept (s := w.during q []) hfloor hat (Floors.isIn_iff.mpr ⟨r', hr', rfl⟩))
    ((Does.notice x (.programmeStep .closing .secure (some f))).cons hsecure)
  have hconfirm := Does.flr (u := s) (m := .confirm f .order) (f := fun t => { table := t.table.set f r' })
    (fun q => floorConfirm_order (s := s.during q []) hr hst)
    ((Does.withdrawSweep_none (u := v) hcalls f).cons ((Does.notice v _).cons hreport))
  have hexec : exec (.skipFloor tag) s = _ := exec_of_does (v := s) (ms := [.flr (.confirm f .order)])
    (r := .done false (field 1 f)) rfl hs (fun hw => absurd hw Bool.false_ne_true) (fun q => by
      have hgo : (s.prg.kind == .closing && s.prg.isAt .sweep) = true := by simp [hkind, hat]
      simp only [serveOrder, orderSkipFloor, State.during_prg, hgo, hfloor]
      rfl) hconfirm (hn := by omega)
  refine hexec.trans ?_
  have hflr : (s.flr.table.set f r').set f r'.secures = s.flr.table.set f { r.secures with confirmation := some .order } := by
    rw [List.set_set]
    rfl
  rw [← hflr]
  rfl

end

end Sys2Proof.Machine
end

section
/-! PROOF of O46 ProgrammeOrders. -/

namespace Sys2Proof.Machine

theorem Shutters.presentWhere_eq (t : Shutters) (p : Shutter → Bool) :
    presentWhere t.table p = (List.range t.table.length).filter fun n => (t.get? n).any p := by
  refine List.filter_congr fun n _ => ?_
  unfold Shutters.get? present?
  cases t.table[n]? with
  | none => rfl
  | some o => cases o <;> rfl

section
variable {s : State} {f : Nat}

/-- The one shutter of a floor is raised at once. -/
theorem State.raisesTo_one {n : Nat} {q : Shutter} (hns : s.sht.ofFloor f = [n]) (hq : s.sht.get? n = some q)
    (hfloor : q.config.floor = f) (hst : q.state = .closed ∨ q.state = .partOpen) (hcondition : s.fir.condition = .normal)
    (hstill : s.chn.state.moving = false) (hadmits : s.sup.admits q.config.group = true)
    (hrefused : s.chn.creepRefused = false) : s.RaisesTo f 10
      (s.sht.set n (some { q.resting .raising with raiseTimer := Timer.start q.config.raise }))
      (s.sup.withMove q.config.group (.shutter n) .raise) := by
  obtain ⟨g, hg, -, hempty, -⟩ := Supply.admits_iff.mp hadmits
  intro u hsht hsup hchn hfir hfire
  have hlock : fireLocked u.flr u.fir.condition q = false := by simp [fireLocked, hfloor, hfire, hfir, hcondition]
  rw [hns, ← hsht, ← hsup]
  obtain ⟨k, hk, hd⟩ := Does.asks_admits (s := u) (n := n) (r := q) (by rw [hsht]; exact hq)
    (by rcases hst with h | h <;> simp [h]) hlock (fun _ => by rw [hchn]; exact hstill) (by rw [hsup]; exact hadmits)
    (by rw [hchn]; exact hrefused)
  exact ⟨1 + k, by omega, Does.raise (by rw [hsht]; exact hq) hlock hst (fun _ => by rw [hchn]; exact hstill)
    (by rw [hsup]; exact Supply.full_eq_false hg (by rw [hempty]; norm_num)) hd⟩

/-- Every shutter of a floor waits for its slot. -/
theorem State.raisesTo_all {grp : Nat → Nat} (hns : ∀ n ∈ s.sht.ofFloor f, ∃ q, s.RaiseWaits grp f (s.sht.ofFloor f).length n q)
    (hcondition : s.fir.condition = .normal) (hstill : s.chn.state.moving = false) :
    s.RaisesTo f ((s.sht.ofFloor f).length * 5)
      { table := s.sht.table.map fun o => o.map fun q => if q.config.floor = f then q.resting .waitSupply else q }
      { s.sup with groups := s.sup.groups.mapIdx fun g r => { r with
        queue := r.queue ++ ((s.sht.ofFloor f).filter fun n => grp n == g).map fun n =>
          (⟨.shutter n, .raise⟩ : MoveRequest) } } := by
  intro u hsht hsup hchn hfir hfire
  obtain ⟨k, hk, hd⟩ := Does.raises_wait (u := u) (grp := grp) (s.sht.ofFloor f) (numbersWhere_nodup _ _) (fun n hn => by
    obtain ⟨q, hpresent, hfloor, hgroup, hst, hroom⟩ := hns n hn
    exact ⟨q, by rw [hsht]; exact hpresent, hfloor, hgroup, hst, by rw [hsup]; exact hroom⟩) hfire (by rw [hfir]; exact hcondition)
    (by rw [hchn]; exact hstill)
  refine ⟨k, hk, ?_⟩
  have hend := hd
  simp only [State.onSht, State.onSup, hsht, hsup, Shutters.foldl_waits, Supply.foldl_joined] at hend
  exact hend

end

/-- Settles O46: the start of each programme by the floors and the chain, the floor skipped, and the abort. -/
theorem programmeOrders : Obligations.ProgrammeOrders := by
  refine ⟨fun s tag hs => ?_, fun s tag hs => ?_, fun s tag k f hs hkind hstep hcursor hf hcalls r hr hst hopen hlen hns => ?_,
    fun s tag st hs hkind hstep hsounding => ?_, fun s tag hs hkind => ?_⟩
  · intro trading floors
    refine ⟨fun h => exec_unchanged rfl hs (fun hw => absurd hw Bool.false_ne_true) fun q =>
        orderStartClosing_busy (s := s.during q []) h,
      fun h hfire => exec_unchanged rfl hs (fun hw => absurd hw Bool.false_ne_true) fun q =>
        orderStartClosing_fireLock (s := s.during q []) h hfire,
      fun h hfire hnone => exec_unchanged rfl hs (fun hw => absurd hw Bool.false_ne_true) fun q =>
        orderStartClosing_wrong (s := s.during q []) h hfire hnone, fun h hfire hsome hsilent hlen => ?_⟩
    have hrunning : (s.chn.state == .starting || s.chn.state == .running) =
        decide (s.chn.state = .starting ∨ s.chn.state = .running) := by
      rw [Bool.decide_or, beq_eq_decide, beq_eq_decide]
    have hexec := exec_startClosing (floors := floors) hs h hfire hsome hsilent hlen rfl tag
    rw [hrunning] at hexec
    refine hexec.trans ?_
    rw [State.foldl_noticed]
    rfl
  · intro shut floors
    refine ⟨fun h hfire hnone => exec_unchanged rfl hs (fun hw => absurd hw Bool.false_ne_true) fun q =>
        orderStartOpening_wrong (s := s.during q []) h hfire hnone, ?_⟩
    intro opening
    refine ⟨fun halone hsome hconfigured hclearance hstate => ?_, fun h hfire hstill hlen f hf r hr => ?_⟩
    · obtain ⟨-, -, hsettles⟩ := s.alone_iff.mp halone
      rw [supplyEnded_sup hsettles]
      exact exec_startOpening_moving (floors := floors) hs halone hsome hconfigured hclearance hstate rfl tag
    · intro ofFloor raised
      have hofFloor : s.sht.ofFloor f = ofFloor := Shutters.presentWhere_eq ..
      have hfloorOf {n : Nat} {q : Shutter} (hn : n ∈ ofFloor) (hq : s.sht.get? n = some q) : q.config.floor = f := by
        have := (List.mem_filter.mp hn).2
        rw [hq] at this
        exact beq_iff_eq.mp this
      refine ⟨fun n hns q hq hst hadmits hrefused => ?_, fun hne hwaits => ?_⟩
      · have hmem : n ∈ ofFloor := by rw [hns]; exact List.mem_singleton_self n
        exact exec_startOpening_raises (floors := floors) hs h hfire hstill rfl hf hr
          (State.raisesTo_one (hofFloor.trans hns) hq (hfloorOf hmem hq) hst hfire hstill hadmits hrefused) (by norm_num)
          (Shutters.get?_set_self hq (some { q.resting .raising with raiseTimer := Timer.start q.config.raise }))
          (show q.config.floor = f from hfloorOf hmem hq) rfl tag
      · set grp : Nat → Nat := fun n => ((s.sht.get? n).map (·.config.group)).getD 0 with hgrp
        have hpresent {n : Nat} (hn : n ∈ ofFloor) : ∃ q, s.sht.get? n = some q := by
          obtain ⟨q, hq, -⟩ := Option.any_eq_true _ _ |>.mp (List.mem_filter.mp hn).2
          exact ⟨q, hq⟩
        have hall : s.RaisesTo f _ _ _ := State.raisesTo_all (grp := grp) (fun n hn => by
          rw [hofFloor] at hn ⊢
          obtain ⟨q, hq⟩ := hpresent hn
          obtain ⟨hst, hgroup, hroom⟩ := hwaits n hn q hq
          have hsame : q.config.group = grp n := by simp [hgrp, hq]
          refine ⟨q, hq, hfloorOf hn hq, hsame, hst, ?_⟩
          rw [← hsame]
          exact ⟨_, List.getElem?_eq_getElem hgroup, hroom _ (List.getElem?_eq_getElem hgroup)⟩) hfire hstill
        have hcount : (s.sht.ofFloor f).length ≤ 48 := (List.length_filter_le ..).trans (by rw [List.length_range, hlen])
        obtain ⟨n, hn⟩ := List.exists_mem_of_ne_nil _ hne
        obtain ⟨q, hq⟩ := hpresent hn
        have hfloor := hfloorOf hn hq
        have hx : ({ table := s.sht.table.map fun o => o.map fun q =>
            if q.config.floor = f then q.resting .waitSupply else q } : Shutters).get? n = some (q.resting .waitSupply) := by
          refine present?_eq_some.mpr ?_
          rw [List.getElem?_map, present?_eq_some.mp hq, Option.map_some, Option.map_some, if_pos hfloor]
        have hgroups (g : Nat) : ((s.sht.ofFloor f).filter fun n => grp n == g) =
            ofFloor.filter fun n => (s.sht.get? n).any fun q => q.config.group == g := by
          rw [hofFloor]
          refine List.filter_congr fun m hm => ?_
          obtain ⟨x, hx⟩ := hpresent hm
          simp [hgrp, hx]
        have hexec := exec_startOpening_raises (floors := floors) hs h hfire hstill rfl hf hr hall (by omega) hx
          (show q.config.floor = f from hfloor) rfl tag
        simp only [hgroups] at hexec
        exact hexec
  · intro dropped declined
    have hdropped : Shutter.droppedAt f = dropped := funext fun q => rfl
    have hdeclined : s.sht.declining f = declined := Shutters.presentWhere_eq ..
    have hexec := exec_skipFloor hs hkind hstep hcursor hf hcalls hr hst hopen hlen (fun n q hq hfloor => by
      obtain ⟨hwait, hraise, hclear⟩ := hns n (List.getElem?_eq_some_iff.mp (present?_eq_some.mp hq)).1 q hq hfloor
      exact ⟨hq, hfloor, ⟨hwait, hraise⟩, hclear⟩) tag
    rw [hdropped, hdeclined] at hexec
    exact hexec
  · intro floor
    have hexec : exec (.abortProgramme tag) s = _ := exec_of_does (v := s.onPrg fun p => p.ended .aborted) rfl hs
      (r := .done false (field 1 s.prg.kind.code ++ field 1 st.code ++ field? 1 floor)) (fun hw => absurd hw Bool.false_ne_true)
      (fun q => (orderAbortProgramme_silent (s := s.during q []) hkind hstep hsounding).trans rfl)
      (Does.notice _ (.programmeEnded s.prg.kind .aborted (some st) floor s.prg.faulted s.prg.skipped
        (if s.prg.kind = .opening then some s.prg.opened else none)))
    have hended : (s.onPrg fun p => p.ended .aborted) = s.onPrg fun p => { p with
        kind := .none, step := none, cursor := none, deadline := .stopped, sweepCall := none
        placingRetry := .stopped, last := some ⟨.aborted, st, floor⟩ } :=
      State.onPrg_congr (by simp only [Programme.ended, hstep, hsounding, Option.getD_some]; rfl)
    rw [hended] at hexec
    exact hexec
  · have hidle : s.prg.running = false := by simp [Programme.running, hkind]
    refine ⟨exec_unchanged rfl hs (fun hw => absurd hw Bool.false_ne_true) fun q => ?_,
      exec_unchanged rfl hs (fun hw => absurd hw Bool.false_ne_true) fun q => ?_⟩
    · have hno : (s.prg.kind == .closing && s.prg.isAt .sweep) = false := by simp [hkind]
      simp only [serveOrder, orderSkipFloor, State.during_prg, hno]
      rfl
    · simp only [serveOrder, orderAbortProgramme, State.during_prg, hidle, Bool.not_false, if_true]
      rfl

end Sys2Proof.Machine
end

section
/-! SERVICE RESET (R189): the blocks before the floors. -/

namespace Sys2Proof.Machine

/-! ### The supply with nothing queued (R70, R71) -/

/-- No request is queued. -/
def Supply.unqueued (u : Supply) : Prop := ∀ r ∈ u.groups, r.queue = []

/-- The supply once the owner's move has ended. -/
def State.supEnded (s : State) (o : MoveOwner) (u : Supply) : Supply := (supplyEnded o { s with sup := u }).sup

section
variable {u : State}

theorem Does.pass_unqueued (h : u.sup.unqueued) (g : Nat) : Does 1 [.sup (.pass g)] u u :=
  .pass_waits fun r hr => .inl (h r (List.mem_of_getElem? hr))

theorem Does.withdraw_unqueued (h : u.sup.unqueued) (owner : MoveOwner) : Does 1 [.sup (.withdraw owner)] u u :=
  .sup_same fun q => by
    have hnone : u.sup.queuedIn owner = none := by
      refine List.head?_eq_none_iff.mpr (List.eq_nil_iff_forall_not_mem.mpr fun g hg => ?_)
      obtain ⟨r, hr, hany⟩ := mem_numbersWhere.mp hg
      simp [h r (List.mem_of_getElem? hr)] at hany
    simp only [supplyTake, supplyWithdraw, State.during_sup, hnone]

theorem Supply.unqueued_modify {v : Supply} (h : v.unqueued) (g : Nat) {f : Group → Group} (hf : ∀ r, (f r).queue = r.queue) :
    (v.modify g f).unqueued := by
  intro r hr
  obtain ⟨k, hk⟩ := List.mem_iff_getElem?.mp hr
  rw [Supply.modify, List.getElem?_modify] at hk
  obtain ⟨x, hx, hxr⟩ := Option.map_eq_some_iff.mp hk
  rw [← hxr]
  split
  · rw [hf, h x (List.mem_of_getElem? hx)]
  · exact h x (List.mem_of_getElem? hx)

/-- A move that ends with nothing queued admits nobody, whether it settles or leaves at once. -/
theorem supplyEnded_unqueued (s : State) (owner : MoveOwner) (h : u.sup.unqueued) : (s.supEnded owner u.sup).unqueued ∧
    ∃ ms, (ms = [] ∨ ∃ g, ms = [.sup (.pass g)]) ∧
      ∀ q, supplyEnded owner (u.during q []) = ((u.during q []).onSup (s.supEnded owner)).post ms := by
  have hput {x : Supply} (hend : s.supEnded owner u.sup = x) (q : List Request) :
      (u.during q []).onSup (s.supEnded owner) = { u.during q [] with sup := x } := by
    subst hend
    rfl
  have hnothing (hend : s.supEnded owner u.sup = u.sup) (htake : ∀ q, supplyEnded owner (u.during q []) = u.during q []) :
      (s.supEnded owner u.sup).unqueued ∧ ∃ ms, (ms = [] ∨ ∃ g, ms = [.sup (.pass g)]) ∧
        ∀ q, supplyEnded owner (u.during q []) = ((u.during q []).onSup (s.supEnded owner)).post ms := by
    refine ⟨?_, [], .inl rfl, fun q => ?_⟩
    · rw [hend]
      exact h
    · rw [hput hend, State.post_nil]
      exact htake q
  cases hg : u.sup.activeIn owner with
  | none =>
    exact hnothing (by simp only [State.supEnded, supplyEnded, hg, Option.bind_none]) fun q => by
      simp only [supplyEnded, State.during_sup, hg, Option.bind_none]
  | some g =>
    cases hr : u.sup.group? g with
    | none =>
      exact hnothing (by simp only [State.supEnded, supplyEnded, hg, Option.bind_some, hr, Option.map_none]) fun q => by
        simp only [supplyEnded, State.during_sup, hg, Option.bind_some, hr, Option.map_none]
    | some r =>
      by_cases hzero : r.config.settle = 0
      · have hend : s.supEnded owner u.sup = { u.sup.modify g fun r =>
            { r with moves := r.moves.filter fun m => !(m.owner == owner && m.active) } with
            order := u.sup.order.filter fun o => o != owner } := by
          simp only [State.supEnded, supplyEnded, supplyReleased, hg, Option.bind_some, hr, Option.map_some, hzero, if_true]
          rfl
        refine ⟨?_, [.sup (.pass g)], .inr ⟨g, rfl⟩, fun q => ?_⟩
        · rw [hend]
          exact Supply.unqueued_modify h g fun _ => rfl
        · rw [hput hend]
          simp only [supplyEnded, supplyReleased, State.during_sup, hg, Option.bind_some, hr, Option.map_some, hzero, if_true]
          rfl
      · have hend : s.supEnded owner u.sup = { u.sup.modify g fun x => { x with moves := x.moves.map fun m =>
            if m.owner == owner && m.active then { m with phase := .settling (Config.seconds r.config.settle) } else m } with
            order := u.sup.order.filter fun o => o != owner } := by
          simp only [State.supEnded, supplyEnded, hg, Option.bind_some, hr, Option.map_some, hzero, if_false]
          rfl
        refine ⟨?_, [], .inl rfl, fun q => ?_⟩
        · rw [hend]
          exact Supply.unqueued_modify h g fun _ => rfl
        · rw [hput hend]
          simp only [supplyEnded, State.during_sup, hg, Option.bind_some, hr, Option.map_some, hzero, if_false, State.post_nil]
          rfl

theorem Does.ended_unqueued (s : State) (owner : MoveOwner) (h : u.sup.unqueued) :
    ∃ k ≤ 2, Does k [.sup (.ended owner)] u (u.onSup (s.supEnded owner)) := by
  obtain ⟨hafter, ms, hms, htake⟩ := supplyEnded_unqueued s owner h
  rcases hms with rfl | ⟨g, rfl⟩
  · exact ⟨1 + 0, by norm_num, .sup (m := .ended owner) htake (.nil _)⟩
  · exact ⟨1 + 1, le_rfl, .sup (m := .ended owner) htake (Does.pass_unqueued (u := u.onSup _) hafter g)⟩

/-! ### The programme aborted (R156) -/

/-- The part with a running programme aborted by the reset. -/
def State.abortedByReset (u : State) : State :=
  if u.prg.kind = .none then u
  else (u.onPrg fun p => p.ended .abortedByReset).noticed
    (.programmeEnded u.prg.kind .abortedByReset u.prg.step u.prg.floor? u.prg.faulted u.prg.skipped
      (if u.prg.kind = .opening then some u.prg.opened else none))

theorem Does.cancel_silent (hqueue : u.snd.queue = []) (hplaying : u.snd.playing = []) (o : SoundOrigin) :
    Does 1 [.snd (.cancel o)] u u :=
  .snd (m := .cancel o) (f := id) (ms := []) (fun q => by
    have hnothing : ({ u.snd.remove fun x => x.origin == o with
        playing := u.snd.playing.filter fun p => p.sounding.cls.isFire || p.sounding.origin != o } : Sounder) = u.snd := by
      simp only [Sounder.remove, hqueue, hplaying, List.filter_nil, List.length_nil, Config.sounderPlaces]
      have hroom : (u.snd.roomDue || ((0 : Nat) == 24 && decide (0 < 24))) = u.snd.roomDue := Bool.or_false _
      rw [← hqueue, ← hplaying, hroom]
    simp only [soundTake, soundCancel, State.during_snd, hplaying, List.any_nil, Bool.false_eq_true, if_false, State.post_nil]
    exact State.onSnd_congr (s := u.during q []) hnothing) (.nil _)

theorem Does.programme_reset (hqueue : u.snd.queue = []) (hplaying : u.snd.playing = []) :
    ∃ k ≤ 3, Does k [.prg .serviceReset] u u.abortedByReset := by
  by_cases hidle : u.prg.kind = .none
  · have hsame : u.abortedByReset = u := if_pos hidle
    rw [hsame]
    exact ⟨1, by norm_num, .prg_same fun q => by simp [programmeTake, programmeAbort, Programme.running, hidle]⟩
  · have haborted : u.abortedByReset = _ := if_neg hidle
    rw [haborted]
    have hruns : u.prg.running = true := by simp [Programme.running, hidle]
    set v := u.onPrg fun p => p.ended .abortedByReset
    set b : NoticeBody := .programmeEnded u.prg.kind .abortedByReset u.prg.step u.prg.floor? u.prg.faulted u.prg.skipped
      (if u.prg.kind = .opening then some u.prg.opened else none)
    have htake {ms : List Msg} (hms : (match u.prg.step, u.prg.sounding with
        | some st, some _ => [Msg.snd (.cancel (.programme st))]
        | _, _ => []) = ms) (q : List Request) : programmeTake .serviceReset (u.during q []) =
          ((u.during q []).onPrg fun p => p.ended .abortedByReset).post (ms ++ [.lnk (.notice b)]) := by
      simp only [programmeTake, programmeAbort, State.during_prg, hruns, Bool.not_true, Bool.false_eq_true, if_false]
      rw [← hms]
      simp only [programmeEnd, State.notify, State.post, State.onPrg, List.append_assoc]
      rfl
    cases hstep : u.prg.step with
    | none => exact ⟨1 + 1, by norm_num, .prg (m := .serviceReset) (htake (ms := []) (by rw [hstep])) (.notice v b)⟩
    | some st =>
      cases hsounding : u.prg.sounding with
      | none => exact ⟨1 + 1, by norm_num, .prg (m := .serviceReset) (htake (ms := []) (by rw [hstep, hsounding])) (.notice v b)⟩
      | some r => exact ⟨1 + (1 + 1), le_rfl, .prg (m := .serviceReset)
          (htake (ms := [.snd (.cancel (.programme st))]) (by rw [hstep, hsounding]))
          ((Does.cancel_silent (u := v) hqueue hplaying (.programme st)).append (.notice v b))⟩

/-! ### The chain (R26) -/

/-- No landing is held in NORMAL (R168). -/
theorem Does.chainChanged_normal (hcondition : u.fir.condition = .normal) (hwait : u.fir.heldWait = false) :
    Does 1 [.fir .chainChanged] u (u.onFir fun f => { f with held := [] }) :=
  .fir (m := .chainChanged) (f := fun f => { f with held := [] }) (ms := []) (fun q => by
    have hset : heldSet u.chn u.fir.condition = [] := by rw [hcondition, heldSet_normal]
    simp only [fireTake, fireHold, State.during_fir, State.during_chn, hset, hwait, setMinus, List.filter_nil, List.isEmpty_nil,
      Bool.not_true, Bool.false_eq_true, if_false, State.post_nil]) (.nil _)

/-- The chain's record with its request, plan and clearance set gone. -/
def Chain.emptied (c : Chain) : Chain :=
  { c with
    clearance := [], creepRefused := false, plan := none, creepCount := 0, request := none
    creepSet := if c.request = none then c.creepSet else [] }

/-- The chain is to be braked by a service reset. -/
def Chain.brakesAtReset (c : Chain) : Bool := c.state.moving && c.state != .braking

theorem chainServiceReset_eq (q : List Request) : chainServiceReset (u.during q []) =
    (u.onChn fun c => if c.brakesAtReset then c.emptied.into .braking else c.emptied).during q
      ((if u.chn.request = none then [] else [.sup (.withdraw .chain)]) ++ [.fir .chainChanged] ++
        if u.chn.brakesAtReset then [.sup (.ended .chain), .prg (.chainState .braking), .fir .chainChanged] else []) := by
  have hwithdrawn : ((chainWithdraw (u.during q [])).onChn fun c =>
      { c with clearance := [], creepRefused := false, plan := none, creepCount := 0 }).post [.fir .chainChanged] =
        (u.onChn Chain.emptied).during q
          ((if u.chn.request = none then [] else [.sup (.withdraw .chain)]) ++ [.fir .chainChanged]) := by
    by_cases hrequest : u.chn.request = none
    · rw [chainWithdraw_none u q [] hrequest, if_pos hrequest]
      have hchn : (u.onChn fun c => { c with clearance := [], creepRefused := false, plan := none, creepCount := 0 }) =
          u.onChn Chain.emptied := State.onChn_congr (by simp [Chain.emptied, ← hrequest])
      show (u.onChn fun c => { c with clearance := [], creepRefused := false, plan := none, creepCount := 0 }).during q
        [.fir .chainChanged] = _
      rw [hchn]
      rfl
    · rw [chainWithdraw_some u q hrequest, if_neg hrequest]
      have hchn : ((u.onChn fun c => { c with request := none, creepSet := [] }).onChn fun c =>
          { c with clearance := [], creepRefused := false, plan := none, creepCount := 0 }) = u.onChn Chain.emptied := by
        simp only [State.onChn, Chain.emptied, if_neg hrequest]
      show ((u.onChn fun c => { c with request := none, creepSet := [] }).onChn fun c =>
        { c with clearance := [], creepRefused := false, plan := none, creepCount := 0 }).during q
          [.sup (.withdraw .chain), .fir .chainChanged] = _
      rw [hchn]
      rfl
  unfold chainServiceReset
  dsimp only
  rw [hwithdrawn]
  by_cases hbrakes : u.chn.brakesAtReset = true
  · refine (if_pos hbrakes).trans ?_
    rw [chainBrake_during, if_pos hbrakes]
    have hchn : ((u.onChn Chain.emptied).onChn fun c => { c.into .braking with plan := none }) =
        u.onChn fun c => if c.brakesAtReset then c.emptied.into .braking else c.emptied := by
      simp only [State.onChn, if_pos hbrakes]
      rfl
    rw [hchn, List.append_assoc]
    rfl
  · refine (if_neg hbrakes).trans ?_
    have hchn : u.onChn Chain.emptied = u.onChn fun c => if c.brakesAtReset then c.emptied.into .braking else c.emptied := by
      simp only [State.onChn, if_neg hbrakes]
    rw [if_neg hbrakes, hchn, List.append_nil]

/-- The part once the chain has taken its part in a service reset. -/
def State.chainReset (s u : State) : State :=
  { u with
    chn := if u.chn.brakesAtReset then u.chn.emptied.into .braking else u.chn.emptied
    sup := if u.chn.brakesAtReset then s.supEnded .chain u.sup else u.sup
    fir := { u.fir with held := [] } }

theorem Does.chain_reset (s : State) (hsup : u.sup.unqueued) (hcondition : u.fir.condition = .normal)
    (hwait : u.fir.heldWait = false) :
    (s.chainReset u).sup.unqueued ∧ ∃ k ≤ 10, Does k [.chn .serviceReset] u (s.chainReset u) := by
  set v := u.onChn fun c => if c.brakesAtReset then c.emptied.into .braking else c.emptied
  have hwithdraw : ∃ k ≤ 1, Does k (if u.chn.request = none then [] else [.sup (.withdraw .chain)]) v v := by
    split
    · exact ⟨0, by norm_num, .nil v⟩
    · exact ⟨1, le_rfl, .withdraw_unqueued (u := v) hsup .chain⟩
  obtain ⟨j, hj, hwithdraw⟩ := hwithdraw
  have hheld := Does.chainChanged_normal (u := v) hcondition hwait
  set w := v.onFir fun f => { f with held := [] }
  by_cases hbrakes : u.chn.brakesAtReset = true
  · obtain ⟨hafter, -⟩ := supplyEnded_unqueued (u := u) s .chain hsup
    obtain ⟨k, hk, hended⟩ := Does.ended_unqueued (u := w) s .chain hsup
    have hstate : Does 1 [.prg (.chainState .braking)] (w.onSup (s.supEnded .chain)) (w.onSup (s.supEnded .chain)) :=
      Does.chainState_moving rfl
    have hheld' := Does.chainChanged_normal (u := w.onSup (s.supEnded .chain)) hcondition hwait
    have hend : ((w.onSup (s.supEnded .chain)).onFir fun f => { f with held := [] }) = s.chainReset u := by
      simp only [State.chainReset, if_pos hbrakes]
      simp only [w, v, State.onSup, State.onFir, State.onChn, if_pos hbrakes]
    rw [hend] at hheld'
    refine ⟨by simpa only [State.chainReset, if_pos hbrakes] using hafter, 1 + (j + 1 + (k + (1 + 1))), by omega, ?_⟩
    refine .chn (m := .serviceReset) (f := fun c => if c.brakesAtReset then c.emptied.into .braking else c.emptied)
      (fun q => (chainServiceReset_eq q).trans rfl) ?_
    rw [if_pos hbrakes]
    exact (hwithdraw.append hheld).append (hended.cons (hstate.cons hheld'))
  · have hend : w = s.chainReset u := by
      simp only [w, v, State.chainReset, State.onFir, State.onChn, if_neg hbrakes]
    rw [hend] at hheld
    refine ⟨by simpa only [State.chainReset, if_neg hbrakes] using hsup, 1 + (j + 1 + 0), by omega, ?_⟩
    refine .chn (m := .serviceReset) (f := fun c => if c.brakesAtReset then c.emptied.into .braking else c.emptied)
      (fun q => (chainServiceReset_eq q).trans rfl) ?_
    rw [if_neg hbrakes]
    exact (hwithdraw.append hheld).append (.nil _)

end

end Sys2Proof.Machine
end

section
/-! SERVICE RESET (R93): the floors. -/

namespace Sys2Proof.Machine

/-- The state a floor comes to. -/
def Shutters.standing (t : Shutters) (f : Nat) (st : FloorState) : FloorState :=
  match st with
  | .closing | .swept => .trading
  | .securing => if t.allClosed f then .shut else .trading
  | .opening => if t.allOpen f then .trading else .shut
  | .trading => .trading
  | .shut => .shut
  | .fire => .fire

theorem Shutters.standing_rests (t : Shutters) (f : Nat) (st : FloorState) :
    t.standing f st ≠ .securing ∧ t.standing f st ≠ .opening ∧ t.standing f st ≠ .closing := by
  cases st with
  | closing | swept | trading | shut | fire => exact ⟨nofun, nofun, nofun⟩
  | securing | opening =>
    simp only [Shutters.standing]
    split <;> exact ⟨by decide, by decide, by decide⟩

/-- The floor's record once it has taken its part. -/
def Floor.stands (t : Shutters) (f : Nat) (r : Floor) : Floor :=
  if t.standing f r.state = r.state then r
  else { r with
    state := t.standing f r.state, inStep := false
    confirmation := if t.standing f r.state = .trading then none else r.confirmation }

/-- The notice of a floor that changes its state. -/
def Floor.standNotice (t : Shutters) (f : Nat) (r : Floor) : Option NoticeBody :=
  if t.standing f r.state = r.state then none
  else some (.floorState f r.state (t.standing f r.state) .serviceReset none none none)

/-- What the floor's part hands on. -/
def Floor.standMsgs (t : Shutters) (f : Nat) (r : Floor) : List Msg :=
  if t.standing f r.state = r.state then []
  else floorMsgs f r.state (t.standing f r.state)
    (.floorState f r.state (t.standing f r.state) .serviceReset none none none)

section
variable {s : State} {f : Nat} {r : Floor}

theorem floorServiceOne_eq (hr : s.flr.table[f]? = some r) : floorServiceOne f s =
    (s.onFlr fun t => { table := t.table.set f (r.stands s.sht f) }).post (r.standMsgs s.sht f) := by
  have hstate : s.flr.state? f = some r.state := by simp [Floors.state?, Floors.get?, hr]
  obtain ⟨hsecuring, hopening, hclosing⟩ := s.sht.standing_rests f r.state
  by_cases hkept : s.sht.standing f r.state = r.state
  · have hsame : (s.onFlr fun t => { table := t.table.set f r }) = s :=
      State.onFlr_congr (g := id) (congrArg Floors.mk (set_same hr))
    have hone : floorServiceOne f s = s := by
      unfold floorServiceOne
      cases hst : r.state with
      | trading | shut | fire => simp only [hstate, hst]
      | closing | swept =>
        rw [hst] at hkept
        cases hkept
      | securing => exact absurd (hkept.trans hst) hsecuring
      | opening => exact absurd (hkept.trans hst) hopening
    rw [hone, Floor.stands, if_pos hkept, Floor.standMsgs, if_pos hkept, State.post_nil, hsame]
  · have henters : floorServiceOne f s = floorEnter f (s.sht.standing f r.state) .serviceReset none none none s := by
      unfold floorServiceOne
      cases hst : r.state with
      | trading | shut | fire =>
        rw [hst] at hkept
        exact absurd rfl hkept
      | closing | swept | securing | opening => simp only [hstate, hst]; rfl
    have htable : s.flr.table.modify f (Floor.entering (s.sht.standing f r.state) none) =
        s.flr.table.set f (r.stands s.sht f) := by
      rw [modify_eq_set hr, Floor.stands, if_neg hkept]
      simp [Floor.entering, hclosing]
    rw [henters, floorEnter_eq hstate, Floor.standMsgs, if_neg hkept]
    exact congrArg (State.post · _) (State.onFlr_congr (congrArg Floors.mk htable))

/-- The first `k` floors have taken their part. -/
def Floors.stoodTo (t : Floors) (sht : Shutters) (k : Nat) : Floors :=
  { table := t.table.mapIdx fun f r => if f < k then r.stands sht f else r }

theorem Floors.stoodTo_succ {t : Floors} {sht : Shutters} {k : Nat} {r : Floor} (hr : t.table[k]? = some r) :
    ({ table := (t.stoodTo sht k).table.set k (r.stands sht k) } : Floors) = t.stoodTo sht (k + 1) := by
  refine congrArg Floors.mk (List.ext_getElem? fun n => ?_)
  have hlen : k < t.table.length := (List.getElem?_eq_some_iff.mp hr).1
  by_cases hn : n = k
  · subst hn
    rw [List.getElem?_set_self (by simpa [Floors.stoodTo] using hlen)]
    simp [List.getElem?_mapIdx, hr]
  · have hlt : n < k + 1 ↔ n < k := by omega
    rw [List.getElem?_set_ne (Ne.symm hn)]
    simp only [Floors.stoodTo, List.getElem?_mapIdx, hlt]

/-- What the first `k` floors hand on. -/
def Floors.standMsgs (t : Floors) (sht : Shutters) (k : Nat) : List Msg :=
  (List.range k).flatMap fun f => ((t.table[f]?).map fun r => r.standMsgs sht f).getD []

/-- The notices of the first `k` floors. -/
def Floors.standNotices (t : Floors) (sht : Shutters) (k : Nat) : List NoticeBody :=
  (List.range k).filterMap fun f => (t.table[f]?).bind fun r => r.standNotice sht f

theorem Floors.standMsgs_succ (t : Floors) (sht : Shutters) (k : Nat) : t.standMsgs sht (k + 1) =
    t.standMsgs sht k ++ ((t.table[k]?).map fun r => r.standMsgs sht k).getD [] := by
  rw [Floors.standMsgs, List.range_succ, List.flatMap_append, List.flatMap_singleton]
  rfl

theorem Floors.standNotices_succ (t : Floors) (sht : Shutters) (k : Nat) : t.standNotices sht (k + 1) =
    t.standNotices sht k ++ ((t.table[k]?).bind fun r => r.standNotice sht k).toList := by
  rw [Floors.standNotices, List.range_succ, List.filterMap_append]
  cases h : (t.table[k]?).bind fun r => r.standNotice sht k <;> simp [Floors.standNotices, h]

theorem floorServiceOnes_eq (k : Nat) (hk : k ≤ s.flr.table.length) :
    (List.range k).foldl (fun s f => floorServiceOne f s) s =
      (s.onFlr fun t => t.stoodTo s.sht k).post (s.flr.standMsgs s.sht k) := by
  induction k with
  | zero =>
    have hzero : s.flr.stoodTo s.sht 0 = s.flr :=
      congrArg Floors.mk (List.ext_getElem? fun n => by simp [List.getElem?_mapIdx])
    have hsame : (s.onFlr fun t => t.stoodTo s.sht 0) = s := State.onFlr_congr (g := id) hzero
    rw [hsame]
    exact (State.post_nil s).symm
  | succ k ih =>
    have hr : s.flr.table[k]? = some s.flr.table[k] := List.getElem?_eq_getElem hk
    have hr' : ((s.onFlr fun t => t.stoodTo s.sht k).post (s.flr.standMsgs s.sht k)).flr.table[k]? = some s.flr.table[k] := by
      show (s.flr.stoodTo s.sht k).table[k]? = _
      simp [Floors.stoodTo, List.getElem?_mapIdx, hr]
    rw [List.range_succ, List.foldl_append, ih (by omega), List.foldl_cons, List.foldl_nil, floorServiceOne_eq hr']
    rw [Floors.standMsgs_succ, hr]
    have hflr := Floors.stoodTo_succ (t := s.flr) (sht := s.sht) hr
    simp only [State.post, State.onFlr, List.append_assoc, hflr, Option.map_some, Option.getD_some]

theorem Floors.stoodTo_length (t : Floors) (sht : Shutters) :
    t.stoodTo sht t.table.length = { table := t.table.mapIdx fun f r => r.stands sht f } :=
  congrArg Floors.mk (List.ext_getElem? fun n => by
    simp only [List.getElem?_mapIdx]
    cases hr : t.table[n]? with
    | none => rfl
    | some r => simp [(List.getElem?_eq_some_iff.mp hr).1])

end

section
variable {u : State}

@[simp] theorem State.noticedAll_cal (bs : List NoticeBody) : (u.noticedAll bs).cal = u.cal := by rw [State.noticedAll_eq]

/-- Without calls and without programme the notices alone are left. -/
theorem Does.standMsgs (hcalls : u.cal.calls = []) (hidle : u.prg.kind = .none) (t : Floors) (sht : Shutters) (k : Nat) :
    ∃ n ≤ k * 5, Does n (t.standMsgs sht k) u (u.noticedAll (t.standNotices sht k)) := by
  induction k with
  | zero => exact ⟨0, le_rfl, .nil u⟩
  | succ k ih =>
    obtain ⟨n, hn, hd⟩ := ih
    set v := u.noticedAll (t.standNotices sht k)
    have hcalls' : v.cal.calls = [] := by rw [State.noticedAll_cal]; exact hcalls
    have hidle' : v.prg.kind = .none := by rw [State.noticedAll_prg]; exact hidle
    have hone : ∃ j ≤ 5, Does j (((t.table[k]?).map fun r => r.standMsgs sht k).getD []) v
        (v.noticedAll ((t.table[k]?).bind fun r => r.standNotice sht k).toList) := by
      cases hr : t.table[k]? with
      | none => exact ⟨0, by norm_num, .nil v⟩
      | some r =>
        by_cases hkept : sht.standing k r.state = r.state
        · simp only [Option.map_some, Option.getD_some, Option.bind_some, Floor.standMsgs, Floor.standNotice, if_pos hkept]
          exact ⟨0, by norm_num, .nil v⟩
        · simp only [Option.map_some, Option.getD_some, Option.bind_some, Floor.standMsgs, Floor.standNotice, if_neg hkept]
          obtain ⟨j, hj, hd⟩ := Does.floorMsgs hcalls' hidle' k r.state (sht.standing k r.state)
            (.floorState k r.state (sht.standing k r.state) .serviceReset none none none)
          exact ⟨j, by omega, hd⟩
    obtain ⟨j, hj, hlast⟩ := hone
    refine ⟨n + j, by rw [Nat.succ_mul]; omega, ?_⟩
    rw [Floors.standMsgs_succ, Floors.standNotices_succ, State.noticedAll_append]
    exact hd.append hlast

/-- The part once the floors have taken their part. -/
def State.floorsReset (u : State) : State :=
  (u.onFlr fun t => { table := t.table.mapIdx fun f r => r.stands u.sht f }).noticedAll
    (u.flr.standNotices u.sht u.flr.table.length)

theorem Does.floors_reset (hcalls : u.cal.calls = []) (hidle : u.prg.kind = .none) :
    ∃ k ≤ 1 + u.flr.table.length * 5, Does k [.flr .serviceReset] u u.floorsReset := by
  obtain ⟨n, hn, hd⟩ := Does.standMsgs (u := u.onFlr fun t => { table := t.table.mapIdx fun f r => r.stands u.sht f }) hcalls hidle
    u.flr u.sht u.flr.table.length
  refine ⟨1 + n, by omega, .flr (m := .serviceReset) (f := fun t => { table := t.table.mapIdx fun f r => r.stands u.sht f })
    (fun q => ?_) hd⟩
  refine (floorServiceOnes_eq (s := u.during q []) _ le_rfl).trans ?_
  exact congrArg (State.post · _) (State.onFlr_congr (s := u.during q []) (Floors.stoodTo_length u.flr u.sht))

/-- No floor waits for its shutters after it. -/
theorem State.floorsReset_waitsFor (u : State) (f : Nat) : u.floorsReset.flr.waitsFor f = false := by
  have hstate (r : Floor) : (r.stands u.sht f).state ≠ .securing ∧ (r.stands u.sht f).state ≠ .opening := by
    obtain ⟨hsecuring, hopening, -⟩ := u.sht.standing_rests f r.state
    unfold Floor.stands
    split
    · next h => exact h ▸ ⟨hsecuring, hopening⟩
    · exact ⟨hsecuring, hopening⟩
  have hget : u.floorsReset.flr.state? f = (u.flr.table[f]?).map fun r => (r.stands u.sht f).state := by
    rw [State.floorsReset, State.noticedAll_flr]
    simp only [State.onFlr, Floors.state?, Floors.get?, List.getElem?_mapIdx, Option.map_map]
    rfl
  rw [Floors.waitsFor, Floors.isIn, Floors.isIn, hget]
  cases u.flr.table[f]? with
  | none => rfl
  | some r => simp [hstate r]

end

end Sys2Proof.Machine
end

section
/-! SERVICE RESET (R66): the shutters. -/

namespace Sys2Proof.Machine

/-- The record of a shutter once it has taken its part. -/
def Shutter.returned (r : Shutter) : Shutter :=
  if r.state = .awaitClear ∨ r.state = .warning ∨ r.state = .waitSupply then r.held
  else if r.state = .raising then { r.resting .partOpen with forced := false }
  else r

/-- The table once the first `k` shutters have taken their part. -/
def Shutters.returnedTo (t : Shutters) (k : Nat) : Shutters :=
  { table := t.table.mapIdx fun n o => if n < k then o.map Shutter.returned else o }

def Shutters.isRaising (t : Shutters) (n : Nat) : Bool := (t.get? n).any fun r => r.state == .raising

section
variable {t : Shutters} {k : Nat}

theorem Shutters.returnedTo_zero (t : Shutters) : t.returnedTo 0 = t :=
  congrArg Shutters.mk (List.ext_getElem? fun n => by simp [List.getElem?_mapIdx])

theorem Shutters.returnedTo_length (t : Shutters) :
    t.returnedTo t.table.length = { table := t.table.map fun o => o.map Shutter.returned } :=
  congrArg Shutters.mk (List.ext_getElem? fun n => by
    simp only [List.getElem?_mapIdx, List.getElem?_map]
    cases hn : t.table[n]? with
    | none => rfl
    | some o => simp [(List.getElem?_eq_some_iff.mp hn).1])

theorem Shutters.returnedTo_getElem? (t : Shutters) (k : Nat) : (t.returnedTo k).table[k]? = t.table[k]? := by
  simp [Shutters.returnedTo, List.getElem?_mapIdx]

theorem Shutters.returnedTo_get? (t : Shutters) (k : Nat) : (t.returnedTo k).get? k = t.get? k :=
  congrArg Option.join (t.returnedTo_getElem? k)

/-- The next entry takes its part. -/
theorem Shutters.returnedTo_succ {o : Option Shutter} (ho : t.table[k]? = some o) :
    (t.returnedTo k).set k (o.map Shutter.returned) = t.returnedTo (k + 1) := by
  refine congrArg Shutters.mk (List.ext_getElem? fun n => ?_)
  have hlen : k < t.table.length := (List.getElem?_eq_some_iff.mp ho).1
  by_cases hn : n = k
  · subst hn
    rw [List.getElem?_set_self (by simpa [Shutters.returnedTo] using hlen)]
    simp [List.getElem?_mapIdx, ho]
  · have hlt : n < k + 1 ↔ n < k := by omega
    rw [List.getElem?_set_ne (Ne.symm hn)]
    simp only [Shutters.returnedTo, List.getElem?_mapIdx, hlt]

end

/-! ### What they hand on -/

/-- A message without effect once the blocks before the shutters have taken their part. -/
def Msg.isIdleAtReset : Msg → Bool
  | .sup (.withdraw _) | .chn (.leave _) | .chn (.shutterChanged _ false) | .flr (.shutterChanged ..) => true
  | _ => false

/-- The shutter whose raise the message ends. -/
def Msg.raiseEnded : Msg → Option Nat
  | .sup (.ended (.shutter n)) => some n
  | _ => none

/-- The messages end the raises of the shutters `raising`, in that order, and are else without effect. -/
structure ReturnMsgs (raising : List Nat) (ms : List Msg) : Prop where
  known : ∀ m ∈ ms, m.isIdleAtReset = true ∨ ∃ n, m = .sup (.ended (.shutter n))
  ended : ms.filterMap Msg.raiseEnded = raising

namespace ReturnMsgs

variable {raising : List Nat} {ms l : List Msg}

theorem nil : ReturnMsgs [] [] := ⟨fun _ hm => absurd hm List.not_mem_nil, rfl⟩

theorem raiseEnded_of_idle {m : Msg} (h : m.isIdleAtReset = true) : m.raiseEnded = none := by
  unfold Msg.isIdleAtReset at h
  split at h
  case h_5 => cases h
  all_goals rfl

theorem idle (hl : ∀ m ∈ l, m.isIdleAtReset = true) : ReturnMsgs [] l :=
  ⟨fun m hm => .inl (hl m hm), List.filterMap_eq_nil_iff.mpr fun m hm => raiseEnded_of_idle (hl m hm)⟩

theorem raise (n : Nat) : ReturnMsgs [n] [.sup (.ended (.shutter n))] :=
  ⟨fun _ hm => .inr ⟨n, List.mem_singleton.mp hm⟩, rfl⟩

theorem append {others : List Nat} (h : ReturnMsgs raising ms) (h' : ReturnMsgs others l) :
    ReturnMsgs (raising ++ others) (ms ++ l) where
  known m hm := (List.mem_append.mp hm).elim (h.known m) (h'.known m)
  ended := by rw [List.filterMap_append, h.ended, h'.ended]

theorem append_idle (h : ReturnMsgs raising ms) (hl : ∀ m ∈ l, m.isIdleAtReset = true) : ReturnMsgs raising (ms ++ l) := by
  simpa using h.append (.idle hl)

/-- A withdrawal goes before what is not ahead (R68). -/
theorem ask (h : ReturnMsgs raising ms) (owner : MoveOwner) :
    ReturnMsgs raising (ms.filter Msg.isAhead ++ [.sup (.withdraw owner)] ++ ms.filter fun m => !m.isAhead) := by
  have hahead : ReturnMsgs raising (ms.filter Msg.isAhead) := by
    refine ⟨fun m hm => h.known m (List.mem_filter.mp hm).1, ?_⟩
    rw [List.filterMap_filter, ← h.ended]
    refine List.filterMap_congr fun m hm => ?_
    rcases h.known m hm with hidle | ⟨n, rfl⟩
    · rw [raiseEnded_of_idle hidle, ite_self]
    · rfl
  refine (hahead.append_idle fun m hm => ?_).append_idle fun m hm => ?_
  · rw [List.mem_singleton.mp hm]
    rfl
  · obtain ⟨hin, hbehind⟩ := List.mem_filter.mp hm
    rcases h.known m hin with hidle | ⟨n, rfl⟩
    · exact hidle
    · cases hbehind

end ReturnMsgs

/-- A shutter that is held up neither waits for clearance nor is in FAULT. -/
theorem alterMsgs_idle {n : Nat} {old r : Shutter} {permitted : Bool} (hclear : r.state ≠ .awaitClear) (hfault : r.state ≠ .fault) :
    (∀ m ∈ alterMsgs n old r permitted, m.isIdleAtReset = true) ∧ (alterMsgs n old r permitted).length ≤ 3 := by
  have hjoin : (if r.state = .awaitClear && old.state != .awaitClear then r.landing?.toList.map fun l => Msg.chn (.join l)
      else []) = [] := if_neg (by simp [hclear])
  have hchain : (r.state == .fault) = false := by simpa using hfault
  have hleave : (if old.state = .awaitClear && r.state != .awaitClear then old.landing?.toList.map fun l => Msg.chn (.leave l)
      else []).length ≤ 1 := by
    split
    · cases old.landing? <;> simp
    · exact Nat.zero_le _
  rw [alterMsgs, hjoin, hchain, List.append_nil]
  refine ⟨fun m hm => ?_, ?_⟩
  · simp only [List.mem_append] at hm
    rcases hm with (hm | hm) | hm <;> split at hm
    · obtain ⟨l, -, rfl⟩ := List.mem_map.mp hm
      rfl
    · cases hm
    · rw [List.mem_singleton.mp hm]
      rfl
    · cases hm
    · rw [List.mem_singleton.mp hm]
      rfl
    · cases hm
  · have hlast {c : Prop} [Decidable c] (m : Msg) : (if c then [m] else []).length ≤ 1 := by split <;> simp
    simp only [List.length_append]
    exact Nat.add_le_add (Nat.add_le_add hleave (hlast _)) (hlast _)

section
variable {u : State} {n : Nat} {r : Shutter} {raising : List Nat} {ms : List Msg}

theorem Shutter.stillState_rests (r : Shutter) : r.stillState ≠ .awaitClear ∧ r.stillState ≠ .fault := by
  unfold Shutter.stillState
  cases r.position <;> exact ⟨by decide, by decide⟩

/-- One shutter's part: it returns, and what it hands on joins what the shutters before it have. -/
theorem shutterServiceOne_returns (hr : u.sht.get? n = some r) (h : ReturnMsgs raising ms) :
    ∃ l, ReturnMsgs (raising ++ if u.sht.isRaising n then [n] else []) l ∧ l.length ≤ ms.length + 4 ∧
      ∀ q, shutterServiceOne n (u.during q ms) = (u.onSht fun t => t.set n (some r.returned)).during q l := by
  have hraising : u.sht.isRaising n = (r.state == .raising) := by rw [Shutters.isRaising, hr]; rfl
  have hstill := r.held_state ▸ r.stillState_rests
  obtain ⟨hidle, hlength⟩ := alterMsgs_idle (n := n) (old := r) (permitted := u.sht.permit) hstill.1 hstill.2
  have hheld (st : ShutterState) (hst : r.state = st) (hup : st = .awaitClear ∨ st = .warning ∨ st = .waitSupply) :
      r.goTo r.stillState = r.returned := by rw [r.goTo_still, Shutter.returned, hst, if_pos hup]
  have hkept (st : ShutterState) (hst : r.state = st) (hother : ¬ (st = .awaitClear ∨ st = .warning ∨ st = .waitSupply))
      (hraise : st ≠ .raising) (hone : ∀ q, shutterServiceOne n (u.during q ms) = u.during q ms) :
      ∃ l, ReturnMsgs (raising ++ if u.sht.isRaising n then [n] else []) l ∧ l.length ≤ ms.length + 4 ∧
        ∀ q, shutterServiceOne n (u.during q ms) = (u.onSht fun t => t.set n (some r.returned)).during q l := by
    have hreturned : r.returned = r := by rw [Shutter.returned, hst, if_neg hother, if_neg hraise]
    have hsame : (u.onSht fun t => t.set n (some r.returned)) = u := by
      rw [hreturned]
      exact State.onSht_congr (g := id) (congrArg Shutters.mk (set_same (present?_eq_some.mp hr)))
    refine ⟨ms, ?_, Nat.le_add_right _ _, fun q => by rw [hone, hsame]⟩
    rw [hraising, hst, if_neg (by simpa using hraise), List.append_nil]
    exact h
  cases hst : r.state with
  | awaitClear | warning =>
    refine ⟨ms ++ alterMsgs n r r.held u.sht.permit, ?_, by rw [List.length_append]; omega, fun q => ?_⟩
    · rw [hraising, hst]
      exact (List.append_nil raising).symm ▸ h.append_idle hidle
    · unfold shutterServiceOne
      simp only [State.during_sht, hr, hst]
      rw [shutterChange_eq (s := u.during q ms) hr, ← hheld _ hst (by decide), r.goTo_still]
      rfl
  | waitSupply =>
    refine ⟨ms.filter Msg.isAhead ++ [.sup (.withdraw (.shutter n))] ++ (ms.filter fun m => !m.isAhead) ++
      alterMsgs n r r.held u.sht.permit, ?_, ?_, fun q => ?_⟩
    · rw [hraising, hst]
      exact (List.append_nil raising).symm ▸ (h.ask (.shutter n)).append_idle hidle
    · have hparts := List.length_eq_length_filter_add Msg.isAhead (l := ms)
      simp only [List.length_append, List.length_singleton]
      omega
    · unfold shutterServiceOne
      simp only [State.during_sht, hr, hst, shutterLeaveSupply]
      rw [shutterChange_eq (s := (u.during q ms).ask _) hr, ← hheld _ hst (by decide), r.goTo_still]
      rfl
  | raising =>
    have hgo : r.goTo .partOpen = r.returned := by
      rw [r.goTo_partOpen, Shutter.returned, hst, if_neg (by decide), if_pos rfl]
    obtain ⟨hidle, hlength⟩ := alterMsgs_idle (n := n) (old := r) (r := r.goTo .partOpen) (permitted := u.sht.permit)
      (nofun : ShutterState.partOpen ≠ .awaitClear) (nofun : ShutterState.partOpen ≠ .fault)
    refine ⟨ms ++ [.sup (.ended (.shutter n))] ++ alterMsgs n r (r.goTo .partOpen) u.sht.permit, ?_, ?_, fun q => ?_⟩
    · rw [hraising, hst]
      exact (h.append (.raise n)).append_idle hidle
    · simp only [List.length_append, List.length_singleton]
      omega
    · unfold shutterServiceOne
      simp only [State.during_sht, hr, hst, shutterLeaveSupply]
      rw [shutterChange_eq (s := (u.during q ms).post _) hr, ← hgo]
      rfl
  | unseen | opened | descending | arrested | closed | partOpen | fault =>
    exact hkept _ hst (by decide) (by decide) fun q => by
      unfold shutterServiceOne
      simp only [State.during_sht, hr, hst]

/-- An absent shutter takes no part (R42). -/
theorem shutterServiceOne_absent (hr : u.sht.get? n = none) (q : List Request) :
    shutterServiceOne n (u.during q ms) = u.during q ms := by
  unfold shutterServiceOne
  simp only [State.during_sht, hr]

/-- The first `k` shutters take their part. -/
theorem shutterServiceOnes_return (u : State) (k : Nat) (hk : k ≤ u.sht.table.length) :
    ∃ l, ReturnMsgs ((List.range k).filter u.sht.isRaising) l ∧ l.length ≤ k * 4 ∧
      ∀ q, (List.range k).foldl (fun s n => shutterServiceOne n s) (u.during q []) =
        (u.onSht fun t => t.returnedTo k).during q l := by
  induction k with
  | zero =>
    have hsame : (u.onSht fun t => t.returnedTo 0) = u := State.onSht_congr (g := id) u.sht.returnedTo_zero
    exact ⟨[], .nil, le_rfl, fun q => by rw [hsame]; rfl⟩
  | succ k ih =>
    obtain ⟨ms, hms, hlength, hfold⟩ := ih (by omega)
    have ho : u.sht.table[k]? = some u.sht.table[k] := List.getElem?_eq_getElem hk
    have hget : (u.onSht fun t => t.returnedTo k).sht.get? k = u.sht.get? k := u.sht.returnedTo_get? k
    have hraising : (u.onSht fun t => t.returnedTo k).sht.isRaising k = u.sht.isRaising k := by
      rw [Shutters.isRaising, hget, Shutters.isRaising]
    have hnext := Shutters.returnedTo_succ ho
    have hfilter : (List.range (k + 1)).filter u.sht.isRaising =
        (List.range k).filter u.sht.isRaising ++ if u.sht.isRaising k then [k] else [] := by
      rw [List.range_succ, List.filter_append, List.filter_singleton, Bool.cond_eq_ite]
    have hstep (q : List Request) : (List.range (k + 1)).foldl (fun s n => shutterServiceOne n s) (u.during q []) =
        shutterServiceOne k ((u.onSht fun t => t.returnedTo k).during q ms) := by
      rw [List.range_succ, List.foldl_append, hfold]
      rfl
    cases hr : u.sht.get? k with
    | none =>
      have hnone : u.sht.table[k] = none := by
        rw [Shutters.get?, present?, ho] at hr
        exact hr
      have hnot : u.sht.isRaising k = false := by rw [Shutters.isRaising, hr]; rfl
      rw [hnone] at ho hnext
      have hsame : (u.onSht fun t => t.returnedTo k) = u.onSht fun t => t.returnedTo (k + 1) :=
        State.onSht_congr ((congrArg Shutters.mk (set_same ((u.sht.returnedTo_getElem? k).trans ho))).symm.trans hnext)
      refine ⟨ms, ?_, by omega, fun q => ?_⟩
      · rw [hfilter, hnot]
        exact (List.append_nil _).symm ▸ hms
      · rw [hstep, shutterServiceOne_absent (hget.trans hr), hsame]
    | some r =>
      obtain ⟨l, hl, hlen, hone⟩ := shutterServiceOne_returns (hget.trans hr) hms
      have hsome : u.sht.table[k] = some r := Option.some.inj (ho.symm.trans (present?_eq_some.mp hr))
      rw [hsome] at hnext
      refine ⟨l, ?_, by omega, fun q => ?_⟩
      · rw [hfilter, ← hraising]
        exact hl
      · rw [hstep, hone]
        exact congrArg (fun x => State.during { u with sht := x } q l) hnext

end

/-! ### What comes of it -/

/-- The part as the shutters find it: no landing to clear, no floor that waits for a shutter, no request queued. -/
structure State.resettled (u : State) : Prop where
  clearance : u.chn.clearance = []
  floors : ∀ f, u.flr.waitsFor f = false
  unqueued : u.sup.unqueued
  condition : u.fir.condition = .normal
  heldWait : u.fir.heldWait = false
  held : u.fir.held = []

section
variable {u : State}

theorem Does.idle_at_reset (h : u.resettled) {m : Msg} (hm : m.isIdleAtReset = true) : ∃ k ≤ 2, Does k [m] u u := by
  unfold Msg.isIdleAtReset at hm
  split at hm
  · exact ⟨1, by norm_num, .withdraw_unqueued h.unqueued _⟩
  · rename_i l
    by_cases hwaits : u.sht.waiting l = true
    · exact ⟨1, by norm_num, .chn_same fun q => if_pos hwaits⟩
    · have hnone : setMinus u.chn.clearance [l] = u.chn.clearance := by rw [h.clearance]; rfl
      have hchn : (u.onChn fun c => { c with clearance := setMinus c.clearance [l] }) = u :=
        State.onChn_congr (g := id) (congrArg (fun x => { u.chn with clearance := x }) hnone)
      have hfir : (u.onFir fun f => { f with held := [] }) = u :=
        State.onFir_congr (g := id) (congrArg (fun x => { u.fir with held := x }) h.held.symm)
      have hchanged := Does.chainChanged_normal h.condition h.heldWait
      rw [hfir] at hchanged
      exact ⟨1 + 1, le_rfl, .chn (m := .leave l) (f := fun c => { c with clearance := setMinus c.clearance [l] })
        (ms := [.fir .chainChanged]) (fun q => if_neg hwaits) (hchn.symm ▸ hchanged)⟩
  · exact ⟨1, by norm_num, .landingChanged (fun hf => by cases hf) fun _ _ _ => h.clearance⟩
  · exact ⟨1, by norm_num, .floorChanged_idle (h.floors _) _ _⟩
  · cases hm

theorem Does.returnMsgs (s : State) {raising : List Nat} {ms : List Msg} (hms : ReturnMsgs raising ms) (h : u.resettled) :
    ∃ k ≤ ms.length * 2, Does k ms u (u.onSup fun x => raising.foldl (fun x n => s.supEnded (.shutter n) x) x) := by
  obtain ⟨hknown, rfl⟩ := hms
  induction ms generalizing u with
  | nil => exact ⟨0, le_rfl, .nil u⟩
  | cons m ms ih =>
    have hrest (m' : Msg) (hm' : m' ∈ ms) := hknown m' (List.mem_cons_of_mem _ hm')
    rcases hknown m List.mem_cons_self with hidle | ⟨n, rfl⟩
    · obtain ⟨j, hj, hfirst⟩ := Does.idle_at_reset h hidle
      obtain ⟨k, hk, hd⟩ := ih h hrest
      rw [List.filterMap_cons_none (ReturnMsgs.raiseEnded_of_idle hidle)]
      exact ⟨j + k, by rw [List.length_cons]; omega, hfirst.cons hd⟩
    · obtain ⟨j, hj, hfirst⟩ := Does.ended_unqueued s (.shutter n) h.unqueued
      obtain ⟨hafter, -⟩ := supplyEnded_unqueued s (.shutter n) h.unqueued
      obtain ⟨k, hk, hd⟩ := ih (u := u.onSup (s.supEnded (.shutter n))) { h with unqueued := hafter } hrest
      exact ⟨j + k, by rw [List.length_cons]; omega, hfirst.cons hd⟩

/-- The part once the shutters have taken their part. -/
def State.shuttersReset (s u : State) : State :=
  { u with
    sht := { table := u.sht.table.map fun o => o.map Shutter.returned }
    sup := ((List.range u.sht.table.length).filter u.sht.isRaising).foldl (fun x n => s.supEnded (.shutter n) x) u.sup }

theorem Does.shutters_reset (s : State) (h : u.resettled) :
    ∃ k ≤ 1 + u.sht.table.length * 8, Does k [.sht .serviceReset] u (s.shuttersReset u) := by
  obtain ⟨ms, hms, hlength, hfold⟩ := shutterServiceOnes_return u _ le_rfl
  have hsht : (u.onSht fun t => t.returnedTo t.table.length) = u.onSht fun t => { table := t.table.map fun o => o.map Shutter.returned } :=
    State.onSht_congr u.sht.returnedTo_length
  obtain ⟨k, hk, hd⟩ := Does.returnMsgs (u := u.onSht fun t => t.returnedTo t.table.length) s hms
    { clearance := h.clearance, floors := h.floors, unqueued := h.unqueued, condition := h.condition
      heldWait := h.heldWait, held := h.held }
  refine ⟨1 + k, by omega, .sht (m := .serviceReset) (f := fun t => t.returnedTo t.table.length) (ms := ms) (fun q => hfold q) ?_⟩
  rw [hsht] at hd ⊢
  exact hd

end

end Sys2Proof.Machine
end

section
/-! SERVICE RESET (R138, R141): the cues. -/

namespace Sys2Proof.Machine

/-- The next occurrence of a cue that has one. -/
def Clock.upcoming (c : Clock) (q : Cue) : Option (Occurrence × Nat) :=
  if c.isSet ∧ q.config.enabled then nextOccurrence q.config c.now else none

/-- The first `k` cues are rebuilt. -/
def Clock.rebuiltTo (c : Clock) (k : Nat) : Clock :=
  { c with cues := c.cues.mapIdx fun n q => if n < k then q.await (c.upcoming q) else q }

section
variable {c : Clock} {k : Nat}

theorem Clock.rebuiltTo_zero (c : Clock) : c.rebuiltTo 0 = c :=
  congrArg (fun l => { c with cues := l }) (List.ext_getElem? fun n => by simp [List.getElem?_mapIdx])

theorem Clock.rebuiltTo_get (c : Clock) (k : Nat) : (c.rebuiltTo k).cues[k]? = c.cues[k]? := by
  simp [Clock.rebuiltTo, List.getElem?_mapIdx]

theorem Clock.rebuiltTo_succ {q : Cue} (hq : c.cues[k]? = some q) :
    (c.rebuiltTo k).cues.set k (q.await (c.upcoming q)) = (c.rebuiltTo (k + 1)).cues := by
  refine List.ext_getElem? fun n => ?_
  have hlen : k < c.cues.length := (List.getElem?_eq_some_iff.mp hq).1
  by_cases hn : n = k
  · subst hn
    rw [List.getElem?_set_self (by simpa [Clock.rebuiltTo] using hlen)]
    simp [Clock.rebuiltTo, List.getElem?_mapIdx, hq]
  · have hlt : n < k + 1 ↔ n < k := by omega
    rw [List.getElem?_set_ne (Ne.symm hn)]
    simp only [Clock.rebuiltTo, List.getElem?_mapIdx, hlt]

theorem Clock.rebuiltTo_length (c : Clock) :
    c.rebuiltTo c.cues.length = { c with cues := c.cues.map fun q => q.await (c.upcoming q) } :=
  congrArg (fun l => { c with cues := l }) (List.ext_getElem? fun n => by
    simp only [List.getElem?_mapIdx, List.getElem?_map]
    cases hn : c.cues[n]? with
    | none => rfl
    | some q => simp [(List.getElem?_eq_some_iff.mp hn).1])

theorem nextOccurrence_no_day {q : Cue} (h : q.config.days = []) (ref : Occurrence) : nextOccurrence q.config ref = none := by
  simp [nextOccurrence, h]

/-- A cue with an occurrence ahead is not IDLE (R138). -/
theorem Clock.idle_of_upcoming {q : Cue} {x : Occurrence × Nat} (h : c.upcoming q = some x) :
    c.idle q = false ∧ nextOccurrence q.config c.now = some x := by
  obtain ⟨⟨hset, henabled⟩, hnext⟩ : (c.isSet ∧ q.config.enabled) ∧ nextOccurrence q.config c.now = some x :=
    Option.ite_none_right_eq_some.mp h
  have hdays : q.config.days ≠ [] := fun hnone => by
    rw [nextOccurrence_no_day hnone] at hnext
    cases hnext
  exact ⟨by simp [Clock.idle, hset, henabled, hdays], hnext⟩

end

section
variable {u : State} {n : Nat} {q : Cue}

/-- The fresh occurrence of a cue, more than 300 s ahead where there is one (R138). -/
theorem cueFresh_far (hq : u.clk.cues[n]? = some q) (hfar : ∀ x ∈ u.clk.upcoming q, 300 < x.2) :
    cueFresh n q u = u.withCue n (q.await (u.clk.upcoming q)) := by
  cases hup : u.clk.upcoming q with
  | some x =>
    obtain ⟨hidle, hnext⟩ := Clock.idle_of_upcoming hup
    exact cueFresh_waits hq hidle hnext (hfar x hup)
  | none =>
    have hnone : cueFresh n q u = u.onClk fun c => c.mapCue n fun q => q.await none := by
      cases hidle : u.clk.idle q with
      | true => exact cueFresh_idle hidle
      | false =>
        have hruns : u.clk.isSet ∧ q.config.enabled := by
          rw [Clock.idle, Bool.or_eq_false_iff, Bool.or_eq_false_iff] at hidle
          obtain ⟨⟨hset, henabled⟩, -⟩ := hidle
          exact ⟨by simpa using hset, by simpa using henabled⟩
        have hnext : nextOccurrence q.config u.clk.now = none := by rw [← hup, Clock.upcoming, if_pos hruns]
        unfold cueFresh
        rw [hidle, hnext]
    rw [hnone, State.onClk_mapCue hq]

theorem Does.rebuild_far (hq : u.clk.cues[n]? = some q) (hfar : ∀ x ∈ u.clk.upcoming q, 300 < x.2)
    (hfree : u.snd.reservations = []) :
    Does (1 + 1) [.clk (.rebuild n false)] u (u.withCue n (q.await (u.clk.upcoming q))) := by
  refine .clk (m := .rebuild n false) (f := fun c => { c with cues := c.cues.set n (q.await (u.clk.upcoming q)) })
    (ms := [.snd (.removeReservation n)]) (fun q' => ?_) (.removeReservation_none fun r hr => ?_)
  · have hrebuild : cueRebuild n false (u.during q' []) = cueFresh n q ((u.during q' []).post [.snd (.removeReservation n)]) := by
      unfold cueRebuild
      rw [State.during_clk, hq]
      rfl
    exact hrebuild.trans (cueFresh_far (u := (u.during q' []).post _) hq hfar)
  · have hmem : r ∈ u.snd.reservations := hr
    rw [hfree] at hmem
    cases hmem

/-- One cue after another is rebuilt. -/
theorem Does.rebuilds_far (hfar : ∀ q ∈ u.clk.cues, ∀ x ∈ u.clk.upcoming q, 300 < x.2) (hfree : u.snd.reservations = [])
    (k : Nat) (hk : k ≤ u.clk.cues.length) :
    Does (k * 2) ((List.range k).map fun n => Msg.clk (.rebuild n false)) u (u.onClk fun c => c.rebuiltTo k) := by
  induction k with
  | zero =>
    have hsame : (u.onClk fun c => c.rebuiltTo 0) = u := State.onClk_congr (g := id) (Clock.rebuiltTo_zero _)
    rw [hsame]
    exact .nil u
  | succ k ih =>
    have hq : u.clk.cues[k]? = some u.clk.cues[k] := List.getElem?_eq_getElem hk
    have hlast := Does.rebuild_far (u := u.onClk fun c => c.rebuiltTo k) ((Clock.rebuiltTo_get _ _).trans hq)
      (hfar _ (List.getElem_mem hk)) hfree
    have hend : (u.onClk fun c => c.rebuiltTo k).withCue k (u.clk.cues[k].await (u.clk.upcoming u.clk.cues[k])) =
        u.onClk fun c => c.rebuiltTo (k + 1) :=
      congrArg (fun l => { u with clk := { u.clk with cues := l } }) (Clock.rebuiltTo_succ hq)
    rw [List.range_succ, List.map_append, Nat.succ_mul]
    exact (ih (by omega)).append (hend ▸ hlast)

theorem Does.clock_reset (hfar : ∀ q ∈ u.clk.cues, ∀ x ∈ u.clk.upcoming q, 300 < x.2) (hfree : u.snd.reservations = []) :
    Does (1 + u.clk.cues.length * 2) [.clk .serviceReset] u
      (u.onClk fun c => { c with cues := c.cues.map fun q => q.await (c.upcoming q) }) := by
  have hall := Does.rebuilds_far hfar hfree _ le_rfl
  have hend : (u.onClk fun c => c.rebuiltTo u.clk.cues.length) =
      u.onClk fun c => { c with cues := c.cues.map fun q => q.await (c.upcoming q) } :=
    State.onClk_congr (Clock.rebuiltTo_length _)
  rw [hend] at hall
  exact .clk (m := .serviceReset) (f := id) (fun q => rfl) hall

end

end Sys2Proof.Machine
end

section
/-! PROOF of O58 ServiceReset. -/

namespace Sys2Proof.Machine

section
variable {s u : State}

/-! ### What a block's part leaves alone -/

theorem State.abortedByReset_eq (u : State) :
    u.abortedByReset = { u with prg := u.abortedByReset.prg, lnk := u.abortedByReset.lnk } := by
  by_cases hidle : u.prg.kind = .none
  · simp only [State.abortedByReset, if_pos hidle]
  · simp only [State.abortedByReset, if_neg hidle]
    rfl

theorem State.abortedByReset_idle (u : State) : u.abortedByReset.prg.kind = .none := by
  by_cases hidle : u.prg.kind = .none
  · rw [State.abortedByReset, if_pos hidle, hidle]
  · rw [State.abortedByReset, if_neg hidle]
    rfl

theorem State.abortedByReset_onSnd (u : State) (f : Sounder → Sounder) :
    (u.onSnd f).abortedByReset = u.abortedByReset.onSnd f := by
  by_cases hidle : u.prg.kind = .none
  · rw [State.abortedByReset, State.abortedByReset, if_pos hidle, if_pos (show (u.onSnd f).prg.kind = .none from hidle)]
  · rw [State.abortedByReset, State.abortedByReset, if_neg hidle, if_neg (show ¬ (u.onSnd f).prg.kind = .none from hidle)]
    rfl

theorem State.floorsReset_eq (u : State) : u.floorsReset =
    { u with flr := { table := u.flr.table.mapIdx fun f r => r.stands u.sht f }, lnk := u.floorsReset.lnk } :=
  State.noticedAll_eq ..

/-- The calls once the call dispatcher has taken its part (R131). -/
def Calls.emptied (c : Calls) : Calls :=
  { c with
    calls := []
    staff := c.staff.map fun m => { m with assigned := none }
    stations := c.stations.map fun o => o.map fun st =>
      { st with openCall := st.openCall.map fun _ => none, window := st.window.map fun _ => .stopped } }

/-- The supply with every queued request withdrawn (R77). -/
def Supply.freed (x : Supply) : Supply := { x with groups := x.groups.map fun r => { r with queue := [] } }

theorem Supply.freed_unqueued (x : Supply) : x.freed.unqueued := by
  intro r hr
  obtain ⟨g, -, rfl⟩ := List.mem_map.mp hr
  rfl

/-- The part as the chain finds it: the sounder line, the programme, the calls and the supply have taken their part. -/
def State.quieted (s : State) : State :=
  ((s.abortedByReset.onSnd fun v => { v with playing := [], queue := [], reservations := [] }).onCal Calls.emptied).onSup
    Supply.freed

theorem Does.quieted (s : State) :
    ∃ k ≤ 6, Does k [.snd .serviceReset, .prg .serviceReset, .cal .serviceReset, .sup .serviceReset] s s.quieted := by
  have hsnd : Does (1 + 0) [.snd .serviceReset] s
      (s.onSnd fun v => { v with playing := [], queue := [], reservations := [] }) :=
    .snd (m := .serviceReset) (ms := []) (fun _ => (State.post_nil _).symm) (.nil _)
  obtain ⟨k, hk, hprg⟩ := Does.programme_reset (u := s.onSnd fun v => { v with playing := [], queue := [], reservations := [] })
    rfl rfl
  rw [State.abortedByReset_onSnd] at hprg
  have hcal : Does (1 + 0) [.cal .serviceReset]
      (s.abortedByReset.onSnd fun v => { v with playing := [], queue := [], reservations := [] })
      ((s.abortedByReset.onSnd fun v => { v with playing := [], queue := [], reservations := [] }).onCal Calls.emptied) :=
    .cal (m := .serviceReset) (f := Calls.emptied) (ms := []) (fun _ => (State.post_nil _).symm) (.nil _)
  have hsup : Does (1 + 0) [.sup .serviceReset]
      ((s.abortedByReset.onSnd fun v => { v with playing := [], queue := [], reservations := [] }).onCal Calls.emptied)
      s.quieted :=
    .sup (m := .serviceReset) (f := Supply.freed) (ms := []) (fun _ => (State.post_nil _).symm) (.nil _)
  exact ⟨_, by omega, hsnd.cons (hprg.cons (hcal.cons hsup))⟩

theorem State.quieted_eq (s : State) : s.quieted = { s with
    prg := s.abortedByReset.prg, lnk := s.abortedByReset.lnk
    snd := { s.snd with playing := [], queue := [], reservations := [] }, cal := s.cal.emptied, sup := s.sup.freed } := by
  rw [State.quieted, State.abortedByReset_eq]
  rfl

/-- The part once every block has taken its part. -/
def State.serviceReset (s : State) : State :=
  (s.shuttersReset (s.chainReset s.quieted).floorsReset).onClk fun c => { c with cues := c.cues.map fun q => q.await (c.upcoming q) }

theorem Does.serviceReset (hcondition : s.fir.condition = .normal) (hwait : s.fir.heldWait = false)
    (hfar : ∀ q ∈ s.clk.cues, ∀ x ∈ s.clk.upcoming q, 300 < x.2) :
    ∃ k ≤ 20 + s.flr.table.length * 5 + s.sht.table.length * 8 + s.clk.cues.length * 2,
      Does k [.snd .serviceReset, .prg .serviceReset, .cal .serviceReset, .sup .serviceReset, .chn .serviceReset,
        .flr .serviceReset, .sht .serviceReset, .clk .serviceReset] s s.serviceReset := by
  obtain ⟨i, hi, hquieted⟩ := Does.quieted s
  have hq := s.quieted_eq
  obtain ⟨hunqueued, j, hj, hchain⟩ := Does.chain_reset (u := s.quieted) s (by rw [hq]; exact s.sup.freed_unqueued)
    (by rw [hq]; exact hcondition) (by rw [hq]; exact hwait)
  set v := s.chainReset s.quieted
  have hvchn : v.chn.clearance = [] := by
    simp only [v, State.chainReset]
    split <;> rfl
  have hvfir : v.fir = { s.fir with held := [] } := by simp only [v, State.chainReset, hq]
  have hvflr : v.flr = s.flr := by simp only [v, State.chainReset, hq]
  have hvsht : v.sht = s.sht := by simp only [v, State.chainReset, hq]
  have hvclk : v.clk = s.clk := by simp only [v, State.chainReset, hq]
  have hvsnd : v.snd.reservations = [] := by simp only [v, State.chainReset, hq]
  have hvcal : v.cal.calls = [] := by simp only [v, State.chainReset, hq, Calls.emptied]
  have hvprg : v.prg.kind = .none := by simp only [v, State.chainReset, hq, State.abortedByReset_idle]
  obtain ⟨k, hk, hfloors⟩ := Does.floors_reset hvcal hvprg
  have hf := v.floorsReset_eq
  obtain ⟨l, hl, hshutters⟩ := Does.shutters_reset (u := v.floorsReset) s
    { clearance := by rw [hf]; exact hvchn
      floors := v.floorsReset_waitsFor
      unqueued := by rw [hf]; exact hunqueued
      condition := by rw [hf]; exact (congrArg Fire.condition hvfir).trans hcondition
      heldWait := by rw [hf]; exact (congrArg Fire.heldWait hvfir).trans hwait
      held := by rw [hf]; exact congrArg Fire.held hvfir }
  have hclk : (s.shuttersReset v.floorsReset).clk = s.clk := by rw [State.shuttersReset, hf]; exact hvclk
  have hclock := Does.clock_reset (u := s.shuttersReset v.floorsReset) (by rw [hclk]; exact hfar)
    (by rw [State.shuttersReset, hf]; exact hvsnd)
  have hsht : v.floorsReset.sht = s.sht := by rw [hf]; exact hvsht
  rw [hsht] at hl
  rw [hvflr] at hk
  rw [hclk] at hclock
  exact ⟨_, by omega, hquieted.append (hchain.cons (hfloors.cons (hshutters.cons hclock)))⟩

/-! ### The state it comes to -/

/-- The records a service reset leaves, beside the programme's and the service link's. -/
def State.withReset (s u : State) : State :=
  { u with
    chn := if s.chn.brakesAtReset then s.chn.emptied.into .braking else s.chn.emptied
    sht := { table := s.sht.table.map fun o => o.map Shutter.returned }
    sup := ((List.range s.sht.table.length).filter s.sht.isRaising).foldl (fun x n => s.supEnded (.shutter n) x)
      (if s.chn.brakesAtReset then s.supEnded .chain s.sup.freed else s.sup.freed)
    flr := { table := s.flr.table.mapIdx fun f r => r.stands s.sht f }
    snd := { s.snd with playing := [], queue := [], reservations := [] }
    cal := s.cal.emptied
    clk := { u.clk with cues := s.clk.cues.map fun q => q.await (s.clk.upcoming q) }
    fir := { s.fir with held := [] } }

/-- The floors' notices stand behind the programme's. -/
theorem State.serviceReset_eq (s : State) : s.serviceReset =
    s.withReset (s.abortedByReset.noticedAll (s.flr.standNotices s.sht s.flr.table.length)) := by
  set ns := s.flr.standNotices s.sht s.flr.table.length
  set v := s.chainReset s.quieted
  have hv : v = s.chainReset s.quieted := rfl
  rw [s.quieted_eq] at hv
  have hw : v.floorsReset =
      State.noticedAll (v.onFlr fun t => { table := t.table.mapIdx fun f r => r.stands v.sht f }) ns := by
    rw [State.floorsReset, hv]
    rfl
  set w := v.onFlr fun t => { table := t.table.mapIdx fun f r => r.stands v.sht f } with hwv
  calc s.serviceReset
      = (s.shuttersReset (w.noticedAll ns)).onClk fun c => { c with cues := c.cues.map fun q => q.await (c.upcoming q) } := by
        rw [State.serviceReset, hw]
    _ = ((s.shuttersReset w).onClk fun c => { c with cues := c.cues.map fun q => q.await (c.upcoming q) }).noticedAll ns :=
        State.noticedAll_comm w ns (h := fun u => (s.shuttersReset u).onClk fun c =>
          { c with cues := c.cues.map fun q => q.await (c.upcoming q) }) fun _ _ => rfl
    _ = (s.withReset s.abortedByReset).noticedAll ns := by
        rw [hwv, hv, s.abortedByReset_eq]
        rfl
    _ = s.withReset (s.abortedByReset.noticedAll ns) :=
        (State.noticedAll_comm _ ns (h := s.withReset) fun _ _ => rfl).symm

end

/-- The notices of the floors, one floor after another. -/
theorem State.noticedAll_standNotices (a : State) (t : Floors) (sht : Shutters) (k : Nat) {told : State → Nat → State}
    (hnone : ∀ u f, t.table[f]? = none → told u f = u)
    (hsome : ∀ u f, ∀ r ∈ t.table[f]?, told u f = if sht.standing f r.state = r.state then u
      else u.noticed (.floorState f r.state (sht.standing f r.state) .serviceReset none none none)) :
    (List.range k).foldl told a = a.noticedAll (t.standNotices sht k) := by
  have hone (u : State) (f : Nat) : told u f = u.noticedAll ((t.table[f]?).bind fun r => r.standNotice sht f).toList := by
    cases hr : t.table[f]? with
    | none => exact hnone u f hr
    | some r =>
      rw [hsome u f r hr, Option.bind_some, Floor.standNotice]
      split <;> rfl
  induction k with
  | zero => rfl
  | succ k ih =>
    rw [List.range_succ, List.foldl_append, ih, Floors.standNotices_succ, State.noticedAll_append]
    exact hone _ k

/-- Settles O58: each block takes its part in turn, and what it hands on to a block that has taken its own is without
effect; the raises that end are the exception, and the floors' notices follow the programme's. -/
theorem serviceReset : Obligations.ServiceReset := by
  intro s tag hs
  constructor
  · intro hfire
    refine exec_unchanged rfl hs (fun hw => absurd hw Bool.false_ne_true) fun q => ?_
    have hlocked : (s.fir.condition != .normal) = true := by simpa using hfire
    simp only [serveOrder, orderServiceReset, State.during_fir, hlocked, if_true]
    rfl
  · intro hcondition hwait hcues hfloors hshutters occurrence hfar rebuilt brakes chain freed ended raising standing aborted told
    obtain ⟨k, hk, hd⟩ := Does.serviceReset hcondition hwait hfar
    have hexec : exec (.serviceReset tag) s = _ := exec_of_does (v := s) (r := .done false []) rfl hs
      (fun hw => absurd hw Bool.false_ne_true) (fun q => by
        have hopen : (s.fir.condition != .normal) = false := by simpa using hcondition
        simp only [serveOrder, orderServiceReset, State.during_fir, hopen]
        rfl) hd (hroom := by rw [s.serviceReset_eq]; rfl) (hn := by omega)
    refine hexec.trans (congrArg (fun w : State => Host.Outcome.next (w.answered tag .serviceReset (.done false []))) ?_)
    have hstanding (f : Nat) (st : FloorState) : standing f st = s.sht.standing f st := by cases st <;> rfl
    have haborted : aborted = s.abortedByReset := rfl
    have htold : told = s.abortedByReset.noticedAll (s.flr.standNotices s.sht s.flr.table.length) :=
      State.noticedAll_standNotices _ _ _ _ (fun u f hr => by simp only [hr]) fun u f r hr => by
        rw [Option.mem_def.mp hr]
        simp only [hstanding]
    have hfloor (f : Nat) (r : Floor) : (if standing f r.state = r.state then r
        else { r with
          state := standing f r.state, inStep := false
          confirmation := if standing f r.state = .trading then none else r.confirmation }) = r.stands s.sht f := by
      rw [hstanding]
      rfl
    have hchain : (if s.chn.brakesAtReset then s.chn.emptied.into .braking else s.chn.emptied) = { chain with
        clearance := [], creepRefused := false, plan := none, creepCount := 0, request := none
        creepSet := if s.chn.request = none then s.chn.creepSet else [] } := by
      simp only [chain]
      cases hb : brakes with
      | true => exact if_pos hb
      | false => exact if_neg (Bool.eq_false_iff.mp hb)
    have hclk : told.clk = s.clk := by
      rw [htold, State.noticedAll_eq, s.abortedByReset_eq]
    rw [s.serviceReset_eq, ← htold, State.withReset, hclk, hchain]
    simp only [hfloor]
    rfl

end Sys2Proof.Machine
end
